-- ==== Sys2Proof/Word.lean ====
section
/-! DEFINITION. The widths of the PX-816: bytes and addresses as bit vectors, the numbered blocks (groups, streams,
slots, accumulator sets, capture slots) as bounded numbers, and the one write into a fixed table of blocks. -/

namespace Sys2Proof

/-- One byte of a frame (R196). -/
abbrev Byte := BitVec 8

/-- A 48-bit Ethernet address, its first byte on the wire the most significant (R180, R199). -/
abbrev Addr := BitVec 48

/-- A check group, 0 to 7 (R41). -/
abbrev GroupId := Fin 8

/-- A stream entry, 0 to 15 (R21). -/
abbrev StreamId := Fin 16

/-- One of the four slots of a check group (R41). -/
abbrev SlotIx := Fin 4

/-- One of a group's two accumulator sets (R65). -/
abbrev SetIx := Fin 2

/-- One of the part's two capture slots (R156). -/
abbrev CaptureIx := Fin 2

/-- The numbers 0 to 7 in rising order, the order in which the model walks the groups. -/
def groupIxs : List GroupId := [0, 1, 2, 3, 4, 5, 6, 7]

/-- The numbers 0 to 15 in rising order, the order in which the model walks the streams. -/
def streamIxs : List StreamId := [0, 1, 2, 3, 4, 5, 6, 7, 8, 9, 10, 11, 12, 13, 14, 15]

/-- The numbers 0 to 3 in rising order. -/
def slotIxs : List SlotIx := [0, 1, 2, 3]

/-- The other one of two numbered blocks: the other accumulator set, or the other capture slot. -/
def other (i : Fin 2) : Fin 2 := if i = 0 then 1 else 0

/-- The table `v` with its member `i` replaced by `x`. -/
def upd {α : Type} {n : Nat} (v : Vector α n) (i : Fin n) (x : α) : Vector α n := v.set i x i.isLt

@[simp] theorem upd_get {α : Type} {n : Nat} (v : Vector α n) (i : Fin n) (x : α) (j : Nat) (h : j < n) :
    (upd v i x)[j] = if i.val = j then x else v[j] := by
  simp only [upd, Vector.getElem_set]

theorem upd_get_same {α : Type} {n : Nat} (v : Vector α n) (i : Fin n) (x : α) : (upd v i x)[i] = x := by simp

theorem upd_get_ne {α : Type} {n : Nat} (v : Vector α n) {i j : Fin n} (x : α) (h : i ≠ j) :
    (upd v i x)[j] = v[j] := by
  simp [Fin.val_inj, h]

@[simp] theorem other_ne (i : Fin 2) : other i ≠ i := by revert i; decide

@[simp] theorem other_other (i : Fin 2) : other (other i) = i := by revert i; decide

theorem mem_groupIxs (g : GroupId) : g ∈ groupIxs := by revert g; decide

theorem mem_streamIxs (i : StreamId) : i ∈ streamIxs := by revert i; decide

end Sys2Proof
end

