-- ==== Sys2Proof/Config.lean ====
section
/-! DEFINITION. What the part fixes: the capacities of its queues, the time limits and the largest payload, and the
values that the manual leaves open and that the model leaves free. -/

namespace Sys2Proof

/-- The Forward FIFO holds up to 32 frames (R10). -/
@[simp, reducible] def Config.forwardFifoSize : Nat := 32

/-- The Reverse FIFO holds up to 16 frames (R11). -/
@[simp, reducible] def Config.reverseFifoSize : Nat := 16

/-- The Analysis Queue holds up to 48 entries (R36). -/
@[simp, reducible] def Config.analysisQueueSize : Nat := 48

/-- The Event Queue holds up to 64 records (R149). -/
@[simp, reducible] def Config.eventQueueSize : Nat := 64

/-- The request queue holds up to 4 requests (R173). -/
@[simp, reducible] def Config.requestQueueSize : Nat := 4

/-- The answer queue holds up to 4 answers (R174, R175). -/
@[simp, reducible] def Config.answerQueueSize : Nat := 4

/-- The report queue holds up to 8 window reports (R183). -/
@[simp, reducible] def Config.reportQueueSize : Nat := 8

/-- The hold count of a capture slot is at most 15 (R156). -/
@[simp, reducible] def Config.holdLimit : Nat := 15

/-- Reading the image region takes at most 200 ms (R192). -/
@[simp, reducible] def Config.imageReadLimit : BitVec 32 := 200

/-- A store ends at most 400 ms after its taking (R190). -/
@[simp, reducible] def Config.storeLimit : BitVec 32 := 400

/-- A pending part reset is asserted 500 ms after RESET PART was taken (R186). -/
@[simp, reducible] def Config.resetPartLimit : BitVec 32 := 500

/-- One rate interval is 1000 ms (R33). -/
@[simp, reducible] def Config.rateInterval : Nat := 1000

/-- The largest magnitude of a sample value (R35). -/
@[simp, reducible] def Config.valueLimit : Nat := 8388607

/-- The clamp of every ratio, TD, RF and PPR (R95). -/
@[simp, reducible] def Config.figureLimit : Nat := 65535

/-- FREE VALUE (assumption log 8). A store ended by a part reset leaves the image region "blank or bad" (R191); the
manual does not say which. True stands for bad. Applied to the state's counter of free values. -/
opaque Config.interruptedImageBad : Nat → Bool

/-- The largest payload of an answer: 28 bytes of descriptor and 768 bytes of values (R196). -/
@[simp, reducible] def Config.payloadLimit : Nat := 796

/-- FREE VALUE (assumption log 13). Chapter 12 lays out some payloads and gives no layout of the others: how many bytes
such a payload takes, for the numbers of its fields. -/
opaque Config.payloadSize : List Nat → Nat

/-- FREE VALUE (assumption log 13). Byte `i` of such a payload, or of the descriptor in an answer to READ CAPTURE, for
the numbers of its fields. -/
opaque Config.payloadByte : List Nat → Nat → Byte

end Sys2Proof
end

