-- ==== Sys2Proof/Syntax.lean ====
section
/-! DEFINITION. The command language of the PX-816: one constructor of `Instr` per row of spec/opcode_table.json, and
the records that commands carry or that requests write: frames, requests, stream entries, group records, limit rows
and part settings. -/

namespace Sys2Proof

/-- The two Ethernet ports: A toward the measuring units, B toward the relay and the station controller. -/
inductive Port where
  | a
  | b
  deriving DecidableEq, Repr

/-- A frame as its reception completes at a port: its bytes from the destination address on, and apart from them the
four bytes of frame check sequence that came last, as one 32-bit number (R2; assumption log 9). -/
structure WireFrame where
  bytes : List Byte
  check : BitVec 32
  deriving DecidableEq, Repr

/-- The length R2 bounds: from the first byte of the destination address to the last byte of the check sequence. -/
def WireFrame.length (f : WireFrame) : Nat := f.bytes.length + 4

/-- The commands: one constructor per row of spec/opcode_table.json. A constructor's operands are what the outside
world chooses at that step (the port, the frame, the stream whose deadline is taken, the group whose pass is made).
The 26 requests carry no operand of their own: a request's tag, source and arguments stand in the request at the head
of the request queue, which is what the Management Unit takes (R173, R174; assumption log 2). -/
inductive Instr where
  /-- POWER_ON (R192). -/
  | powerOn
  /-- LOSS_OF_SUPPLY (R191). -/
  | lossOfSupply
  /-- NRESET_ASSERTION (R192). -/
  | nresetAssertion
  /-- NRESET_RELEASE (R192). -/
  | nresetRelease
  /-- IMAGE_READ (R192, R193, R194). -/
  | imageRead
  /-- IMAGE_READ_TIME_LIMIT (R192). -/
  | imageReadTimeLimit
  /-- LINK_ESTABLISHED at a port (R1). -/
  | linkEstablished (p : Port)
  /-- LINK_LOSS at a port (R1). -/
  | linkLoss (p : Port)
  /-- FRAME_ARRIVAL: the reception of a frame completes at a port (R2). -/
  | frameArrival (p : Port) (f : WireFrame)
  /-- PORT_A_TRANSMISSION_START (R11). -/
  | portATransmissionStart
  /-- TRANSMIT_ARBITER_CHOICE (R17). -/
  | transmitArbiterChoice
  /-- TRANSMISSION_COMPLETE at a port (R3). -/
  | transmissionComplete (p : Port)
  /-- SILENCE_DEADLINE of a stream (R31). -/
  | silenceDeadline (i : StreamId)
  /-- RATE_INTERVAL_END (R33). -/
  | rateIntervalEnd
  /-- APPLY_ENTRY: the head entry of the Analysis Queue is applied to a group (R49). -/
  | applyEntry (g : GroupId)
  /-- CYCLE_TOO_LATE: a pass of a group in which a cycle becomes too late (R52). -/
  | cycleTooLate (g : GroupId)
  /-- ACQUISITION_TIMEOUT: a pass of a group in which the acquisition times out (R55). -/
  | acquisitionTimeout (g : GroupId)
  /-- HOLDOVER_WINDOW_CLOSE: a pass of a group in which a holdover window closes (R58). -/
  | holdoverWindowClose (g : GroupId)
  /-- EVALUATION_COMPLETION (R81). -/
  | evaluationCompletion
  /-- LEAK: an evaluation completion in which the leak counter reaches Lk (R125). -/
  | leak
  /-- RESET_PART_TIME_LIMIT (R186). -/
  | resetPartTimeLimit
  /-- STORE_COMPLETION (R190). -/
  | storeCompletion
  /-- STORE_READ_BACK_FAULT (R190). -/
  | storeReadBackFault
  /-- STORE_TIME_LIMIT (R190). -/
  | storeTimeLimit
  /-- UNSUPPORTED (R174). -/
  | unsupported
  /-- IDENTIFY (R177). -/
  | identify
  /-- READ_STATUS (R178). -/
  | readStatus
  /-- READ_ENTRY_STREAM (R23). -/
  | readEntryStream
  /-- READ_ENTRY_GROUP (R43). -/
  | readEntryGroup
  /-- READ_ENTRY_LIMIT_BANK (R111). -/
  | readEntryLimitBank
  /-- READ_ENTRY_PART_SETTINGS (R180). -/
  | readEntryPartSettings
  /-- WRITE_ENTRY_STREAM (R22). -/
  | writeEntryStream
  /-- WRITE_ENTRY_GROUP (R42). -/
  | writeEntryGroup
  /-- WRITE_ENTRY_LIMIT_BANK (R109). -/
  | writeEntryLimitBank
  /-- WRITE_ENTRY_PART_SETTINGS (R180). -/
  | writeEntryPartSettings
  /-- COMMIT_LIMITS (R112, R113). -/
  | commitLimits
  /-- GROUP_ENABLE (R44, R45). -/
  | groupEnable
  /-- GROUP_DISABLE (R46). -/
  | groupDisable
  /-- READ_RESULT (R102, R146). -/
  | readResult
  /-- READ_EVENTS (R153). -/
  | readEvents
  /-- CLEAR_FIRST (R144). -/
  | clearFirst
  /-- RELEASE_TRIP (R130, R131). -/
  | releaseTrip
  /-- SNAP (R159). -/
  | snap
  /-- HOLD_CAPTURE (R165). -/
  | holdCapture
  /-- RELEASE_CAPTURE (R166). -/
  | releaseCapture
  /-- READ_CAPTURE (R170). -/
  | readCapture
  /-- READ_ARRAY (R85). -/
  | readArray
  /-- STORE_CONFIG (R189). -/
  | storeConfig
  /-- RESTART_ANALYSIS (R185). -/
  | restartAnalysis
  /-- RESET_PART (R186). -/
  | resetPart
  deriving DecidableEq, Repr

/-- A management request as it stands in the request queue (R173, R199): the source address, the tag, the code, the
argument length field, and every byte the frame carries after that field. -/
structure Request where
  src : Addr
  tag : BitVec 16
  code : Byte
  argLen : Nat
  body : List Byte
  deriving DecidableEq, Repr

/-- The sample rate S of a stream (R21). -/
inductive Rate where
  | r4800
  | r9600
  | r14400
  deriving DecidableEq, Repr, Inhabited

/-- S, samples per second (R21). -/
def Rate.samples : Rate → Nat
  | .r4800 => 4800
  | .r9600 => 9600
  | .r14400 => 14400

/-- The nominal supply frequency F0 of a group (R41). -/
inductive Freq where
  | f50
  | f60
  deriving DecidableEq, Repr, Inhabited

/-- F0 in hertz (R41). -/
def Freq.hertz : Freq → Nat
  | .f50 => 50
  | .f60 => 60

/-- The order of the bytes within each sample value (R21, R34). -/
inductive ByteOrder where
  | big
  | little
  deriving DecidableEq, Repr, Inhabited

/-- Whether passing frames carry an annex (R21). -/
inductive AnnexMode where
  | none
  | append
  deriving DecidableEq, Repr, Inhabited

/-- One entry of the Stream Table (R21). -/
structure StreamEntry where
  valid : Bool
  matchId : BitVec 16
  ignoreMask : BitVec 16
  rate : Rate
  valueCount : Nat
  byteOrder : ByteOrder
  annexMode : AnnexMode
  annexGroup : GroupId
  silence : Nat
  deriving DecidableEq, Repr, Inhabited

/-- The kind of a used slot, and of an order-list entry (R41). -/
inductive Kind where
  | ac
  | dc
  deriving DecidableEq, Repr, Inhabited

/-- One slot of a group: unused, or a value index with a kind (R41). -/
inductive SlotUse where
  | unused
  | used (kind : Kind) (value : Fin 8)
  deriving DecidableEq, Repr, Inhabited

/-- One order-list entry: an order h and the kind of slot it applies to (R41). -/
structure Order where
  h : Nat
  kind : Kind
  deriving DecidableEq, Repr, Inhabited

/-- A group configuration record (R41, with the persistence settings of R121). -/
structure GroupRecord where
  stream : StreamId
  freq : Freq
  cycles : Nat
  slots : Vector SlotUse 4
  refSlot : SlotIx
  deadband : Nat
  fundFloor : Nat
  dcFloor : Nat
  orders : List Order
  gapLimit : Nat
  heldLimit : Nat
  bHi : Nat
  bLo : Nat
  tripWeight : Nat
  leakPeriod : Nat
  tripPersistence : Nat
  reportEnable : Bool
  alertLine : Bool
  tripLine : Bool
  tripFunction : Bool
  autoCapture : Bool
  enableAtStart : Bool
  deriving DecidableEq, Repr, Inhabited

/-- A limit row: its notice, alert and trip thresholds, 0 for an unused level (R104). -/
structure LimitRow where
  notice : Nat
  alert : Nat
  trip : Nat
  deriving DecidableEq, Repr, Inhabited

/-- The part settings apart from the station addresses: the two report watermarks and the starvation limit K (R180). -/
structure PartSettings where
  high : Nat
  low : Nat
  starvationLimit : Nat
  deriving DecidableEq, Repr, Inhabited

end Sys2Proof
end

