-- ==== Sys2Proof/Decode.lean ====
section
/-! DEFINITION. The words of the opcode table. Its rows are events and requests of a block and carry no bits, so no
word spells a command; a request's own code is read from its frame (Machine/Operands.lean). -/

namespace Sys2Proof

/-- The command that a table word spells: none, since no row of spec/opcode_table.json gives bits. -/
def decodeTableWord (_nbits _w : Nat) : Option Instr := none

end Sys2Proof
end

