-- ==== Sys2Proof/WellFormed.lean ====
section
/-! DEFINITION. The ranges the manual gives for the records that requests write and tables hold. Commands themselves
are well-formed by their types: a port, a stream and a group are bounded, and every list of bytes is a frame that may
reach a port, which R2 then judges. -/

namespace Sys2Proof

/-- The ranges of R21: V from 1 to 8, T_sil from 1 to 100. -/
def StreamEntry.wf (e : StreamEntry) : Bool :=
  decide (1 ≤ e.valueCount) && decide (e.valueCount ≤ 8) && decide (1 ≤ e.silence) && decide (e.silence ≤ 100)

/-- The ranges of R121 for the persistence settings. -/
def GroupRecord.persistenceWf (r : GroupRecord) : Bool :=
  decide (1 ≤ r.bHi) && decide (r.bHi ≤ 255) && decide (r.bLo < r.bHi) && decide (1 ≤ r.tripWeight) &&
    decide (r.tripWeight ≤ 8) && decide (r.leakPeriod ≤ 255) && decide (1 ≤ r.tripPersistence) &&
    decide (r.tripPersistence ≤ 16)

/-- The ranges of R41, with those of R121. -/
def GroupRecord.wf (r : GroupRecord) : Bool :=
  decide (1 ≤ r.cycles) && decide (r.cycles ≤ 16) && decide (r.deadband ≤ Config.valueLimit) &&
    decide (r.fundFloor ≤ Config.valueLimit) && decide (r.dcFloor ≤ Config.valueLimit) &&
    decide (r.orders.length ≤ 16) && r.orders.all (fun o => decide (o.h ≤ 255)) &&
    decide (1 ≤ r.gapLimit) && decide (r.gapLimit ≤ 16) && decide (r.heldLimit ≤ 255) && r.persistenceWf

/-- The ranges of R104 (each threshold from 0 to 65535) and the law of R110: the nonzero thresholds never decrease
from notice to alert to trip. -/
def LimitRow.wf (r : LimitRow) : Bool :=
  decide (r.notice ≤ 65535) && decide (r.alert ≤ 65535) && decide (r.trip ≤ 65535) &&
    (decide (r.alert = 0) || decide (r.notice ≤ r.alert)) &&
    (decide (r.trip = 0) || (decide (r.notice ≤ r.trip) && decide (r.alert ≤ r.trip)))

/-- The ranges of R38 and R180: the low watermark below the high one, at most 48, and K from 1 to 255. -/
def PartSettings.wf (p : PartSettings) : Bool :=
  decide (1 ≤ p.high) && decide (p.high ≤ 48) && decide (p.low < p.high) && decide (1 ≤ p.starvationLimit) &&
    decide (p.starvationLimit ≤ 255)

/-- An address that a part may have: its group bit, bit 0 of its first byte, is clear (R180, R199). -/
def individualAddress (a : Addr) : Bool := !a.getLsbD 40

/-- A request as a frame can carry it: the argument length field has 16 bits (R199). -/
def Request.wf (r : Request) : Bool := decide (r.argLen < 65536)

end Sys2Proof
end

