-- ==== Sys2Proof/Machine/Defaults.lean ====
section
/-! DEFINITION. The values that start-up loads when it loads defaults instead of a stored image (R21, R41, R121, R38,
R180, R194). -/

namespace Sys2Proof.Machine

/-- The default stream entry: not valid (R21). -/
def defaultStreamEntry : StreamEntry :=
  { valid := false, matchId := 0, ignoreMask := 0, rate := .r4800, valueCount := 1, byteOrder := .big,
    annexMode := .none, annexGroup := 0, silence := 10 }

/-- The default group configuration record (R41, R121). -/
def defaultGroupRecord : GroupRecord :=
  { stream := 0, freq := .f50, cycles := 10, slots := Vector.replicate 4 .unused, refSlot := 0, deadband := 0,
    fundFloor := 0, dcFloor := 0, orders := [], gapLimit := 4, heldLimit := 0, bHi := 6, bLo := 2, tripWeight := 2,
    leakPeriod := 20, tripPersistence := 3, reportEnable := false, alertLine := false, tripLine := false,
    tripFunction := false, autoCapture := false, enableAtStart := false }

/-- A limit row with no level used (R104, R106). -/
def zeroRow : LimitRow := { notice := 0, alert := 0, trip := 0 }

/-- The default bank: every threshold of every row is 0 (R106). -/
def defaultBank : Vector LimitRow 19 := Vector.replicate 19 zeroRow

/-- The default part settings: watermarks 40 and 24, K 32 (R38, R180). -/
def defaultSettings : PartSettings := { high := 40, low := 24, starvationLimit := 32 }

end Sys2Proof.Machine
end

