-- ==== Sys2Proof/Machine/Image.lean ====
section
/-! DEFINITION. The stored image of the Configuration Store (R187): its contents, the image region with the CRC that seals
it, the three conditions of the region, and the free values that concern it. -/

namespace Sys2Proof.Machine

/-- What the stored image and a snapshot hold (R187). -/
structure ImageContents where
  streams : Vector StreamEntry 16
  records : Vector GroupRecord 8
  nowBanks : Vector (Vector LimitRow 19) 8
  address : Addr
  settings : PartSettings
  deriving DecidableEq, Repr, Inhabited

/-- The image region (R187): never written, or invalidated, it is blank; otherwise it holds contents and the CRC-32 that
was written with them. -/
inductive Image where
  | blank
  | written (contents : ImageContents) (crc : BitVec 32)
  deriving DecidableEq, Repr

/-- The condition of the image region (R187): only a good image has contents that anything reads. -/
inductive ImageCondition where
  | blank
  | bad
  | good (contents : ImageContents)
  deriving DecidableEq, Repr

end Sys2Proof.Machine

namespace Sys2Proof

/-- FREE VALUE (assumption log 14). The bytes over which the CRC-32 of the stored image is computed: R187 says that it is
computed over the contents, and no rule lays them out. -/
opaque Config.imageBytes : Machine.ImageContents → List Byte

/-- FREE VALUE (assumption log 8). What a store that a part reset ended had written, where it leaves the region bad (R191).
Applied to the state's counter of free values. -/
opaque Config.interruptedContents : Nat → Machine.ImageContents

/-- FREE VALUE (assumption log 8). The CRC in the region that such a store leaves bad, but for the one value that would
agree with the contents. Applied to the state's counter of free values. -/
opaque Config.interruptedCrc : Nat → BitVec 32

end Sys2Proof
end

