-- ==== Sys2Proof/Machine/State.lean ====
section
/-! DEFINITION. The state of the PX-816 as plain data: every table, record, queue, counter, flag and pin that the
manual names, block by block, with `State.reset`, the part right after a part reset is asserted. -/

namespace Sys2Proof.Machine

/-! ## Streams -/

/-- A stream's activity (R26). -/
inductive Activity where
  | unseen
  | active
  | silent
  deriving DecidableEq, Repr

/-- The supervision record of one stream (R26). -/
structure Supervision where
  activity : Activity
  expected : Nat
  deadline : Option (BitVec 32)
  count : Nat
  fullInterval : Bool
  suspect : Bool
  rangeMark : Bool
  lastSync : Bool
  deriving DecidableEq, Repr

/-- The supervision record after a part reset, a restart or a write to its entry (R26). -/
def Supervision.fresh : Supervision :=
  { activity := .unseen, expected := 0, deadline := none, count := 0, fullInterval := false, suspect := false,
    rangeMark := false, lastSync := false }

/-- What value intake says of one value (R35). -/
inductive Mark where
  | plain
  | invalid
  | clamped
  deriving DecidableEq, Repr

/-- One value of an Analysis Queue entry with its mark (R35). -/
structure MarkedValue where
  value : Int
  mark : Mark
  deriving DecidableEq, Repr

/-- One entry of the Analysis Queue (R35): the stream, q, the values, the rate status and the silence-follows mark. -/
structure QueueEntry where
  stream : StreamId
  seq : Nat
  values : List MarkedValue
  suspect : Bool
  silenceFollows : Bool
  deriving DecidableEq, Repr

/-- The Analysis Queue (R36), the application of its head entry, and its suspension state (R39). `served` holds the
groups the head entry under application has reached, none while no application of the head entry has begun;
`noticeAtLeave` is a silence notice that waits for that entry to leave (R32). -/
structure AnalysisQueue where
  entries : List QueueEntry
  served : List GroupId
  noticeAtLeave : Bool
  suspended : Bool
  deriving DecidableEq, Repr

/-! ## Groups -/

/-- A group's timing state (R48). A group is enabled exactly when it is not DISABLED (section 3.2). -/
inductive Timing where
  | disabled
  | noSignal
  | acquiring
  | tracking
  | holdover
  | aligning
  deriving DecidableEq, Repr

/-- A group's tracker record (R48). -/
structure Tracker where
  timing : Timing
  armed : Bool
  cycleCount : Option Nat
  lockCount : Nat
  acqCount : Nat
  winCycles : Nat
  winSamples : Nat
  expected : Option Nat
  last : Vector Int 4
  deriving DecidableEq, Repr

/-- The tracker record with its enable values, in the timing state `t` (R48). -/
def Tracker.fresh (t : Timing) : Tracker :=
  { timing := t, armed := false, cycleCount := none, lockCount := 0, acqCount := 0, winCycles := 0, winSamples := 0,
    expected := none, last := Vector.replicate 4 0 }

/-- One sample as a group forms it (R50): a value per slot (0 for an unused slot) and the three marks. -/
structure Sample where
  vals : Vector Int 4
  held : Bool
  clamped : Bool
  suspect : Bool
  deriving DecidableEq, Repr

/-- One pair of sums (R65). -/
structure Pair where
  re : Int
  im : Int
  deriving DecidableEq, Repr

/-- The sums of one slot in a set (R65): the pair for h = 1, the pairs of the order-list positions in list order, and
for the DC slot the plain sum, the sum of squares and the extreme values. Positions past the list's end hold 0 and 0. -/
structure SlotSums where
  fund : Pair
  pairs : List Pair
  sum : Int
  sumSq : Nat
  min : Option Int
  max : Option Int
  deriving DecidableEq, Repr

/-- Cleared sums (R65). -/
def SlotSums.zero : SlotSums :=
  { fund := ⟨0, 0⟩, pairs := [], sum := 0, sumSq := 0, min := none, max := none }

/-- The state of an accumulator set (R65). -/
inductive SetState where
  | idle
  | accumulating
  | waiting
  | evaluating
  deriving DecidableEq, Repr

/-- The timing kind of a window (R65). Where no window has been opened since it was discarded or since a part reset it is
`unset`, which reads as 0 (R65, R156). -/
inductive WindowKind where
  | unset
  | tracking
  | holdover
  deriving DecidableEq, Repr

/-- One accumulator set (R65). -/
structure AccSet where
  state : SetState
  number : BitVec 32
  startSeq : Nat
  kind : WindowKind
  cycles : Nat
  m : Nat
  held : Nat
  clamped : Nat
  suspect : Bool
  sums : Vector SlotSums 4
  limitGen : BitVec 8
  deriving DecidableEq, Repr

/-- An accumulator set after a part reset: IDLE and cleared, its four kept fields and its limit generation reading as 0
(R65, R78). -/
def AccSet.fresh : AccSet :=
  { state := .idle, number := 0, startSeq := 0, kind := .unset, cycles := 0, m := 0, held := 0, clamped := 0,
    suspect := false, sums := Vector.replicate 4 SlotSums.zero, limitGen := 0 }

/-- A row level, and the window level W (R118, R119). -/
inductive RowLevel where
  | clear
  | notice
  | alert
  | trip
  deriving DecidableEq, Repr

/-- One cell of a window (R96): a valued cell carries its value and its row level. -/
inductive Cell where
  | absent
  | notEvaluated
  | value (v : Nat) (level : RowLevel)
  deriving DecidableEq, Repr

/-- A result record that holds a window (R99); cell 4 × row + slot is that of the row and slot. -/
structure ResultRecord where
  number : BitVec 32
  startSeq : Nat
  kind : WindowKind
  cycles : Nat
  m : Nat
  frequency : Nat
  held : Nat
  clamped : Nat
  degHoldover : Bool
  degHeld : Bool
  degClamped : Bool
  degSuspect : Bool
  idle : Bool
  generation : BitVec 8
  fundamentals : Vector Nat 4
  mean : Int
  rms : Nat
  spread : Nat
  cells : Vector Cell 76
  level : RowLevel
  deriving DecidableEq, Repr

/-- A first-exceedance record that is present (R140). -/
structure FirstRecord where
  number : BitVec 32
  row : Nat
  slot : SlotIx
  value : Nat
  threshold : Nat
  level : RowLevel
  generation : BitVec 8
  degraded : Bool
  repeats : Nat
  latest : BitVec 32
  deriving DecidableEq, Repr

/-- A group's standing (R122). -/
inductive Level where
  | normal
  | alarm
  | tripped
  deriving DecidableEq, Repr

/-- A group's Level Unit (R122). -/
structure LevelUnit where
  bucket : Nat
  leakCounter : Nat
  run : Nat
  level : Level
  deriving DecidableEq, Repr

/-- The Level Unit after reset, enable, disable and restart (R122). -/
def LevelUnit.fresh : LevelUnit := { bucket := 0, leakCounter := 0, run := 0, level := .normal }

/-- One check group: its configuration record (R41), tracker record (R48), accumulator sets (R65), cycle buffer
(R74), window counter (R67), result record (R99), first-exceedance record and next-row set (R140; bit n is row n),
Level Unit (R122), and its part of the Limit Store: the NOW and NEXT banks, the generation and the commit-pending
flag (R106 to R108). -/
structure Group where
  config : GroupRecord
  tracker : Tracker
  sets : Vector AccSet 2
  buffer : List Sample
  counter : BitVec 32
  result : Option ResultRecord
  first : Option FirstRecord
  nextRows : BitVec 19
  levelUnit : LevelUnit
  nowBank : Vector LimitRow 19
  nextBank : Vector LimitRow 19
  generation : BitVec 8
  commitPending : Bool
  deriving DecidableEq, Repr

/-- A group after a part reset, with the configuration record and the banks of the defaults (R47, R78, R101, R107,
R108, R122, R140, R194; assumption log 6 for the record and the banks before start-up loads them). -/
def Group.fresh : Group :=
  { config := defaultGroupRecord, tracker := Tracker.fresh .disabled, sets := Vector.replicate 2 AccSet.fresh,
    buffer := [], counter := 0, result := none, first := none, nextRows := 0, levelUnit := LevelUnit.fresh,
    nowBank := defaultBank, nextBank := defaultBank, generation := 0, commitPending := false }

/-! ## The Event Queue -/

/-- Why a window was aborted (R77). -/
inductive AbortReason where
  | timingLoss
  | gap
  | silence
  deriving DecidableEq, Repr

/-- Why a level changed (R129). -/
inductive LevelCause where
  | window
  | release
  deriving DecidableEq, Repr

/-- Why a claim on a capture slot failed (R158). -/
inductive ClaimFailure where
  | noSlot
  | holdLimit
  deriving DecidableEq, Repr

/-- The sixteen kinds of event, each with its subject and detail 1 (R151). CAPTURE MISS always carries trigger TRIP. -/
inductive Event where
  | groupEnabled (g : GroupId)
  | groupDisabled (g : GroupId)
  | timing (g : GroupId) (t : Timing)
  | level (g : GroupId) (l : Level) (cause : LevelCause)
  | windowAborted (g : GroupId) (reason : AbortReason)
  | overrun (g : GroupId)
  | streamActive (i : StreamId)
  | streamSilent (i : StreamId)
  | rateSuspect (i : StreamId)
  | rateOk (i : StreamId)
  | sequenceRange (i : StreamId)
  | captureReady (g : GroupId) (slot : CaptureIx)
  | captureMiss (g : GroupId) (reason : ClaimFailure)
  | limitsCommitted (g : GroupId) (generation : BitVec 8)
  | storeDone
  | storeFault
  deriving DecidableEq, Repr

/-- An event record (R147). -/
structure EventRecord where
  seq : BitVec 16
  stamp : BitVec 32
  event : Event
  detail2 : Option (BitVec 16)
  lostAfter : Bool
  deriving DecidableEq, Repr

/-- The Event Queue with its sequence counter (R148, R149). -/
structure EventQueue where
  records : List EventRecord
  counter : BitVec 16
  deriving DecidableEq, Repr

/-! ## Capture slots -/

/-- The state of a capture slot (R157). -/
inductive CaptureState where
  | free
  | armed
  | filling
  | held
  deriving DecidableEq, Repr

/-- The request that took a slot from FREE (R156). -/
inductive Trigger where
  | snap
  | trip
  deriving DecidableEq, Repr

/-- One capture slot (R156). -/
structure CaptureSlot where
  state : CaptureState
  owner : Option GroupId
  holds : Nat
  auto : Bool
  trigger : Option Trigger
  number : BitVec 32
  startSeq : Nat
  kind : WindowKind
  count : Nat
  map : Vector SlotUse 4
  channels : Vector (List Int) 4
  deriving DecidableEq, Repr

/-- A FREE slot: no owner, no auto mark, no trigger, no content (R157). What its number, start sequence and timing kind
stand at, as those of an ARMED slot do: DESIGN CHOICE (assumption log 7). -/
def CaptureSlot.free : CaptureSlot :=
  { state := .free, owner := none, holds := 0, auto := false, trigger := none, number := 0, startSeq := 0,
    kind := .unset, count := 0, map := Vector.replicate 4 .unused, channels := Vector.replicate 4 [] }

/-- The Capture Unit: two slots and the least-recently-freed marker (R156, R157). -/
structure Captures where
  slots : Vector CaptureSlot 2
  marker : CaptureIx
  deriving DecidableEq, Repr

/-! ## The Configuration Store -/

/-- The Configuration Store (R187 to R190): the snapshot being written while the activity is BUSY (none while IDLE),
the timer value at its taking, the fault latch, the image region, and the defaulted flag. -/
structure Store where
  snapshot : Option ImageContents
  taken : BitVec 32
  faultLatch : Bool
  image : Image
  defaulted : Bool
  deriving DecidableEq, Repr

/-! ## The Management Unit -/

/-- The statuses of an answer (R176, R202). -/
inductive Status where
  | done
  | doneClamped
  | badLength
  | unsupported
  | badField
  | badConfig
  | groupActive
  | groupInactive
  | streamInUse
  | commitPending
  | notTripped
  | stillTripped
  | noSlot
  | holdLimit
  | notHeld
  | notReady
  | storeBusy
  deriving DecidableEq, Repr

/-- A link's state (R1). -/
inductive Link where
  | down
  | up
  deriving DecidableEq, Repr

/-- The three alarm lines, true for asserted, that is driven low (R135). -/
structure Lines where
  alert : Bool
  trip : Bool
  supv : Bool
  deriving DecidableEq, Repr

/-- The store state of a summary (R188). -/
inductive StoreState where
  | idle
  | busy
  | fault
  | faultBusy
  deriving DecidableEq, Repr

/-- What READ STATUS returns of one group (R178). -/
structure GroupStatus where
  enabled : Bool
  timing : Timing
  levelUnit : LevelUnit
  generation : BitVec 8
  commitPending : Bool
  deriving DecidableEq, Repr

/-- What READ STATUS returns of one capture slot (R172): the window number when HELD. -/
structure SlotStatus where
  state : CaptureState
  owner : Option GroupId
  holds : Nat
  auto : Bool
  number : Option (BitVec 32)
  deriving DecidableEq, Repr

/-- The payload of READ STATUS (R178); the switch state is INLINE in every answer. -/
structure PartStatus where
  linkA : Link
  linkB : Link
  inLine : Bool
  lines : Lines
  timer : BitVec 32
  queueDepth : Nat
  suspended : Bool
  starvation : Nat
  reportCounter : BitVec 16
  forwardDrop : Bool
  reportSkipped : Bool
  groups : List GroupStatus
  slots : List SlotStatus
  requestDepth : Nat
  answerDepth : Nat
  reportDepth : Nat
  deriving DecidableEq, Repr

/-- What READ ENTRY returns of a tracker record (R43). -/
structure TrackerView where
  timing : Timing
  armed : Bool
  cycleCount : Option Nat
  lockCount : Nat
  acqCount : Nat
  winCycles : Nat
  expected : Option Nat
  last : Vector Int 4
  deriving DecidableEq, Repr

/-- The descriptor of a capture slot in an answer to READ CAPTURE (R170). -/
structure CaptureDescriptor where
  owner : Option GroupId
  holds : Nat
  auto : Bool
  trigger : Option Trigger
  number : BitVec 32
  startSeq : Nat
  kind : WindowKind
  count : Nat
  map : Vector SlotUse 4
  deriving DecidableEq, Repr

/-- What READ ARRAY returns (R85). -/
structure ArrayView where
  state : SetState
  number : BitVec 32
  kind : WindowKind
  startSeq : Nat
  m : Nat
  held : Nat
  clamped : Nat
  suspect : Bool
  limitGen : BitVec 8
  kept : Bool
  pair : Pair
  sum : Int
  sumSq : Nat
  min : Option Int
  max : Option Int
  buffered : Nat
  deriving DecidableEq, Repr

/-- The payload of an answer, by its named fields (R175; the rules of each request). -/
inductive Payload where
  /-- No payload: every refusal but BAD-CONFIG, and the requests that return nothing. -/
  | empty
  /-- BAD-CONFIG: the check code, and the slot or order-list position that failed (R44, R202). -/
  | badConfig (check : Nat) (place : Option Nat)
  /-- DONE-CLAMPED of a limit write: the rows that were clamped, bit n for row n (R109). -/
  | clampedRows (rows : BitVec 19)
  /-- IDENTIFY (R177). -/
  | identity (vendor family part : String) (revision groups streams captures events : Nat)
      (factory active pending : Addr)
  /-- READ STATUS (R178). -/
  | status (p : PartStatus)
  /-- READ ENTRY of the Stream Table: activity, E, rate status, interval count, last sync (R23). -/
  | streamEntry (e : StreamEntry) (activity : Activity) (expected : Nat) (suspect : Bool) (count : Nat)
      (lastSync : Bool)
  /-- READ ENTRY of a group configuration record (R43). -/
  | groupEntry (r : GroupRecord) (enabled : Bool) (tracker : TrackerView)
  /-- READ ENTRY of the limit bank (R111). -/
  | limitRows (rows : List LimitRow) (generation : BitVec 8) (pending : Bool)
  /-- READ ENTRY of the part settings (R180). -/
  | settings (p : PartSettings) (pending active : Addr)
  /-- COMMIT LIMITS (R112, R113). -/
  | commit (generation : BitVec 8) (pending : Bool)
  /-- READ RESULT (R102, R146). -/
  | result (r : Option ResultRecord) (f : Option FirstRecord) (rows : BitVec 19)
  /-- READ EVENTS: the records returned and the number remaining (R153). -/
  | events (records : List EventRecord) (remaining : Nat)
  /-- CLEAR FIRST (R144). -/
  | first (f : Option FirstRecord) (rows : BitVec 19)
  /-- SNAP (R159). -/
  | snap (slot : CaptureIx) (state : CaptureState) (holds : Nat) (newlyTaken : Bool)
  /-- HOLD CAPTURE (R165), with the slot it concerns (R172). -/
  | hold (slot : CaptureIx) (state : CaptureState) (owner : Option GroupId) (holds : Nat)
  /-- RELEASE CAPTURE (R166), with the slot it concerns (R172). -/
  | release (slot : CaptureIx) (state : CaptureState) (holds : Nat)
  /-- READ CAPTURE (R170), with the slot it concerns (R172). -/
  | capture (slot : CaptureIx) (d : CaptureDescriptor) (channel start : Nat) (values : List Int)
  /-- READ ARRAY (R85). -/
  | array (v : ArrayView)
  deriving DecidableEq, Repr

/-- The summary of an answer (R175); bit n of a set is group n. -/
structure Summary where
  tripped : BitVec 8
  alarmed : BitVec 8
  eventsPending : Nat
  store : StoreState
  defaulted : Bool
  forwardDrop : Bool
  reportSkipped : Bool
  deriving DecidableEq, Repr

/-- An answer (R175). `acceptsReset` marks the answer that accepted RESET PART, which R19 and R186 name. -/
structure Answer where
  dst : Addr
  src : Addr
  tag : BitVec 16
  code : Byte
  status : Status
  summary : Summary
  payload : Payload
  acceptsReset : Bool
  deriving DecidableEq, Repr

/-- A window report (R182, R183, R197), with the summary that the layout of R199 gives answers and reports alike. -/
structure WindowReport where
  dst : Addr
  src : Addr
  summary : Summary
  number : BitVec 16
  group : GroupId
  levelUnit : LevelUnit
  timing : Timing
  generation : BitVec 8
  firstPresent : Bool
  result : ResultRecord
  deriving DecidableEq, Repr

/-- The Management Unit (R173, R174, R182, R183): its mode (`resetTaken` holds the timer value at which RESET PART was
taken while it is RESET-PENDING, none while it is READY), its three queues, the report sequence counter, the
report-skipped flag and the controller address. -/
structure Management where
  resetTaken : Option (BitVec 32)
  requests : List Request
  answers : List Answer
  reports : List WindowReport
  reportCounter : BitVec 16
  reportSkipped : Bool
  controller : Option Addr
  deriving DecidableEq, Repr

/-! ## The frame path -/

/-- A frame in the Forward FIFO, without its check sequence, with the stream match of R9. -/
structure ForwardFrame where
  bytes : List Byte
  stream : Option StreamId
  deriving DecidableEq, Repr

/-- What a port is sending (R3): a forwarded frame as it leaves, with its annex if it has one, an answer or a report. -/
inductive Transmission where
  | forwarded (bytes : List Byte)
  | answer (a : Answer)
  | report (r : WindowReport)
  deriving DecidableEq, Repr

/-- One port: its link state (R1) and the frame under transmission, none while the port is free (R3). -/
structure PortState where
  link : Link
  sending : Option Transmission
  deriving DecidableEq, Repr

/-- The frame path: the two ports, the two FIFOs (R10, R11), the forward-drop flag (R12) and the starvation count
(R18). -/
structure FramePath where
  portA : PortState
  portB : PortState
  forward : List ForwardFrame
  reverse : List (List Byte)
  forwardDrop : Bool
  starvation : Nat
  deriving DecidableEq, Repr

/-! ## The part -/

/-- Whether the part is unpowered, held in reset, or released from reset (R192). nRESET low is `inReset`. -/
inductive Power where
  | unpowered
  | inReset
  | released
  deriving DecidableEq, Repr

/-- The Bypass Switch (R4). -/
inductive SwitchState where
  | bypass
  | inLine
  deriving DecidableEq, Repr

/-- The identification memory (R177): the factory address and the hardware revision number. -/
structure Identification where
  factory : Addr
  revision : Nat
  deriving DecidableEq, Repr

/-- The part. `pending` is the queue of commands that wait, first in first out; `freeCount` is the model's own counter
of free values (assumption log 8). `rateClock` counts the milliseconds of the rate interval, 0 to 999, and `rateDue`
says that an interval has ended whose rate check has not been taken yet (R33; assumption log 3). -/
structure State where
  pending : List Instr
  power : Power
  switch : SwitchState
  timer : BitVec 32
  ident : Identification
  path : FramePath
  streams : Vector StreamEntry 16
  supervision : Vector Supervision 16
  rateClock : Nat
  rateDue : Bool
  queue : AnalysisQueue
  settings : PartSettings
  activeAddress : Addr
  pendingAddress : Addr
  groups : Vector Group 8
  engine : Option GroupId
  waitList : List GroupId
  events : EventQueue
  captures : Captures
  mgmt : Management
  store : Store
  lines : Lines
  freeCount : Nat
  deriving DecidableEq, Repr

/-- Why the part stops: never. The manual gives every event and request of the table an effect, or none, in every
state, so no step of this block faults; the type has no member. -/
inductive Fault where
  deriving DecidableEq, Repr

/-- Why a command has no meaning. `notModelled` would be raised by an arm of exec for a command without a meaning
(safe: the run stops); every command has one, so nothing raises it. -/
inductive Refusal where
  | notModelled (mnemonic : String)
  deriving DecidableEq, Repr

/-- The part right after a part reset is asserted: BYPASS, both ports DOWN, every queue empty, every counter 0, the
timer standing at 0, the image region as it left manufacture (R4, R20, R187, R192, R195). The working tables stand at
their defaults and the defaulted flag is clear until start-up loads them, and the addresses and the identification
memory stand at 0 (DESIGN CHOICE, assumption log 6, 7). -/
def State.reset : State :=
  { pending := []
    power := .inReset
    switch := .bypass
    timer := 0
    ident := { factory := 0, revision := 0 }
    path := { portA := { link := .down, sending := none }, portB := { link := .down, sending := none },
              forward := [], reverse := [], forwardDrop := false, starvation := 0 }
    streams := Vector.replicate 16 defaultStreamEntry
    supervision := Vector.replicate 16 Supervision.fresh
    rateClock := 0
    rateDue := false
    queue := { entries := [], served := [], noticeAtLeave := false, suspended := false }
    settings := defaultSettings
    activeAddress := 0
    pendingAddress := 0
    groups := Vector.replicate 8 Group.fresh
    engine := none
    waitList := []
    events := { records := [], counter := 0 }
    captures := { slots := Vector.replicate 2 CaptureSlot.free, marker := 0 }
    mgmt := { resetTaken := none, requests := [], answers := [], reports := [], reportCounter := 0,
              reportSkipped := false, controller := none }
    store := { snapshot := none, taken := 0, faultLatch := false, image := .blank, defaulted := false }
    lines := { alert := false, trip := false, supv := false }
    freeCount := 0 }

end Sys2Proof.Machine
end

