-- ==== Sys2Proof/Machine/Operands.lean ====
section
/-! DEFINITION. Reading frames and requests: the fields of a frame by the layouts of chapter 12, the frame check
sequence, the request codes, and the records that requests carry, each with the check that its rule makes and the
clamping that its rule gives. -/

namespace Sys2Proof.Machine

/-! ## Bytes -/

/-- Byte `i` of `l`; 0 past its end. -/
def byteAt (l : List Byte) (i : Nat) : Byte := l.getD i 0

/-- The unsigned number of the `n` bytes of `l` from byte `i` on, most significant first (R196). -/
def beNat (l : List Byte) (i : Nat) : Nat → Nat
  | 0 => 0
  | n + 1 => beNat l i n * 256 + (byteAt l (i + n)).toNat

/-- The unsigned number of the `n` bytes of `l` from byte `i` on, least significant first (R34). -/
def leNat (l : List Byte) (i : Nat) : Nat → Nat
  | 0 => 0
  | n + 1 => (byteAt l i).toNat + 256 * leNat l (i + 1) n

/-- The 16-bit field of `l` at byte `i` (R196). -/
def be16 (l : List Byte) (i : Nat) : BitVec 16 := BitVec.ofNat 16 (beNat l i 2)

/-- The 48-bit address of `l` at byte `i` (R199). -/
def be48 (l : List Byte) (i : Nat) : Addr := BitVec.ofNat 48 (beNat l i 6)

/-- The 32 bits `b` as a signed whole number in two's complement (R34). -/
def signed32 (b : Nat) : Int := (BitVec.ofNat 32 b).toInt

/-! ## The CRC-32 of frames and of the stored image -/

/-- One bit of a CRC-32 (PRESUMED: that of IEEE 802.3; assumption log 9). -/
def checkBit (c : BitVec 32) : BitVec 32 :=
  if c.getLsbD 0 then (c >>> 1) ^^^ 0xEDB88320 else c >>> 1

/-- `n` bits of a CRC-32. -/
def checkBits : Nat → BitVec 32 → BitVec 32
  | 0, c => c
  | n + 1, c => checkBits n (checkBit c)

/-- A CRC-32 carried over the bytes `l`. -/
def checkBytes : List Byte → BitVec 32 → BitVec 32
  | [], c => c
  | b :: l, c => checkBytes l (checkBits 8 (c ^^^ b.setWidth 32))

/-- The CRC-32 of the bytes `l` (PRESUMED: that of IEEE 802.3; assumption log 9). -/
def crc32 (l : List Byte) : BitVec 32 := checkBytes l 0xFFFFFFFF ^^^ 0xFFFFFFFF

/-- The frame check sequence of the bytes of a frame (R2; assumption log 9). -/
def frameCheck (l : List Byte) : BitVec 32 := crc32 l

/-- The CRC-32 that seals an image (R187): computed over the contents, whose bytes are a free value (assumption log 14). -/
def imageCrc (c : ImageContents) : BitVec 32 := crc32 (Config.imageBytes c)

/-- The three conditions of R2 on a received frame. -/
def frameGood (f : WireFrame) : Bool :=
  decide (f.check = frameCheck f.bytes) && decide (64 ≤ f.length) && decide (f.length ≤ 1522)

/-! ## Frames (R7, R198, R199) -/

/-- The type word, after the two addresses (R7). -/
def typeWord (l : List Byte) : BitVec 16 := be16 l 12

/-- The destination address. -/
def destination (l : List Byte) : Addr := be48 l 0

/-- The stream ID of a sample frame (R198). -/
def streamIdOf (l : List Byte) : BitVec 16 := be16 l 14

/-- The sequence number q of a sample frame, 0 to 65535 (R25, R198). -/
def seqOf (l : List Byte) : Nat := beNat l 16 2

/-- The sync flag of a sample frame (R198). -/
def syncOf (l : List Byte) : Bool := (byteAt l 18).getLsbD 0

/-- The validity flag of value position `n` of a sample frame (R198). -/
def validityOf (l : List Byte) (n : Nat) : Bool := (byteAt l 19).getLsbD n

/-- Value position `n` of a sample frame, read in the byte order `o` (R34, R198). -/
def rawValueOf (l : List Byte) (o : ByteOrder) (n : Nat) : Int :=
  match o with
  | .big => signed32 (beNat l (20 + 4 * n) 4)
  | .little => signed32 (leNat l (20 + 4 * n) 4)

/-- What value intake makes of a value with its validity flag (R35). -/
def intakeValue (valid : Bool) (v : Int) : MarkedValue :=
  if valid then
    if v > 8388607 then ⟨8388607, .clamped⟩
    else if v < -8388607 then ⟨-8388607, .clamped⟩
    else ⟨v, .plain⟩
  else ⟨0, .invalid⟩

/-- The first `v` values of a sample frame with their marks (R25, R34, R35). -/
def intakeValues (l : List Byte) (o : ByteOrder) (v : Nat) : List MarkedValue :=
  (List.range v).map (fun n => intakeValue (validityOf l n) (rawValueOf l o n))

/-- The request that a frame of type 0xB5A1 to the part carries (R173, R199). -/
def requestOf (l : List Byte) : Request :=
  { src := be48 l 6, tag := be16 l 14, code := byteAt l 16, argLen := beNat l 17 2, body := l.drop 19 }

/-! ## Requests (R174, R199) -/

/-- The request codes of the table of R199. -/
inductive RequestCode where
  | identify
  | readStatus
  | readEntry
  | writeEntry
  | commitLimits
  | groupEnable
  | groupDisable
  | readResult
  | readEvents
  | clearFirst
  | releaseTrip
  | snap
  | holdCapture
  | releaseCapture
  | readCapture
  | readArray
  | storeConfig
  | restartAnalysis
  | resetPart
  deriving DecidableEq, Repr

/-- The request a code names, none for a code that names no request, 0x80 among them (R174, R197, R199). -/
def requestCode (c : Byte) : Option RequestCode :=
  match c.toNat with
  | 0x01 => some .identify
  | 0x02 => some .readStatus
  | 0x03 => some .readEntry
  | 0x04 => some .writeEntry
  | 0x05 => some .commitLimits
  | 0x06 => some .groupEnable
  | 0x07 => some .groupDisable
  | 0x08 => some .readResult
  | 0x09 => some .readEvents
  | 0x0A => some .clearFirst
  | 0x0B => some .releaseTrip
  | 0x0C => some .snap
  | 0x0D => some .holdCapture
  | 0x0E => some .releaseCapture
  | 0x0F => some .readCapture
  | 0x10 => some .readArray
  | 0x11 => some .storeConfig
  | 0x12 => some .restartAnalysis
  | 0x13 => some .resetPart
  | _ => none

/-- Argument byte `i` of a request, as a number. -/
def argOf (r : Request) (i : Nat) : Nat := (byteAt r.body i).toNat

/-- The check of R174, item 2, for arguments of `n` bytes: the argument length covers them, and the frame carries
what the argument length says. -/
def covers (r : Request) (n : Nat) : Bool := decide (n ≤ r.argLen) && decide (r.argLen ≤ r.body.length)

/-- The four tables of READ ENTRY and WRITE ENTRY (R179, R199). -/
inductive TableSelector where
  | stream
  | group
  | limits
  | settings
  deriving DecidableEq, Repr

/-- The table a selector byte names (R199). -/
def tableSelector (n : Nat) : Option TableSelector :=
  match n with
  | 0 => some .stream
  | 1 => some .group
  | 2 => some .limits
  | 3 => some .settings
  | _ => none

/-- The table a READ ENTRY or WRITE ENTRY names, none where its arguments do not reach the selector and the index or
the selector names no table (R174, R179). -/
def tableOf (r : Request) : Option TableSelector :=
  if covers r 2 then tableSelector (argOf r 0) else none

/-- A group number in an argument byte (R199); none above 7. -/
def groupArg (n : Nat) : Option GroupId := if h : n < 8 then some ⟨n, h⟩ else none

/-- A stream index in an argument byte; none above 15. -/
def streamArg (n : Nat) : Option StreamId := if h : n < 16 then some ⟨n, h⟩ else none

/-- A slot of a group, or a channel, in an argument byte; none above 3. -/
def slotArg (n : Nat) : Option SlotIx := if h : n < 4 then some ⟨n, h⟩ else none

/-- A capture slot, or an accumulator set, in an argument byte; none above 1. -/
def twoArg (n : Nat) : Option (Fin 2) := if h : n < 2 then some ⟨n, h⟩ else none

/-- An on-or-off, set-or-clear byte: 1 or 0 (R199). -/
def flagArg (n : Nat) : Option Bool :=
  match n with
  | 0 => some false
  | 1 => some true
  | _ => none

/-- `v` brought into the range `lo` to `hi`. -/
def clampTo (lo hi v : Nat) : Nat := min hi (max lo v)

/-! ## Stream entries (R22, R199) -/

/-- A sample rate as a request carries it (R21). -/
def rateArg (n : Nat) : Option Rate :=
  match n with
  | 4800 => some .r4800
  | 9600 => some .r9600
  | 14400 => some .r14400
  | _ => none

/-- A byte order as a request carries it (R199). -/
def byteOrderArg (n : Nat) : Option ByteOrder :=
  match n with
  | 0 => some .big
  | 1 => some .little
  | _ => none

/-- An annex mode as a request carries it (R199). -/
def annexModeArg (n : Nat) : Option AnnexMode :=
  match n with
  | 0 => some .none
  | 1 => some .append
  | _ => none

/-- The stream entry in the arguments `b` (after the selector and the index, byte 2 on), before clamping; none where a
field lies outside its set (R22, item 2). -/
def parseStreamEntry (b : List Byte) : Option StreamEntry := do
  let valid ← flagArg (beNat b 2 1)
  let rate ← rateArg (beNat b 7 2)
  let byteOrder ← byteOrderArg (beNat b 10 1)
  let annexMode ← annexModeArg (beNat b 11 1)
  let annexGroup ← groupArg (beNat b 12 1)
  return { valid := valid, matchId := be16 b 3, ignoreMask := be16 b 5, rate := rate, valueCount := beNat b 9 1,
           byteOrder := byteOrder, annexMode := annexMode, annexGroup := annexGroup, silence := beNat b 13 1 }

/-- The clamping of a stream entry (R22). -/
def clampStreamEntry (e : StreamEntry) : StreamEntry :=
  { e with valueCount := clampTo 1 8 e.valueCount, silence := clampTo 1 100 e.silence }

/-! ## Group configuration records (R42, R121, R199) -/

/-- A nominal frequency as a request carries it (R41). -/
def freqArg (n : Nat) : Option Freq :=
  match n with
  | 50 => some .f50
  | 60 => some .f60
  | _ => none

/-- A slot as a request carries it: kind and value index (R199). -/
def slotUseArg (kind value : Nat) : Option SlotUse :=
  match kind with
  | 0 => some .unused
  | 1 => if h : value < 8 then some (.used .ac ⟨value, h⟩) else none
  | 2 => if h : value < 8 then some (.used .dc ⟨value, h⟩) else none
  | _ => none

/-- The kind of an order-list entry as a request carries it (R199). -/
def kindArg (n : Nat) : Option Kind :=
  match n with
  | 1 => some .ac
  | 2 => some .dc
  | _ => none

/-- The first `n` entries of the order list whose entries begin at byte `i` of `b`; entries beyond the count are
ignored (R199). -/
def parseOrders (b : List Byte) (i : Nat) : Nat → Option (List Order)
  | 0 => some []
  | n + 1 => do
    let kind ← kindArg (beNat b (i + 1) 1)
    let rest ← parseOrders b (i + 2) n
    return { h := beNat b i 1, kind := kind } :: rest

/-- The order list of a group record: a count of at most 16 at byte 26, and its entries from byte 27 on (R41, R199). -/
def parseOrderList (b : List Byte) : Option (List Order) :=
  if beNat b 26 1 ≤ 16 then parseOrders b 27 (beNat b 26 1) else none

/-- The group configuration record in the arguments `b` (after the selector and the index, byte 2 on, in the order of
the table of R41), before clamping; none where a field lies outside its set (R42, item 1). -/
def parseGroupRecord (b : List Byte) : Option GroupRecord := do
  let stream ← streamArg (beNat b 2 1)
  let freq ← freqArg (beNat b 3 1)
  let slot0 ← slotUseArg (beNat b 5 1) (beNat b 6 1)
  let slot1 ← slotUseArg (beNat b 7 1) (beNat b 8 1)
  let slot2 ← slotUseArg (beNat b 9 1) (beNat b 10 1)
  let slot3 ← slotUseArg (beNat b 11 1) (beNat b 12 1)
  let refSlot ← slotArg (beNat b 13 1)
  let orders ← parseOrderList b
  let reportEnable ← flagArg (beNat b 66 1)
  let alertLine ← flagArg (beNat b 67 1)
  let tripLine ← flagArg (beNat b 68 1)
  let tripFunction ← flagArg (beNat b 69 1)
  let autoCapture ← flagArg (beNat b 70 1)
  let enableAtStart ← flagArg (beNat b 71 1)
  return { stream := stream, freq := freq, cycles := beNat b 4 1, slots := #v[slot0, slot1, slot2, slot3],
           refSlot := refSlot, deadband := beNat b 14 4, fundFloor := beNat b 18 4, dcFloor := beNat b 22 4,
           orders := orders, gapLimit := beNat b 59 1, heldLimit := beNat b 60 1, bHi := beNat b 61 1,
           bLo := beNat b 62 1, tripWeight := beNat b 63 1, leakPeriod := beNat b 64 1,
           tripPersistence := beNat b 65 1, reportEnable := reportEnable, alertLine := alertLine,
           tripLine := tripLine, tripFunction := tripFunction, autoCapture := autoCapture,
           enableAtStart := enableAtStart }

/-- The clamping of a group record (R42, R121): B_hi first, then B_lo against B_hi as stored. -/
def clampGroupRecord (r : GroupRecord) : GroupRecord :=
  let bHi := clampTo 1 255 r.bHi
  { r with cycles := clampTo 1 16 r.cycles, gapLimit := clampTo 1 16 r.gapLimit,
           deadband := min Config.valueLimit r.deadband, fundFloor := min Config.valueLimit r.fundFloor,
           dcFloor := min Config.valueLimit r.dcFloor, bHi := bHi,
           bLo := if bHi ≤ r.bLo then bHi - 1 else r.bLo, tripWeight := clampTo 1 8 r.tripWeight,
           tripPersistence := clampTo 1 16 r.tripPersistence }

/-! ## Limit rows (R109, R110, R199) -/

/-- Row `k` of the thresholds that follow the fixed arguments of a limit write (R199). -/
def limitRowArg (b : List Byte) (k : Nat) : LimitRow :=
  { notice := beNat b (4 + 6 * k) 2, alert := beNat b (6 + 6 * k) 2, trip := beNat b (8 + 6 * k) 2 }

/-- The clamping of a limit row (R110). -/
def clampLimitRow (r : LimitRow) : LimitRow :=
  let a := if r.alert ≠ 0 ∧ r.alert < r.notice then r.notice else r.alert
  let top := max r.notice a
  { r with alert := a, trip := if r.trip ≠ 0 ∧ r.trip < top then top else r.trip }

/-! ## Part settings (R38, R180, R199) -/

/-- The clamping of the part settings (R38, R180). -/
def clampSettings (p : PartSettings) : PartSettings :=
  let high := clampTo 1 48 p.high
  { high := high, low := if high ≤ p.low then high - 1 else p.low, starvationLimit := max 1 p.starvationLimit }

/-- The watermarks and K in the arguments `b` of a write of the part settings, before clamping (R199). -/
def parseSettings (b : List Byte) : PartSettings :=
  { high := beNat b 8 1, low := beNat b 9 1, starvationLimit := beNat b 10 1 }

end Sys2Proof.Machine
end

