-- ==== Sys2Proof/Machine/Phase.lean ====
section
/-! DEFINITION. The phase of a sample and the fixed tables COS and SIN (R69, R70). The first quarter of SIN is written
out, sixteen entries to a row as 16-bit fields with the lowest entry in the lowest bits; the other quarters and COS are
its reflections. The entries are 16384 × sin(2πp/4096) rounded to the nearest whole number; no entry lies halfway
between two whole numbers. -/

namespace Sys2Proof.Machine

/-- Entries 0 to 255 of the first quarter of SIN, sixteen to a row (R69). -/
def sineRows0 : List Nat :=
  [0x017901600147012e011400fb00e200c900b00097007e0065004b003200190000,
   0x030b02f202d902c002a6028d0274025b02420229021001f701dd01c401ab0192,
   0x049c0483046a04510438041f040603ed03d403bb03a10388036f0356033d0324,
   0x062d061405fb05e205c905b00597057e0565054c0533051a050004e704ce04b5,
   0x07bd07a4078b0772075907400727070e06f506dc06c306aa06910678065f0646,
   0x094b09320919090108e808cf08b6089d0884086b085208390820080707ef07d6,
   0x0ad80ac00aa70a8e0a750a5c0a440a2b0a1209f909e009c709af0996097d0964,
   0x0c640c4b0c320c1a0c010be80bd00bb70b9e0b850b6d0b540b3b0b230b0a0af1,
   0x0ded0dd50dbc0da40d8b0d720d5a0d410d290d100cf80cdf0cc60cae0c950c7c,
   0x0f750f5c0f440f2b0f130efb0ee20eca0eb10e990e800e680e4f0e370e1e0e06,
   0x10fa10e110c910b110991080106810501037101f10070fee0fd60fbe0fa50f8d,
   0x127c1264124c1234121c120411eb11d311bb11a3118b1173115a1142112a1112,
   0x13fb13e413cc13b4139c1384136c1354133c1324130c12f412dc12c412ac1294,
   0x15781560154915311519150114ea14d214ba14a2148b1473145b1443142b1413,
   0x16f116da16c216ab1693167c1664164c1635161d160615ee15d715bf15a71590,
   0x1867184f18381821180a17f217db17c417ac1795177e1766174f173717201709]

/-- Entries 256 to 511 of the first quarter of SIN, sixteen to a row (R69). -/
def sineRows1 : List Nat :=
  [0x19d819c119aa1993197c1965194e19371920190918f218db18c318ac1895187e,
   0x1b461b301b191b021aeb1ad41abe1aa71a901a791a621a4b1a341a1d1a0619ef,
   0x1cb01c991c831c6c1c561c3f1c291c121bfc1be51bce1bb81ba11b8a1b741b5d,
   0x1e151dff1de91dd31dbc1da61d901d791d631d4d1d361d201d0a1cf31cdd1cc6,
   0x1f761f601f4a1f341f1e1f081ef21edc1ec61eb01e9a1e841e6e1e581e421e2b,
   0x20d120bc20a62091207b20652050203a2024200f1ff91fe31fcd1fb71fa21f8c,
   0x2228221321fe21e821d321be21a82193217d21682153213d2128211220fd20e7,
   0x237a23652350233b2326231122fc22e722d222bc22a72292227d22682253223d,
   0x24c524b1249c24882473245e244a24352420240b23f723e223cd23b823a3238e,
   0x260c25f825e325cf25bb25a62592257e256925552541252c2518250324ef24da,
   0x274c27382724271126fd26e926d526c126ad269926852671265c264826342620,
   0x288628732860284c28382825281127fe27ea27d627c327af279b278827742760,
   0x29bb29a729942981296e295b294829352921290e28fb28e728d428c128ad289a,
   0x2ae82ad62ac32ab02a9d2a8b2a782a652a522a3f2a2c2a1a2a0729f429e129ce,
   0x2c0f2bfd2beb2bd82bc62bb42ba12b8f2b7d2b6a2b582b452b332b202b0d2afb,
   0x2d2f2d1e2d0c2cfa2ce82cd62cc42cb22ca02c8e2c7c2c6a2c582c462c342c21]

/-- Entries 512 to 767 of the first quarter of SIN, sixteen to a row (R69). -/
def sineRows2 : List Nat :=
  [0x2e492e372e262e152e032df22de02dcf2dbd2dab2d9a2d882d762d652d532d41,
   0x2f5b2f4a2f392f282f172f062ef52ee42ed32ec22eb02e9f2e8e2e7d2e6b2e5a,
   0x30663055304530343024301330022ff22fe12fd02fc02faf2f9e2f8d2f7d2f6c,
   0x316931593149313931293119310930f930e830d830c830b830a7309730873076,
   0x326532553246323632273217320731f831e831d831c831b931a9319931893179,
   0x3359334a333b332c331d330d32fe32ef32e032d032c132b232a3329332843274,
   0x3445343634283419340b33fc33ed33df33d033c133b233a33395338633773368,
   0x3529351b350d34ff34f134e234d434c634b834aa349b348d347f347034623453,
   0x360535f735ea35dc35ce35c135b335a53598358a357c356e3561355335453537,
   0x36d836cb36be36b136a43697368a367d366f366236553648363a362d36203612,
   0x37a33797378a377e377137653758374b373f373237253718370c36ff36f236e5,
   0x3866385a384e38423836382a381e3812380537f937ed37e137d537c837bc37b0,
   0x391f3914390938fd38f238e638db38cf38c338b838ac38a138953889387d3871,
   0x39d039c539bb39b039a5399a398f39843979396e39633958394c39413936392b,
   0x3a783a6e3a643a593a4f3a453a3a3a303a253a1b3a103a0639fb39f039e639db,
   0x3b173b0e3b043afa3af03ae63add3ad33ac93abf3ab53aab3aa13a973a8d3a82]

/-- Entries 768 to 1023 of the first quarter of SIN, sixteen to a row (R69). -/
def sineRows3 : List Nat :=
  [0x3bad3ba43b9b3b923b883b7f3b763b6d3b633b5a3b503b473b3e3b343b2a3b21,
   0x3c3a3c313c293c203c173c0f3c063bfd3bf53bec3be33bda3bd13bc83bbf3bb6,
   0x3cbd3cb53cad3ca53c9d3c953c8d3c853c7d3c743c6c3c643c5b3c533c4b3c42,
   0x3d373d303d283d213d1a3d123d0b3d033cfb3cf43cec3ce43cdd3cd53ccd3cc5,
   0x3da83da13d9a3d933d8d3d863d7f3d783d713d6a3d633d5b3d543d4d3d463d3f,
   0x3e0f3e093e033dfc3df63df03de93de33ddd3dd63dd03dc93dc23dbc3db53daf,
   0x3e6c3e673e613e5c3e563e503e4a3e453e3f3e393e333e2d3e273e213e1b3e15,
   0x3ec03ebb3eb63eb13eac3ea73ea23e9d3e983e923e8d3e883e823e7d3e773e72,
   0x3f0a3f063f023efd3ef93ef43ef03eeb3ee73ee23edd3ed83ed43ecf3eca3ec5,
   0x3f4b3f473f433f403f3c3f383f343f303f2c3f283f243f203f1c3f173f133f0f,
   0x3f823f7f3f7b3f783f753f723f6e3f6b3f683f643f613f5d3f5a3f563f523f4f,
   0x3faf3fac3faa3fa73fa43fa23f9f3f9c3f993f973f943f913f8e3f8b3f883f85,
   0x3fd23fd03fce3fcc3fca3fc83fc63fc43fc13fbf3fbd3fbb3fb83fb63fb43fb1,
   0x3feb3fea3fe83fe73fe63fe43fe33fe13fe03fde3fdc3fdb3fd93fd73fd53fd4,
   0x3ffa3ffa3ff93ff83ff73ff73ff63ff53ff43ff33ff23ff13ff03fef3fed3fec,
   0x400040004000400040003fff3fff3fff3ffe3ffe3ffe3ffd3ffd3ffc3ffc3ffb]

/-- The rows of the first quarter of SIN, 64 rows of sixteen entries. -/
def sineRows : List Nat := sineRows0 ++ sineRows1 ++ sineRows2 ++ sineRows3

/-- SIN[p] for p from 0 to 1024 (R69). -/
def sineQuarter (p : Nat) : Nat := if p < 1024 then (sineRows.getD (p / 16) 0 >>> (16 * (p % 16))) % 65536 else 16384

/-- SIN[p] for p from 0 to 4095 (R69). -/
def sinTable (p : Nat) : Int :=
  if p ≤ 1024 then sineQuarter p
  else if p ≤ 2048 then sineQuarter (2048 - p)
  else if p ≤ 3072 then -(sineQuarter (p - 2048) : Int)
  else -(sineQuarter (4096 - p) : Int)

/-- COS[p] for p from 0 to 4095: SIN a quarter turn on (R69). -/
def cosTable (p : Nat) : Int := sinTable ((p + 1024) % 4096)

/-- The phase index of the sample at offset `r` of a cycle of length `len`, for order `h` (R70). -/
def phaseIndex (h r len : Nat) : Nat := 4096 * h * r / len % 4096

end Sys2Proof.Machine
end

