-- ==== Sys2Proof/Machine/Ops.lean ====
section
/-! DEFINITION. The named operations over the part's shared blocks: creating an event record, the Capture Unit, a
group's accumulator sets, taking a commit, the Result Engine's wait list, the Analysis Queue and its suspension state,
and reading and writing one group within the state. -/

namespace Sys2Proof.Machine

/-! ## The Event Queue (R147 to R150) -/

/-- The low 16 bits of a window number, as events carry it (R67). -/
def low16 (n : BitVec 32) : BitVec 16 := n.setWidth 16

/-- The records with the lost-after mark of the newest set (R150). -/
def markTail : List EventRecord → List EventRecord
  | [] => []
  | [r] => [{ r with lostAfter := true }]
  | r :: s :: l => r :: markTail (s :: l)

/-- The record of an event created at the timer value `stamp` (R147, R148). -/
def recordOf (q : EventQueue) (stamp : BitVec 32) (e : Event) (detail2 : Option (BitVec 16)) : EventRecord :=
  { seq := q.counter, stamp := stamp, event := e, detail2 := detail2, lostAfter := false }

/-- Creating an event record: added at the tail of a queue with room, discarded at a full one with the tail's
lost-after mark set; its sequence number is consumed either way (R148, R149, R150). -/
def createEvent (stamp : BitVec 32) (e : Event) (detail2 : Option (BitVec 16)) (q : EventQueue) : EventQueue :=
  { records :=
      if q.records.length < Config.eventQueueSize then q.records ++ [recordOf q stamp e detail2]
      else markTail q.records
    counter := q.counter + 1 }

/-! ## The Capture Unit (R156 to R168) -/

/-- The capture slot that group `g` owns, none if it owns none (R158). -/
def ownedSlot (c : Captures) (g : GroupId) : Option CaptureIx :=
  if c.slots[0].owner = some g then some 0 else if c.slots[1].owner = some g then some 1 else none

/-- The Capture Unit with slot `i` replaced by `x`. -/
def setSlot (i : CaptureIx) (x : CaptureSlot) (c : Captures) : Captures := { c with slots := upd c.slots i x }

/-- Slot `i` becomes FREE, and the marker names the other slot (R157). -/
def freeSlot (i : CaptureIx) (c : Captures) : Captures :=
  { slots := upd c.slots i CaptureSlot.free, marker := other i }

/-- A FREE slot newly taken for group `g` (R158, case 2). It has no content yet: its content
fields read as 0 or unused (R156). -/
def armedSlot (g : GroupId) (t : Trigger) : CaptureSlot :=
  { CaptureSlot.free with state := .armed, owner := some g, holds := 1, auto := decide (t = .trip), trigger := some t }

/-- The FREE slot that a claim takes, none if no slot is FREE: the marked one if both are FREE (R158). -/
def slotToTake (c : Captures) : Option CaptureIx :=
  if c.slots[0].state = .free ∧ c.slots[1].state = .free then some c.marker
  else if c.slots[0].state = .free then some 0
  else if c.slots[1].state = .free then some 1
  else none

/-- A claim on a capture slot for group `g` (R158, R160): the failure, or the slot, whether it was newly taken, and
the Capture Unit after the claim. A claim by a trip sets the auto mark. -/
def claimSlot (g : GroupId) (t : Trigger) (c : Captures) : Except ClaimFailure (CaptureIx × Bool × Captures) :=
  match ownedSlot c g with
  | some i =>
    if c.slots[i].holds < Config.holdLimit then
      .ok (i, false,
        setSlot i { c.slots[i] with holds := c.slots[i].holds + 1,
                                    auto := c.slots[i].auto || decide (t = .trip) } c)
    else .error .holdLimit
  | none =>
    match slotToTake c with
    | some i => .ok (i, true, setSlot i (armedSlot g t) c)
    | none => .error .noSlot

/-- One hold of slot `i` is released; at 0 the slot becomes FREE (R166). -/
def releaseHold (i : CaptureIx) (c : Captures) : Captures :=
  if c.slots[i].holds ≤ 1 then freeSlot i c
  else setSlot i { c.slots[i] with holds := c.slots[i].holds - 1 } c

/-- RELEASE TRIP at the Capture Unit: the trip's hold of the group's slot with the auto mark, if there is one, is
released and the mark cleared (R167). -/
def releaseTripHold (g : GroupId) (c : Captures) : Captures :=
  match ownedSlot c g with
  | some i =>
    if c.slots[i].auto then
      releaseHold i (setSlot i { c.slots[i] with auto := false } c)
    else c
  | none => c

/-- GROUP DISABLE and RESTART ANALYSIS at one slot: ARMED or FILLING becomes FREE, HELD loses its auto mark (R168). -/
def endSlot (i : CaptureIx) (c : Captures) : Captures :=
  match c.slots[i].state with
  | .free => c
  | .armed => freeSlot i c
  | .filling => freeSlot i c
  | .held => setSlot i { c.slots[i] with auto := false } c

/-- GROUP DISABLE at the Capture Unit: the slot that group `g` owns (R168). -/
def endGroupSlot (g : GroupId) (c : Captures) : Captures :=
  match ownedSlot c g with
  | some i => endSlot i c
  | none => c

/-- RESTART ANALYSIS at the Capture Unit: both slots, slot 0 first (R168). -/
def endAllSlots (c : Captures) : Captures := endSlot 1 (endSlot 0 c)

/-- The opening of a window of group `g`: its ARMED slot, if it owns one, begins to fill (R162). -/
def captureOpen (g : GroupId) (number : BitVec 32) (startSeq : Nat) (kind : WindowKind) (map : Vector SlotUse 4)
    (c : Captures) : Captures :=
  match ownedSlot c g with
  | some i =>
    if c.slots[i].state = .armed then
      setSlot i { c.slots[i] with state := .filling, number := number, startSeq := startSeq, kind := kind,
                                  count := 0, map := map, channels := Vector.replicate 4 [] } c
    else c
  | none => c

/-- The channels with a sample written: the value of each used slot at the end of its channel (R162). -/
def writeChannels (map : Vector SlotUse 4) (vals : Vector Int 4) (channels : Vector (List Int) 4) :
    Vector (List Int) 4 :=
  Vector.ofFn (fun k : Fin 4 =>
    match map[k] with
    | .unused => channels[k]
    | .used _ _ => channels[k] ++ [vals[k]])

/-- A sample of the open window of group `g` is written into its FILLING slot, if it owns one (R162). -/
def captureWrite (g : GroupId) (vals : Vector Int 4) (c : Captures) : Captures :=
  match ownedSlot c g with
  | some i =>
    if c.slots[i].state = .filling then
      setSlot i { c.slots[i] with count := c.slots[i].count + 1,
                                  channels := writeChannels c.slots[i].map vals c.slots[i].channels } c
    else c
  | none => c

/-- The slot of group `g` that a window close completes: its FILLING one (R163). -/
def fillingSlot (g : GroupId) (c : Captures) : Option CaptureIx :=
  match ownedSlot c g with
  | some i => if c.slots[i].state = .filling then some i else none
  | none => none

/-- The abort of the open window of group `g`: its FILLING slot returns to ARMED, its content discarded (R156,
R164). -/
def captureAbort (g : GroupId) (c : Captures) : Captures :=
  match fillingSlot g c with
  | some i =>
    setSlot i { CaptureSlot.free with state := .armed, owner := c.slots[i].owner, holds := c.slots[i].holds,
                                      auto := c.slots[i].auto, trigger := c.slots[i].trigger } c
  | none => c

/-! ## One group's act

What an act at one group may change: the group itself, the Event Queue, the Capture Unit and the Result Engine's wait
list. An act at one group leaves every other block as it is (R49, R123). -/

/-- What an act at one group may change. -/
structure GroupView where
  grp : Group
  events : EventQueue
  captures : Captures
  waitList : List GroupId
  deriving DecidableEq, Repr

/-- What an act at one group reads besides: the group's number, the rate S of its stream and the timer. -/
structure GroupContext where
  group : GroupId
  rate : Rate
  stamp : BitVec 32
  deriving DecidableEq, Repr

/-- The group and the shared blocks that an act at it may change. -/
def viewGroup (s : State) (g : GroupId) : GroupView :=
  { grp := s.groups[g], events := s.events, captures := s.captures, waitList := s.waitList }

/-- The state with the outcome of an act at group `g`. -/
def putGroup (s : State) (g : GroupId) (v : GroupView) : State :=
  { s with groups := upd s.groups g v.grp, events := v.events, captures := v.captures, waitList := v.waitList }

/-- The context of an act at group `g`. -/
def contextOf (s : State) (g : GroupId) : GroupContext :=
  { group := g, rate := s.streams[s.groups[g].config.stream].rate, stamp := s.timer }

/-- An act at group `g`. -/
def actOn (s : State) (g : GroupId) (act : GroupContext → GroupView → GroupView) : State :=
  putGroup s g (act (contextOf s g) (viewGroup s g))

/-- Whether a group is enabled (section 3.2). -/
def Group.enabled (g : Group) : Bool := decide (g.tracker.timing ≠ .disabled)

/-- Whether an enabled group names stream `i` (R30, R37). -/
def Group.names (g : Group) (i : StreamId) : Bool := g.enabled && decide (g.config.stream = i)

/-- Raising an event at a group. -/
def raiseEvent (c : GroupContext) (e : Event) (detail2 : Option (BitVec 16)) (v : GroupView) : GroupView :=
  { v with events := createEvent c.stamp e detail2 v.events }

/-- A change of timing state with its TIMING event (R53). -/
def enterTiming (c : GroupContext) (t : Timing) (v : GroupView) : GroupView :=
  raiseEvent c (.timing c.group t) none
    { v with grp := { v.grp with tracker := { v.grp.tracker with timing := t } } }

/-! ### Commits (R115, R117) -/

/-- The group with NEXT copied into NOW, the generation increased and the flag clear (R115). -/
def commitBanks (g : Group) : Group :=
  { g with nowBank := g.nextBank, generation := g.generation + 1, commitPending := false }

/-- Taking a commit: LIMITS COMMITTED carries the generation after it and, at a window close, the window's number
(R115, R117). -/
def takeCommit (c : GroupContext) (window : Option (BitVec 32)) (v : GroupView) : GroupView :=
  raiseEvent c (.limitsCommitted c.group (v.grp.generation + 1)) (window.map low16)
    { v with grp := commitBanks v.grp }

/-- A pending commit is taken (R114). -/
def takePending (c : GroupContext) (window : Option (BitVec 32)) (v : GroupView) : GroupView :=
  if v.grp.commitPending then takeCommit c window v else v

/-! ### Accumulator sets (R65 to R68) -/

/-- A set cleared and left in state `t`: the window number, start sequence, timing kind, C and limit generation stay
(R65). -/
def clearSet (t : SetState) (a : AccSet) : AccSet :=
  { a with state := t, m := 0, held := 0, clamped := 0, suspect := false,
           sums := Vector.replicate 4 SlotSums.zero }

/-- The set of a group that is in state `t`, the lower-numbered if both are, none if neither is. -/
def setIn (t : SetState) (sets : Vector AccSet 2) : Option SetIx :=
  if sets[0].state = t then some 0 else if sets[1].state = t then some 1 else none

/-- The set that a window takes when it opens: the ACCUMULATING one, otherwise an IDLE one, set 0 if both are (R68). -/
def setToOpen (sets : Vector AccSet 2) : SetIx :=
  match setIn .accumulating sets with
  | some i => i
  | none => if sets[0].state = .idle then 0 else 1

/-- The opening of a window at the group's sample with sequence number `seq` (R68, R162). -/
def openWindow (c : GroupContext) (kind : WindowKind) (seq : Nat) (v : GroupView) : GroupView :=
  let i := setToOpen v.grp.sets
  let a := { clearSet .accumulating v.grp.sets[i] with
               number := v.grp.counter, startSeq := seq, kind := kind, cycles := v.grp.config.cycles }
  { v with grp := { v.grp with sets := upd v.grp.sets i a },
           captures := captureOpen c.group v.grp.counter seq kind v.grp.config.slots v.captures }

/-- The end of a capture at a window close: a FILLING slot of the group becomes HELD and raises CAPTURE READY (R163). -/
def captureClose (c : GroupContext) (v : GroupView) : GroupView :=
  match fillingSlot c.group v.captures with
  | some i =>
    raiseEvent c (.captureReady c.group i) (some (low16 v.captures.slots[i].number))
      { v with captures := setSlot i { v.captures.slots[i] with state := .held } v.captures }
  | none => v

/-- The sets and the wait list at the close of the window in set `i` (R75, steps 1 and 5; R76, steps 1 and 5): with the
other set IDLE the closing set becomes WAITING and the group joins the wait list; otherwise the closing window is
discarded with an OVERRUN event. `follows` says that a window follows at once. -/
def closeSets (c : GroupContext) (i : SetIx) (follows : Bool) (v : GroupView) : GroupView :=
  let sets := v.grp.sets
  let next : SetState := if follows then .accumulating else .idle
  if sets[other i].state = .idle then
    let sets1 := upd sets i { sets[i] with state := .waiting }
    { v with grp := { v.grp with
                sets := if follows then upd sets1 (other i) (clearSet .accumulating sets1[other i]) else sets1 },
             waitList := v.waitList ++ [c.group] }
  else
    raiseEvent c (.overrun c.group) (some (low16 sets[i].number))
      { v with grp := { v.grp with sets := upd sets i (clearSet next sets[i]) } }

/-- The close of the open window (R75, R76): the sets and the wait list, the window counter, a pending commit and the
capture, in that order. -/
def closeWindow (c : GroupContext) (follows : Bool) (v : GroupView) : GroupView :=
  match setIn .accumulating v.grp.sets with
  | some i =>
    let v1 := closeSets c i follows v
    let v2 := { v1 with grp := { v1.grp with counter := v1.grp.counter + 1 } }
    captureClose c (takePending c (some v.grp.sets[i].number) v2)
  | none => v

/-- The abort of the open window (R77): WINDOW ABORTED, the window counter, the cycle buffer, the capture and the set.
`follows` says that a window follows, so that the set stays ACCUMULATING. -/
def abortWindow (c : GroupContext) (reason : AbortReason) (follows : Bool) (v : GroupView) : GroupView :=
  match setIn .accumulating v.grp.sets with
  | some i =>
    let a := v.grp.sets[i]
    let next : SetState := if follows then .accumulating else .idle
    raiseEvent c (.windowAborted c.group reason) (some (low16 a.number))
      { v with grp := { v.grp with counter := v.grp.counter + 1, buffer := [],
                                   sets := upd v.grp.sets i (clearSet next a) },
               captures := captureAbort c.group v.captures }
  | none => v

/-- A set that a close or an abort left ACCUMULATING becomes IDLE and is cleared (R58, R60). -/
def dropWaitingSet (v : GroupView) : GroupView :=
  match setIn .accumulating v.grp.sets with
  | some i => { v with grp := { v.grp with sets := upd v.grp.sets i (clearSet .idle v.grp.sets[i]) } }
  | none => v

/-- Accumulation ended without an abort: the buffer emptied, both sets cleared and IDLE, the group out of the wait
list (R78, R82). -/
def endAccumulation (c : GroupContext) (v : GroupView) : GroupView :=
  { v with grp := { v.grp with buffer := [],
                               sets := upd (upd v.grp.sets 0 (clearSet .idle v.grp.sets[0])) 1
                                 (clearSet .idle v.grp.sets[1]) },
           waitList := v.waitList.filter (fun g => decide (g ≠ c.group)) }

/-! ## The Result Engine (R79, R80) -/

/-- The group with its WAITING set EVALUATING (R80). -/
def beginEvaluation (g : Group) : Group :=
  match setIn .waiting g.sets with
  | some i => { g with sets := upd g.sets i { g.sets[i] with state := .evaluating } }
  | none => g

/-- An idle engine takes the head of the wait list at once (R80). -/
def engineTake (s : State) : State :=
  match s.engine, s.waitList with
  | none, g :: l =>
    { s with engine := some g, waitList := l, groups := upd s.groups g (beginEvaluation s.groups[g]) }
  | _, _ => s

/-- The engine's evaluation of group `g`, if it is busy with it, is ended without a result (R82). -/
def endEvaluation (g : GroupId) (s : State) : State :=
  if s.engine = some g then { s with engine := none } else s

/-! ## The Analysis Queue (R36, R39) -/

/-- The suspension state after an entry was added (R39). -/
def suspendOnAdd (p : PartSettings) (q : AnalysisQueue) : AnalysisQueue :=
  if p.high ≤ q.entries.length then { q with suspended := true } else q

/-- The suspension state after an entry left (R39). -/
def resumeOnLeave (p : PartSettings) (q : AnalysisQueue) : AnalysisQueue :=
  if q.entries.length ≤ p.low then { q with suspended := false } else q

/-- An entry is offered to the queue: added at its tail, or discarded by a full one (R36). -/
def offerEntry (p : PartSettings) (e : QueueEntry) (q : AnalysisQueue) : AnalysisQueue :=
  if q.entries.length < Config.analysisQueueSize then suspendOnAdd p { q with entries := q.entries ++ [e] } else q

/-- The head entry leaves the queue; the next entry's application has not begun (R37). -/
def removeHead (p : PartSettings) (q : AnalysisQueue) : AnalysisQueue :=
  resumeOnLeave p { q with entries := q.entries.tail, served := [], noticeAtLeave := false }

/-- Every entry of stream `i` is discarded with its mark, and the depth falls with them (R22, R39). The state table after
R40 says that a stream write leaves the queue and the suspension state as they are: DESIGN CHOICE, R22's own words are
followed (assumption log 29). -/
def discardStream (p : PartSettings) (i : StreamId) (q : AnalysisQueue) : AnalysisQueue :=
  let rest := q.entries.filter (fun e => decide (e.stream ≠ i))
  let headGone := match q.entries with
    | e :: _ => decide (e.stream = i)
    | [] => false
  let q1 := { q with entries := rest, served := if headGone then [] else q.served,
                     noticeAtLeave := q.noticeAtLeave && !headGone }
  if rest.length < q.entries.length then resumeOnLeave p q1 else q1

/-- The suspension state after an accepted write of the watermarks (R39). -/
def watermarksWritten (p : PartSettings) (q : AnalysisQueue) : AnalysisQueue :=
  if p.high ≤ q.entries.length then { q with suspended := true }
  else if q.entries.length ≤ p.low then { q with suspended := false }
  else q

/-- The entries with the silence-follows mark set on the newest entry of stream `i` (R32). -/
def markNewest (i : StreamId) : List QueueEntry → List QueueEntry
  | [] => []
  | e :: l =>
    if l.any (fun x => decide (x.stream = i)) then e :: markNewest i l
    else if e.stream = i then { e with silenceFollows := true } :: l
    else e :: l

/-! ## Events of the part -/

/-- Raising an event that concerns no group. -/
def raiseAt (e : Event) (s : State) : State := { s with events := createEvent s.timer e none s.events }

end Sys2Proof.Machine
end

