-- ==== Sys2Proof/Machine/Flags.lean ====
section
/-! DEFINITION. The conditions and sets that the part computes from its state: the three alarm lines (R135 to R137),
the summary of an answer (R175), the store state (R188), the degraded state of a window (R97) and the elapsed time of
a limit. -/

namespace Sys2Proof.Machine

/-- Whether the Bypass Switch is INLINE (R4). -/
def State.isInLine (s : State) : Bool := decide (s.switch = .inLine)

/-- Whether start-up is under way: the reset is released and the switch is not yet INLINE (R192). -/
def State.startingUp (s : State) : Bool := decide (s.power = .released) && !s.isInLine

/-- Whether group `g` would hold nALERT: enabled, its alert-line enable on, in ALARM or TRIPPED (R136). -/
def holdsAlert (g : Group) : Bool := g.enabled && g.config.alertLine && decide (g.levelUnit.level ≠ .normal)

/-- Whether group `g` would hold nTRIP: its trip-line enable on, TRIPPED (R136). -/
def holdsTrip (g : Group) : Bool := g.config.tripLine && decide (g.levelUnit.level = .tripped)

/-- Whether group `g` would hold nSUPV: enabled and in NO-SIGNAL (R137). -/
def holdsSupv (g : Group) : Bool := decide (g.tracker.timing = .noSignal)

/-- The drive of the three lines: all deasserted in BYPASS, otherwise each by its condition (R135, R136, R137). -/
def lineConditions (s : State) : Lines :=
  { alert := s.isInLine && groupIxs.any (fun g => holdsAlert s.groups[g])
    trip := s.isInLine && groupIxs.any (fun g => holdsTrip s.groups[g])
    supv := s.isInLine &&
      (groupIxs.any (fun g => holdsSupv s.groups[g]) || s.store.defaulted || s.store.faultLatch) }

/-- The lines follow their conditions as they stand after an act (R138). -/
def driveLines (s : State) : State := { s with lines := lineConditions s }

/-- Whether a store is in progress: the activity is BUSY (R188). -/
def Store.busy (t : Store) : Bool := t.snapshot.isSome

/-- The store state of a summary (R188). -/
def storeState (t : Store) : StoreState :=
  match t.busy, t.faultLatch with
  | false, false => .idle
  | true, false => .busy
  | false, true => .fault
  | true, true => .faultBusy

/-- The set of groups at level `l`, bit n for group n (R129, R196). -/
def levelSet (s : State) (l : Level) : BitVec 8 :=
  groupIxs.foldl (fun b g => if s.groups[g].levelUnit.level = l then b ||| (1#8 <<< g.val) else b) 0#8

/-- The summary of an answer (R175). -/
def summaryOf (s : State) : Summary :=
  { tripped := levelSet s .tripped, alarmed := levelSet s .alarm, eventsPending := s.events.records.length,
    store := storeState s.store, defaulted := s.store.defaulted, forwardDrop := s.path.forwardDrop,
    reportSkipped := s.mgmt.reportSkipped }

/-- Whether an evaluated window is degraded, for any of the four reasons (R97). -/
def ResultRecord.degraded (r : ResultRecord) : Bool := r.degHoldover || r.degHeld || r.degClamped || r.degSuspect

/-- Whether a limit of `limit` ms from the timer value `start` is reached (R186, R190, R192). -/
def limitReached (s : State) (start limit : BitVec 32) : Bool := decide (s.timer - start = limit)

end Sys2Proof.Machine
end

