-- ==== Sys2Proof/Machine/Quantities.lean ====
section
/-! DEFINITION. The arithmetic of an evaluation (chapter 5) and the grading of its cells (chapter 6): exact integer
arithmetic, each quotient rounded as its rule says. -/

namespace Sys2Proof.Machine

/-- The root of `n` found bit by bit: `r` is the root so far, `k` bits remain. -/
def rootBits : Nat → Nat → Nat → Nat
  | 0, _, r => r
  | k + 1, n, r => if (r + 2 ^ k) * (r + 2 ^ k) ≤ n then rootBits k n (r + 2 ^ k) else rootBits k n r

/-- isqrt: the largest integer whose square does not exceed `n` (R87). -/
def isqrt (n : Nat) : Nat := rootBits (n.log2 / 2 + 1) n 0

/-- A figure clamped to 65535 (R95). -/
def clampFigure (n : Nat) : Nat := min Config.figureLimit n

/-- The amplitude of a pair of sums over `m` samples (R88). -/
def amplitude (m : Nat) (p : Pair) : Nat :=
  2 * isqrt (p.re.natAbs * p.re.natAbs + p.im.natAbs * p.im.natAbs) / (m * 16384)

/-- The pair of sums of an order-list position in a slot (R65). -/
def pairAt (s : SlotSums) (n : Nat) : Pair := s.pairs.getD n ⟨0, 0⟩

/-- A_1 of a slot's sums (R88). -/
def fundamental (m : Nat) (s : SlotSums) : Nat := amplitude m s.fund

/-- Whether an AC slot is below its floor (R89). -/
def belowFundFloor (cfg : GroupRecord) (a1 : Nat) : Bool := decide (a1 = 0) || decide (a1 < cfg.fundFloor)

/-- A ratio in basis points of `base`, clamped (R90, R94, R95). -/
def ratioOf (a base : Nat) : Nat := clampFigure (a * 10000 / base)

/-- The ratios of the AC positions of an AC slot (R90), for order-list position `n` on. -/
def acRatios (m a1 : Nat) (s : SlotSums) : List Order → Nat → List Nat
  | [], _ => []
  | o :: os, n =>
    if o.kind = .ac then ratioOf (amplitude m (pairAt s n)) a1 :: acRatios m a1 s os (n + 1)
    else acRatios m a1 s os (n + 1)

/-- TD of an AC slot (R91). -/
def totalDistortion (cfg : GroupRecord) (m : Nat) (s : SlotSums) : Nat :=
  clampFigure (isqrt ((acRatios m (fundamental m s) s cfg.orders 0).map (fun r => r * r)).sum)

/-- The mean of the DC slot, truncated toward zero (R92). -/
def meanOf (m : Nat) (s : SlotSums) : Int := s.sum.tdiv m

/-- The spread pp of the DC slot (R92). -/
def spreadOf (s : SlotSums) : Nat :=
  match s.min, s.max with
  | some a, some b => (b - a).toNat
  | _, _ => 0

/-- The variance of the DC slot (R93). -/
def varianceOf (m : Nat) (s : SlotSums) : Int := (s.sumSq / m : Nat) - meanOf m s * meanOf m s

/-- The RMS ripple of the DC slot (R93). -/
def rmsOf (m : Nat) (s : SlotSums) : Nat := isqrt (varianceOf m s).toNat

/-- Whether the DC slot is below its floor (R94). -/
def belowDcFloor (cfg : GroupRecord) (mean : Int) : Bool := decide (mean = 0) || decide (mean.natAbs < cfg.dcFloor)

/-- A figure of a window before grading: absent, not evaluated, or a value (R96). -/
inductive Figure where
  | absent
  | notEvaluated
  | value (v : Nat)
  deriving DecidableEq, Repr

/-- A figure that is evaluated unless the slot is below its floor. -/
def figureOf (below : Bool) (v : Nat) : Figure := if below then .notEvaluated else .value v

/-- The figure of a row in an AC slot (R96). -/
def acFigure (cfg : GroupRecord) (m : Nat) (s : SlotSums) (row : Nat) : Figure :=
  let a1 := fundamental m s
  let below := belowFundFloor cfg a1
  if row < 16 then
    match cfg.orders[row]? with
    | some o => if o.kind = .ac then figureOf below (ratioOf (amplitude m (pairAt s row)) a1) else .absent
    | none => .absent
  else if row = 16 then figureOf below (totalDistortion cfg m s)
  else .absent

/-- The figure of a row in the DC slot (R94, R96). -/
def dcFigure (cfg : GroupRecord) (m : Nat) (s : SlotSums) (row : Nat) : Figure :=
  let mean := meanOf m s
  let below := belowDcFloor cfg mean
  if row < 16 then
    match cfg.orders[row]? with
    | some o => if o.kind = .dc then figureOf below (ratioOf (amplitude m (pairAt s row)) mean.natAbs) else .absent
    | none => .absent
  else if row = 17 then figureOf below (ratioOf (rmsOf m s) mean.natAbs)
  else if row = 18 then figureOf below (ratioOf (spreadOf s) mean.natAbs)
  else .absent

/-- The figure of a row and slot of the window in a set (R96). -/
def figureAt (cfg : GroupRecord) (a : AccSet) (row : Nat) (k : SlotIx) : Figure :=
  match cfg.slots[k] with
  | .unused => .absent
  | .used .ac _ => acFigure cfg a.m a.sums[k] row
  | .used .dc _ => dcFigure cfg a.m a.sums[k] row

/-! ## Grading (R118, R119) -/

/-- The level of a value under a row: the highest whose threshold is nonzero and strictly less than it (R118). -/
def gradeValue (row : LimitRow) (v : Nat) : RowLevel :=
  if row.trip ≠ 0 ∧ row.trip < v then .trip
  else if row.alert ≠ 0 ∧ row.alert < v then .alert
  else if row.notice ≠ 0 ∧ row.notice < v then .notice
  else .clear

/-- The threshold of a level in a row: the exceeded threshold of a cell given that level (R118). -/
def thresholdOf (row : LimitRow) (l : RowLevel) : Nat :=
  match l with
  | .clear => 0
  | .notice => row.notice
  | .alert => row.alert
  | .trip => row.trip

/-- The cell of a figure graded under a row (R96, R118). -/
def gradeFigure (row : LimitRow) (f : Figure) : Cell :=
  match f with
  | .absent => .absent
  | .notEvaluated => .notEvaluated
  | .value v => .value v (gradeValue row v)

/-- The row of a cell (R200: cell 4 × row + slot). -/
def cellRow (i : Fin 76) : Fin 19 := ⟨i.val / 4, by omega⟩

/-- The slot of a cell. -/
def cellSlot (i : Fin 76) : SlotIx := ⟨i.val % 4, by omega⟩

/-- The graded cells of the window in a set (R96, R118). -/
def gradedCells (cfg : GroupRecord) (bank : Vector LimitRow 19) (a : AccSet) : Vector Cell 76 :=
  Vector.ofFn (fun i : Fin 76 => gradeFigure bank[cellRow i] (figureAt cfg a (cellRow i).val (cellSlot i)))

/-- The row levels in rising order (R118). -/
def RowLevel.rank : RowLevel → Nat
  | .clear => 0
  | .notice => 1
  | .alert => 2
  | .trip => 3

/-- The higher of two row levels (R119). -/
def maxLevel (a b : RowLevel) : RowLevel := if a.rank < b.rank then b else a

/-- W so far with a cell taken in: a cell without a value does not enter (R119). -/
def raiseLevel (w : RowLevel) (c : Cell) : RowLevel :=
  match c with
  | .value _ l => maxLevel w l
  | _ => w

/-- The window level W: the highest row level among the valued cells, CLEAR if there is none (R119). -/
def windowLevel (cells : Vector Cell 76) : RowLevel := cells.toList.foldl raiseLevel .clear

/-- Whether a cell holds a value. -/
def Cell.valued (c : Cell) : Bool :=
  match c with
  | .value _ _ => true
  | _ => false

/-! ## The result record (R64, R97 to R99) -/

/-- The frequency estimate of the window in a set, in millihertz (R64). A set in which no window has been opened has
none, and no run evaluates one: the nominal frequency stands there, DESIGN CHOICE (assumption log 7). -/
def frequencyOf (rate : Rate) (cfg : GroupRecord) (a : AccSet) : Nat :=
  match a.kind with
  | .unset => cfg.freq.hertz * 1000
  | .tracking => a.cycles * rate.samples * 1000 / a.m
  | .holdover => cfg.freq.hertz * 1000

/-- A_1 of each used AC slot, 0 for another slot (R99, R200). -/
def fundamentalsOf (cfg : GroupRecord) (a : AccSet) : Vector Nat 4 :=
  Vector.ofFn (fun k : Fin 4 =>
    match cfg.slots[k] with
    | .used .ac _ => fundamental a.m a.sums[k]
    | _ => 0)

/-- The DC slot of a group, the lowest one of kind DC, none if it uses none (R44, check 5). -/
def dcSlot (cfg : GroupRecord) : Option SlotIx :=
  slotIxs.find? (fun k => match cfg.slots[k] with
    | .used .dc _ => true
    | _ => false)

/-- The record of the window in a set, evaluated and graded under a bank of a generation (R86 to R99, R118, R119). The
mean, RMS and pp of a group that uses no DC slot, which R99 does not give, are 0: DESIGN CHOICE (assumption log 31). -/
def evaluateSet (rate : Rate) (cfg : GroupRecord) (bank : Vector LimitRow 19) (generation : BitVec 8) (a : AccSet) :
    ResultRecord :=
  let cells := gradedCells cfg bank a
  let dc : SlotSums := match dcSlot cfg with
    | some k => a.sums[k]
    | none => SlotSums.zero
  { number := a.number, startSeq := a.startSeq, kind := a.kind, cycles := a.cycles, m := a.m,
    frequency := frequencyOf rate cfg a, held := a.held, clamped := a.clamped,
    degHoldover := decide (a.kind = .holdover), degHeld := decide (cfg.heldLimit < a.held),
    degClamped := decide (0 < a.clamped), degSuspect := a.suspect,
    idle := !cells.toList.any Cell.valued, generation := generation, fundamentals := fundamentalsOf cfg a,
    mean := meanOf a.m dc, rms := rmsOf a.m dc, spread := spreadOf dc, cells := cells,
    level := windowLevel cells }

end Sys2Proof.Machine
end

