-- ==== Sys2Proof/Machine/Levels.lean ====
section
/-! DEFINITION. The Level Unit's handling of an evaluated window (R123 to R128), the auto capture request (R160), and
the Exceedance Records' handling of its cells (R141, R142). -/

namespace Sys2Proof.Machine

/-! ## The four steps (R124 to R127) -/

/-- The weight of a window level (R124). -/
def weightOf (cfg : GroupRecord) (w : RowLevel) (degraded : Bool) : Nat :=
  match w with
  | .clear => 0
  | .notice => 0
  | .alert => 1
  | .trip => if degraded then 1 else cfg.tripWeight

/-- The add step (R124). -/
def addStep (cfg : GroupRecord) (w : RowLevel) (degraded : Bool) (u : LevelUnit) : LevelUnit :=
  { u with bucket := min 255 (u.bucket + weightOf cfg w degraded) }

/-- Whether the next leak step brings the leak counter to Lk (R125). -/
def leakDue (cfg : GroupRecord) (u : LevelUnit) : Bool :=
  decide (cfg.leakPeriod ≠ 0) && decide (cfg.leakPeriod ≤ u.leakCounter + 1)

/-- The leak step (R125). -/
def leakStep (cfg : GroupRecord) (u : LevelUnit) : LevelUnit :=
  if cfg.leakPeriod = 0 then u
  else if leakDue cfg u then { u with leakCounter := 0, bucket := u.bucket - 1 }
  else { u with leakCounter := u.leakCounter + 1 }

/-- The run step (R126). -/
def runStep (w : RowLevel) (degraded idle : Bool) (u : LevelUnit) : LevelUnit :=
  if w = .trip ∧ ¬idle then
    if degraded then u else { u with run := min 255 (u.run + 1) }
  else { u with run := 0 }

/-- The level that a window gives (R127). -/
def levelGiven (cfg : GroupRecord) (u : LevelUnit) : Level :=
  if cfg.tripFunction ∧ u.level ≠ .tripped ∧ cfg.tripPersistence ≤ u.run then .tripped
  else if u.level = .normal ∧ cfg.bHi ≤ u.bucket then .alarm
  else if u.level = .alarm ∧ u.bucket ≤ cfg.bLo then .normal
  else u.level

/-- The level step (R127). -/
def levelStep (cfg : GroupRecord) (u : LevelUnit) : LevelUnit := { u with level := levelGiven cfg u }

/-- The Level Unit after a window of level `w` (R123). -/
def handleLevels (cfg : GroupRecord) (w : RowLevel) (degraded idle : Bool) (u : LevelUnit) : LevelUnit :=
  levelStep cfg (runStep w degraded idle (leakStep cfg (addStep cfg w degraded u)))

/-- An auto capture request of a group that a window made TRIPPED (R160). -/
def autoCapture (c : GroupContext) (number : BitVec 32) (v : GroupView) : GroupView :=
  match claimSlot c.group .trip v.captures with
  | .ok (_, _, caps) => { v with captures := caps }
  | .error reason => raiseEvent c (.captureMiss c.group reason) (some (low16 number)) v

/-- The Level Unit at an evaluation completion: the four steps, then the LEVEL event and the capture request of a
change (R123, R127, R128, R129). -/
def levelWindow (c : GroupContext) (r : ResultRecord) (v : GroupView) : GroupView :=
  let u := v.grp.levelUnit
  let u1 := handleLevels v.grp.config r.level r.degraded r.idle u
  let v1 := { v with grp := { v.grp with levelUnit := u1 } }
  if u1.level = u.level then v1
  else
    let v2 := raiseEvent c (.level c.group u1.level .window) (some (low16 r.number)) v1
    if u1.level = .tripped ∧ v.grp.config.autoCapture then autoCapture c r.number v2 else v2

/-! ## The Exceedance Records (R141, R142) -/

/-- A cell at ALERT or above, as the Exceedance Records receive it (R120). -/
structure Exceedance where
  row : Nat
  slot : SlotIx
  value : Nat
  level : RowLevel
  threshold : Nat
  deriving DecidableEq, Repr

/-- The exceedance of a cell, none below ALERT (R120). -/
def exceedanceOf (bank : Vector LimitRow 19) (cells : Vector Cell 76) (i : Fin 76) : Option Exceedance :=
  match cells[i] with
  | .value v l =>
    if 2 ≤ l.rank then
      some { row := (cellRow i).val, slot := cellSlot i, value := v, level := l,
             threshold := thresholdOf bank[cellRow i] l }
    else none
  | _ => none

/-- The numbers of the cells in row order, slot by slot. -/
def cellIxs : List (Fin 76) := (List.range 19).flatMap (fun r => slotIxs.map (fun k => Fin.ofNat 76 (4 * r + k.val)))

/-- The exceedances of a window, in row order, slot by slot (R120, R141). -/
def exceedances (bank : Vector LimitRow 19) (cells : Vector Cell 76) : List Exceedance :=
  cellIxs.filterMap (exceedanceOf bank cells)

/-- The chosen cell: the highest level, then the lowest row, then the lowest slot (R141). -/
def chosenExceedance (l : List Exceedance) : Option Exceedance :=
  match l.find? (fun e => decide (e.level = .trip)) with
  | some e => some e
  | none => l.head?

/-- The next-row set with the rows of a list of exceedances (R141, R142). -/
def addRows (rows : BitVec 19) (l : List Exceedance) : BitVec 19 := l.foldl (fun b e => b ||| (1#19 <<< e.row)) rows

/-- The first-exceedance record that a window latches on a chosen cell (R141). -/
def latchRecord (r : ResultRecord) (e : Exceedance) : FirstRecord :=
  { number := r.number, row := e.row, slot := e.slot, value := e.value, threshold := e.threshold, level := e.level,
    generation := r.generation, degraded := r.degraded, repeats := 0, latest := r.number }

/-- The Exceedance Records at an evaluation completion (R141, R142). -/
def exceedWindow (r : ResultRecord) (l : List Exceedance) (g : Group) : Group :=
  match chosenExceedance l, g.first with
  | none, _ => g
  | some e, none =>
    { g with first := some (latchRecord r e),
             nextRows := addRows g.nextRows (l.filter (fun x => decide (x.row ≠ e.row))) }
  | some _, some f =>
    { g with first := some { f with repeats := min 65535 (f.repeats + 1), latest := r.number },
             nextRows := addRows g.nextRows l }

end Sys2Proof.Machine
end

