-- ==== Sys2Proof/Machine/Evaluation.lean ====
section
/-! DEFINITION. The Result Engine's completion of an evaluation (R81, R100) with what it hands on, the window report
(R182, R183), and the commands EVALUATION_COMPLETION and LEAK. -/

namespace Sys2Proof.Machine

/-! ## Window reports (R182, R183) -/

/-- The broadcast address, where reports go while the controller address is unset (R183). -/
def broadcastAddress : Addr := 0xFFFFFFFFFFFF

/-- The window report of group `g` for the record `r`, built from the state as it stands (R182, R183, R197). -/
def buildReport (s : State) (g : GroupId) (r : ResultRecord) : WindowReport :=
  { dst := s.mgmt.controller.getD broadcastAddress, src := s.activeAddress, summary := summaryOf s,
    number := s.mgmt.reportCounter, group := g, levelUnit := s.groups[g].levelUnit,
    timing := s.groups[g].tracker.timing, generation := s.groups[g].generation,
    firstPresent := s.groups[g].first.isSome, result := r }

/-- The offer of a window report: the number is taken, and the report is built, skipped under suspension, or skipped
at a full report queue with the flag set (R182, R183). -/
def offerReport (g : GroupId) (r : ResultRecord) (s : State) : State :=
  let m := { s.mgmt with reportCounter := s.mgmt.reportCounter + 1 }
  if s.queue.suspended then { s with mgmt := m }
  else if m.reports.length < Config.reportQueueSize then
    { s with mgmt := { m with reports := m.reports ++ [buildReport s g r] } }
  else { s with mgmt := { m with reportSkipped := true } }

/-! ## Completion (R81) -/

/-- The record of the EVALUATING set `i` of group `g`, under the NOW bank as it stands (R81, R83). -/
def evaluatedRecord (s : State) (g : GroupId) (i : SetIx) : ResultRecord :=
  let grp := s.groups[g]
  evaluateSet (contextOf s g).rate grp.config grp.nowBank grp.generation grp.sets[i]

/-- The group with its evaluation completed in set `i`: the generation written into the set, the set IDLE with its
sums kept, and the result record replaced whole (R81, R100). -/
def storeResult (r : ResultRecord) (i : SetIx) (g : Group) : Group :=
  { g with sets := upd g.sets i { g.sets[i] with state := .idle, limitGen := g.generation }, result := some r }

/-- What a completion does at its group: the result record, the Level Unit, and the Exceedance Records (R81, R100,
R120, R123). -/
def completeAtGroup (r : ResultRecord) (i : SetIx) (c : GroupContext) (v : GroupView) : GroupView :=
  let v1 := levelWindow c r { v with grp := storeResult r i v.grp }
  { v1 with grp := exceedWindow r (exceedances v.grp.nowBank r.cells) v1.grp }

/-- The completion of the evaluation under way (R81): the record is written and handed on, a report is offered if the
group's report enable is on, and the engine takes the next head of its wait list. -/
def completeEvaluation (s : State) : State :=
  match s.engine with
  | none => s
  | some g =>
    match setIn .evaluating s.groups[g].sets with
    | none => engineTake { s with engine := none }
    | some i =>
      let r := evaluatedRecord s g i
      let s1 := actOn { s with engine := none } g (completeAtGroup r i)
      let s2 := if s.groups[g].config.reportEnable then offerReport g r s1 else s1
      engineTake s2

/-- Whether the evaluation under way is one at whose completion the leak counter reaches Lk (R125). -/
def leakAtCompletion (s : State) : Bool :=
  match s.engine with
  | none => false
  | some g => leakDue s.groups[g].config s.groups[g].levelUnit

/-- An act of the part: its effect, and the lines as they stand after it (R138). -/
def act (s : State) : Host.Outcome State Fault Refusal := .next (driveLines s)

/-- EVALUATION_COMPLETION (R81). -/
def execEvaluationCompletion (s : State) : Host.Outcome State Fault Refusal := act (completeEvaluation s)

/-- LEAK (R125): the leak is a step of the handling of one window, which R123 makes one act with the completion. The
command is that completion, taken when the leak counter reaches Lk in it (assumption log 4). -/
def execLeak (s : State) : Host.Outcome State Fault Refusal :=
  act (if leakAtCompletion s then completeEvaluation s else s)

end Sys2Proof.Machine
end

