-- ==== Sys2Proof/Machine/Tracking.lean ====
section
/-! DEFINITION. The pass of one Analysis Queue entry over one group (R49): forming samples (R50), crossings and cycles
(R51, R52), the timing states and the windows (R54 to R59), silence notices (R60), gaps (R61 to R63), and the addition
of samples to the sums (R70 to R74). -/

namespace Sys2Proof.Machine

/-! ## Nominal lengths -/

/-- The nominal cycle length L0 = S / F0 (chapter 0, symbols). -/
def nominalLength (r : Rate) (f : Freq) : Nat := r.samples / f.hertz

/-- The longest accepted cycle L_max: the largest L with 16 × L × F0 ≤ 17 × S (R52). -/
def longestCycle (r : Rate) (f : Freq) : Nat := 17 * r.samples / (16 * f.hertz)

/-- The acceptance of a cycle of length `len` (R52). -/
def cycleAccepted (r : Rate) (f : Freq) (len : Nat) : Bool :=
  decide (15 * r.samples ≤ 16 * len * f.hertz) && decide (16 * len * f.hertz ≤ 17 * r.samples)

/-! ## Adding samples to the sums (R70, R71) -/

/-- A value added to a pair at phase index `p` (R71). -/
def addToPair (x : Int) (p : Nat) (q : Pair) : Pair := { re := q.re + x * cosTable p, im := q.im + x * sinTable p }

/-- A value added to the pairs of the order-list positions of the slot's kind, at offset `r` of a cycle of length
`len` (R71). The pairs of other positions are not kept and stay 0. -/
def addToPairs (kind : Kind) (x : Int) (r len : Nat) : List Order → List Pair → List Pair
  | [], _ => []
  | o :: os, ps =>
    let q := ps.headD ⟨0, 0⟩
    (if o.kind = kind then addToPair x (phaseIndex o.h r len) q else q) :: addToPairs kind x r len os ps.tail

/-- The smaller of an extreme value, empty at first, and `x` (R71). -/
def lowerOf (m : Option Int) (x : Int) : Option Int :=
  match m with
  | none => some x
  | some y => some (if x < y then x else y)

/-- The larger of an extreme value, empty at first, and `x` (R71). -/
def upperOf (m : Option Int) (x : Int) : Option Int :=
  match m with
  | none => some x
  | some y => some (if y < x then x else y)

/-- A value added to the sums of a used slot (R71). -/
def addToSlot (kind : Kind) (orders : List Order) (x : Int) (r len : Nat) (s : SlotSums) : SlotSums :=
  let s1 := { s with fund := addToPair x (phaseIndex 1 r len) s.fund,
                     pairs := addToPairs kind x r len orders s.pairs }
  match kind with
  | .ac => s1
  | .dc => { s1 with sum := s.sum + x, sumSq := s.sumSq + x.natAbs * x.natAbs, min := lowerOf s.min x,
                     max := upperOf s.max x }

/-- The sums of the slots with a sample added (R71). -/
def addSums (cfg : GroupRecord) (r len : Nat) (x : Sample) (sums : Vector SlotSums 4) : Vector SlotSums 4 :=
  Vector.ofFn (fun k : Fin 4 =>
    match cfg.slots[k] with
    | .unused => sums[k]
    | .used kind _ => addToSlot kind cfg.orders x.vals[k] r len sums[k])

/-- A sample at offset `r` of a cycle of length `len` added to a set (R71). -/
def addSample (cfg : GroupRecord) (r len : Nat) (x : Sample) (a : AccSet) : AccSet :=
  { a with m := a.m + 1, held := if x.held then a.held + 1 else a.held,
           clamped := if x.clamped then a.clamped + 1 else a.clamped, suspect := a.suspect || x.suspect,
           sums := addSums cfg r len x a.sums }

/-- The samples of a cycle of length `len`, from offset `r` on, added to a set in their order (R74). -/
def addCycle (cfg : GroupRecord) (len : Nat) : List Sample → Nat → AccSet → AccSet
  | [], _, a => a
  | x :: l, r, a => addCycle cfg len l (r + 1) (addSample cfg r len x a)

/-- The group with its ACCUMULATING set changed by `f`. -/
def onOpenSet (f : AccSet → AccSet) (g : Group) : Group :=
  match setIn .accumulating g.sets with
  | some i => { g with sets := upd g.sets i (f g.sets[i]) }
  | none => g

/-! ## The Cycle Tracker at one sample (R51, R52) -/

/-- What becomes of a cycle at a sample (R52). -/
inductive Verdict where
  | none
  | accepted (len : Nat)
  | early
  | late
  deriving DecidableEq, Repr

/-- Whether the sample whose reference value is `x` is a crossing (R51). -/
def isCrossing (t : Tracker) (x : Int) : Bool := t.armed && decide (0 ≤ x)

/-- The verdict on the cycle in progress at a sample (R52). -/
def verdictOf (r : Rate) (f : Freq) (crossing : Bool) (count : Option Nat) : Verdict :=
  match crossing, count with
  | true, some len => if cycleAccepted r f len then .accepted len else .early
  | false, some n => if n < longestCycle r f then .none else .late
  | _, none => .none

/-- The cycle count after a sample (R52). -/
def nextCount (r : Rate) (f : Freq) (crossing : Bool) (count : Option Nat) : Option Nat :=
  match crossing, count with
  | true, _ => some 1
  | false, some n => if n < longestCycle r f then some (n + 1) else none
  | false, none => none

/-- The lock count after a verdict (R52). -/
def nextLock (v : Verdict) (lock : Nat) : Nat :=
  match v with
  | .none => lock
  | .accepted _ => min 255 (lock + 1)
  | .early => 0
  | .late => 0

/-- The armed mark after a sample (R51). -/
def nextArmed (deadband : Nat) (crossing : Bool) (x : Int) (armed : Bool) : Bool :=
  if crossing then false else if x < -(deadband : Int) then true else armed

/-- The reference slot's value of a sample. -/
def refValue (g : Group) (x : Sample) : Int := x.vals[g.config.refSlot]

/-- The verdict that a sample brings at a group. -/
def sampleVerdict (c : GroupContext) (g : Group) (x : Sample) : Verdict :=
  verdictOf c.rate g.config.freq (isCrossing g.tracker (refValue g x)) g.tracker.cycleCount

/-- The group with its armed mark, cycle count and lock count moved on by a sample (R51, R52). -/
def trackSample (c : GroupContext) (x : Sample) (g : Group) : Group :=
  let t := g.tracker
  let crossing := isCrossing t (refValue g x)
  { g with tracker :=
      { t with armed := nextArmed g.config.deadband crossing (refValue g x) t.armed,
               cycleCount := nextCount c.rate g.config.freq crossing t.cycleCount,
               lockCount := nextLock (sampleVerdict c g x) t.lockCount } }

/-! ## Windows sample by sample (R54 to R59, R73, R74) -/

/-- A group's tracker record changed by `f`. -/
def onTracker (f : Tracker → Tracker) (v : GroupView) : GroupView :=
  { v with grp := { v.grp with tracker := f v.grp.tracker } }

/-- A sample that goes to the open window is written to a FILLING capture (R162). -/
def writeCapture (c : GroupContext) (x : Sample) (v : GroupView) : GroupView :=
  { v with captures := captureWrite c.group x.vals v.captures }

/-- A sample goes to the open TRACKING window: to the capture and to the tail of the cycle buffer (R74). -/
def bufferSample (c : GroupContext) (x : Sample) (v : GroupView) : GroupView :=
  writeCapture c x { v with grp := { v.grp with buffer := v.grp.buffer ++ [x] } }

/-- A TRACKING window opens at the crossing sample `x` (R54, R56, R59, R68, R74). -/
def openTracking (c : GroupContext) (seq : Nat) (x : Sample) (v : GroupView) : GroupView :=
  let v1 := openWindow c .tracking seq v
  bufferSample c x
    (onTracker (fun t => { t with winCycles := 0, winSamples := 1 }) { v1 with grp := { v1.grp with buffer := [] } })

/-- The group goes to TRACKING at the crossing sample `x` (R54, R59). -/
def beginTracking (c : GroupContext) (seq : Nat) (x : Sample) (v : GroupView) : GroupView :=
  openTracking c seq x (enterTiming c .tracking (onTracker (fun t => { t with lockCount := 0 }) v))

/-- The tracker record as ACQUIRING is entered (R54). The window counts are not among what R54 clears; no window is open,
so they are 0: DESIGN CHOICE (assumption log 30). -/
def acquiringTracker (t : Tracker) : Tracker :=
  { t with armed := false, cycleCount := none, lockCount := 0, acqCount := 0, winCycles := 0, winSamples := 0 }

/-- The group goes to ACQUIRING (R54, R60, R63). -/
def enterAcquiring (c : GroupContext) (v : GroupView) : GroupView :=
  enterTiming c .acquiring (onTracker acquiringTracker v)

/-- The group goes to HOLDOVER; its window opens at a later sample (R55, R57, R59). The window counts are not among what
those rules clear; no window is open, so they are 0: DESIGN CHOICE (assumption log 30). -/
def enterHoldover (c : GroupContext) (v : GroupView) : GroupView :=
  enterTiming c .holdover (onTracker (fun t => { t with winCycles := 0, winSamples := 0 }) v)

/-- Whether a sample handled in ACQUIRING locks: its accepted cycle brings the lock count to 4 (R54). -/
def locks (verdict : Verdict) (lock : Nat) : Bool :=
  match verdict with
  | .accepted _ => decide (4 ≤ lock)
  | _ => false

/-- The number of samples of an acquisition that times out, 64 × L0 (R55). -/
def acquisitionLimit (c : GroupContext) (g : Group) : Nat := 64 * nominalLength c.rate g.config.freq

/-- A sample handled in ACQUIRING, after the tracker (R54, R55). The acquisition count rises here alone, as R55 gives; that
it keeps its value once the group has left ACQUIRING, where R48 speaks of the samples handled since the group entered it:
DESIGN CHOICE (assumption log 34). -/
def acquiringSample (c : GroupContext) (seq : Nat) (x : Sample) (verdict : Verdict) (v : GroupView) : GroupView :=
  let v1 := onTracker (fun t => { t with acqCount := t.acqCount + 1 }) v
  if locks verdict v1.grp.tracker.lockCount then beginTracking c seq x v1
  else if acquisitionLimit c v1.grp ≤ v1.grp.tracker.acqCount then enterHoldover c v1
  else v1

/-- A crossing that ends an accepted cycle in TRACKING: the buffered cycle is added, and the window closes if it was
the C-th cycle, the crossing sample opening the next one (R56, R74). -/
def acceptedCycle (c : GroupContext) (seq : Nat) (x : Sample) (len : Nat) (v : GroupView) : GroupView :=
  let g := onOpenSet (addCycle v.grp.config len v.grp.buffer 0) v.grp
  let v1 := { v with grp := { g with buffer := [] } }
  if v1.grp.config.cycles ≤ v1.grp.tracker.winCycles + 1 then openTracking c seq x (closeWindow c true v1)
  else
    bufferSample c x
      (onTracker (fun t => { t with winCycles := t.winCycles + 1, winSamples := t.winSamples + 1 }) v1)

/-- A sample handled in TRACKING, after the tracker (R56, R57, R74). -/
def trackingSample (c : GroupContext) (seq : Nat) (x : Sample) (verdict : Verdict) (v : GroupView) : GroupView :=
  match verdict with
  | .accepted len => acceptedCycle c seq x len v
  | .none => bufferSample c x (onTracker (fun t => { t with winSamples := t.winSamples + 1 }) v)
  | .early => enterHoldover c (abortWindow c .timingLoss true v)
  | .late => enterHoldover c (abortWindow c .timingLoss true v)

/-- The number of samples of a holdover window, C × L0 (R58). -/
def holdoverLength (c : GroupContext) (g : Group) : Nat := g.config.cycles * nominalLength c.rate g.config.freq

/-- The close of a holdover window (R58, R59). No rule says what the window sample count is between this close and the
next opening, in HOLDOVER or in ALIGNING; no window is open, so it is 0: DESIGN CHOICE (assumption log 30). -/
def closeHoldover (c : GroupContext) (v : GroupView) : GroupView :=
  let done (w : GroupView) := onTracker (fun t => { t with winSamples := 0 }) w
  if 4 ≤ v.grp.tracker.lockCount then enterTiming c .aligning (done (closeWindow c false v))
  else done (closeWindow c true v)

/-- A sample handled in HOLDOVER, after the tracker: it opens the window if none is open, goes to it, and closes it
with its C × L0-th sample (R58, R73). -/
def holdoverSample (c : GroupContext) (seq : Nat) (x : Sample) (v : GroupView) : GroupView :=
  let v1 := if v.grp.tracker.winSamples = 0 then openWindow c .holdover seq v else v
  let len := nominalLength c.rate v1.grp.config.freq
  let g := onOpenSet (addSample v1.grp.config (v1.grp.tracker.winSamples % len) len x) v1.grp
  let v2 := writeCapture c x (onTracker (fun t => { t with winSamples := t.winSamples + 1 }) { v1 with grp := g })
  if holdoverLength c v2.grp ≤ v2.grp.tracker.winSamples then closeHoldover c v2 else v2

/-- A sample handled in ALIGNING, after the tracker (R59). -/
def aligningSample (c : GroupContext) (seq : Nat) (x : Sample) (crossing : Bool) (verdict : Verdict)
    (v : GroupView) : GroupView :=
  if crossing then beginTracking c seq x v
  else
    match verdict with
    | .late => holdoverSample c seq x (enterHoldover c v)
    | _ => v

/-- The handling of one sample by a group: the Cycle Tracker, then the timing state and the window (R49). -/
def handleSample (c : GroupContext) (seq : Nat) (x : Sample) (v : GroupView) : GroupView :=
  let verdict := sampleVerdict c v.grp x
  let crossing := isCrossing v.grp.tracker (refValue v.grp x)
  let v1 := { v with grp := trackSample c x v.grp }
  match v1.grp.tracker.timing with
  | .disabled => v1
  | .noSignal => v1
  | .acquiring => acquiringSample c seq x verdict v1
  | .tracking => trackingSample c seq x verdict v1
  | .holdover => holdoverSample c seq x v1
  | .aligning => aligningSample c seq x crossing verdict v1

/-! ## Forming samples (R50) -/

/-- The value of an entry at a value index, with its mark. -/
def entryValue (e : QueueEntry) (i : Fin 8) : MarkedValue := e.values.getD i.val ⟨0, .invalid⟩

/-- The value that a real sample gives a slot, where `last` is the slot's last value (R50). -/
def slotValue (e : QueueEntry) (last : Int) (u : SlotUse) : Int :=
  match u with
  | .unused => 0
  | .used _ i => if (entryValue e i).mark = .invalid then last else (entryValue e i).value

/-- Whether a used slot's value in the entry carries the mark `m` (R50). -/
def slotMarked (e : QueueEntry) (m : Mark) (u : SlotUse) : Bool :=
  match u with
  | .unused => false
  | .used _ i => decide ((entryValue e i).mark = m)

/-- The real sample of an entry (R50). -/
def realSample (e : QueueEntry) (g : Group) : Sample :=
  { vals := Vector.ofFn (fun k : Fin 4 => slotValue e g.tracker.last[k] g.config.slots[k])
    held := slotIxs.any (fun k => slotMarked e .invalid g.config.slots[k])
    clamped := slotIxs.any (fun k => slotMarked e .clamped g.config.slots[k])
    suspect := e.suspect }

/-- A held sample before an entry: every used slot takes its last value (R50, R62). -/
def heldSample (e : QueueEntry) (g : Group) : Sample :=
  { vals := Vector.ofFn (fun k : Fin 4 => match g.config.slots[k] with
      | .unused => 0
      | .used _ _ => g.tracker.last[k])
    held := true
    clamped := false
    suspect := e.suspect }

/-- The slots' last values after the real sample of an entry: those of used slots are the sample's values (R50). -/
def lastAfter (e : QueueEntry) (g : Group) : Vector Int 4 :=
  Vector.ofFn (fun k : Fin 4 => match g.config.slots[k] with
    | .unused => g.tracker.last[k]
    | .used _ _ => (realSample e g).vals[k])

/-! ## One pass (R49, R60 to R63) -/

/-- One sample of a pass: a held one or the real one, with the sequence number it stands for (R62). -/
inductive Instant where
  | held (seq : Nat)
  | real (seq : Nat)
  deriving DecidableEq, Repr

/-- The sample that a group forms at an instant (R50). -/
def instantSample (e : QueueEntry) (i : Instant) (g : Group) : Sample :=
  match i with
  | .held _ => heldSample e g
  | .real _ => realSample e g

/-- The sequence number of an instant. -/
def instantSeq : Instant → Nat
  | .held seq => seq
  | .real seq => seq

/-- The handling of one instant of a pass: the sample is formed, a real one replacing the last values, and handled
(R49, R50). -/
def handleInstant (c : GroupContext) (e : QueueEntry) (v : GroupView) (i : Instant) : GroupView :=
  let x := instantSample e i v.grp
  match i with
  | .held seq => handleSample c seq x v
  | .real seq => handleSample c seq x (onTracker (fun t => { t with last := lastAfter e v.grp }) v)

/-- The gap that an entry shows a group (R61). -/
def gapOf (c : GroupContext) (e : QueueEntry) (t : Tracker) : Nat :=
  match t.expected with
  | none => 0
  | some x => (e.seq + c.rate.samples - x % c.rate.samples) % c.rate.samples

/-- The instants of a pass: after a gap of 1 to G_max the held samples for the missing numbers, then the entry's own
sample (R61, R62). -/
def instantsOf (c : GroupContext) (e : QueueEntry) (g : Group) : List Instant :=
  let gap := gapOf c e g.tracker
  let first := g.tracker.expected.getD e.seq
  (if gap ≤ g.config.gapLimit then
    (List.range gap).map (fun k => Instant.held ((first + k) % c.rate.samples)) else []) ++ [.real e.seq]

/-- Whether a window is open: always in TRACKING, and in HOLDOVER once its first sample has come (R56, R58). -/
def windowOpen (t : Tracker) : Bool :=
  decide (t.timing = .tracking) || (decide (t.timing = .holdover) && decide (t.winSamples ≠ 0))

/-- A gap above G_max reaches a group (R63). The window counts of a group that stays in HOLDOVER return to 0 with its
window: DESIGN CHOICE (assumption log 30). -/
def largeGap (c : GroupContext) (v : GroupView) : GroupView :=
  let clear (w : GroupView) := onTracker (fun t => { t with armed := false, cycleCount := none, lockCount := 0 }) w
  match v.grp.tracker.timing with
  | .tracking => enterAcquiring c (abortWindow c .gap false v)
  | .aligning => enterAcquiring c v
  | .acquiring => clear v
  | .holdover =>
    let v1 := if windowOpen v.grp.tracker then abortWindow c .gap true v else v
    onTracker (fun t => { t with winCycles := 0, winSamples := 0 }) (clear v1)
  | .disabled => v
  | .noSignal => v

/-- The beginning of a pass: the return of signal and a gap above G_max (R60, R61, R63). -/
def beginPass (c : GroupContext) (e : QueueEntry) (v : GroupView) : GroupView :=
  let v1 := if v.grp.tracker.timing = .noSignal then enterAcquiring c v else v
  if v1.grp.config.gapLimit < gapOf c e v1.grp.tracker then largeGap c v1 else v1

/-- The pass of an entry over a group (R49): its beginning, its samples in order, and E_g. -/
def passEntry (c : GroupContext) (e : QueueEntry) (v : GroupView) : GroupView :=
  let w := (instantsOf c e v.grp).foldl (handleInstant c e) (beginPass c e v)
  onTracker (fun t => { t with expected := some ((e.seq + 1) % c.rate.samples) }) w

/-- Whether something happens at an instant of a list of instants, handled in order from `v`. -/
def happensIn (c : GroupContext) (e : QueueEntry) (p : GroupView → Instant → Bool) : List Instant → GroupView → Bool
  | [], _ => false
  | i :: l, v => p v i || happensIn c e p l (handleInstant c e v i)

/-- Whether something happens at an instant of the pass of an entry over a group. -/
def happensInPass (p : GroupContext → QueueEntry → GroupView → Instant → Bool) (c : GroupContext) (e : QueueEntry)
    (v : GroupView) : Bool :=
  happensIn c e (p c e) (instantsOf c e v.grp) (beginPass c e v)

/-- At this instant a cycle becomes too late (R52). -/
def tooLateAt (c : GroupContext) (e : QueueEntry) (v : GroupView) (i : Instant) : Bool :=
  decide (sampleVerdict c v.grp (instantSample e i v.grp) = .late)

/-- At this instant the acquisition times out (R55). -/
def timeoutAt (c : GroupContext) (e : QueueEntry) (v : GroupView) (i : Instant) : Bool :=
  decide (v.grp.tracker.timing = .acquiring) && decide ((handleInstant c e v i).grp.tracker.timing = .holdover)

/-- At this instant a holdover window closes: the sample is handled in HOLDOVER, or brings ALIGNING to it, and leaves
no window open (R58, R59). -/
def holdoverCloseAt (c : GroupContext) (e : QueueEntry) (v : GroupView) (i : Instant) : Bool :=
  let w := (handleInstant c e v i).grp.tracker
  decide (v.grp.tracker.timing = .holdover) && !windowOpen w

/-- A silence notice reaches an enabled group (R60). -/
def silenceNotice (c : GroupContext) (v : GroupView) : GroupView :=
  let t := v.grp.tracker
  let v1 := if windowOpen t then abortWindow c .silence false v
    else if t.timing = .holdover then dropWaitingSet v
    else v
  let v2 := if t.timing = .noSignal then v1 else enterTiming c .noSignal v1
  onTracker (fun t => { t with armed := false, cycleCount := none, lockCount := 0, winCycles := 0, winSamples := 0,
                               expected := none }) v2

end Sys2Proof.Machine
end

