-- ==== Sys2Proof/Machine/Enabling.lean ====
section
/-! DEFINITION. Enabling and disabling a group and restarting its analysis: validation (R44), the effects of an enable
(R45), of a disable (R46), and of a restart on one group (R47, R185). -/

namespace Sys2Proof.Machine

/-! ## Validation (R44) -/

/-- A failed validation: the check code, and the slot or order-list position that failed, if the check names one. -/
structure CheckFailure where
  code : Nat
  place : Option Nat
  deriving DecidableEq, Repr

/-- Whether a slot is used and of kind `k`. -/
def slotIsKind (k : Kind) (u : SlotUse) : Bool :=
  match u with
  | .unused => false
  | .used kind _ => decide (kind = k)

/-- Whether a slot passes check 2: unused, or its value index below V (R44). -/
def slotInRange (v : Nat) (u : SlotUse) : Bool :=
  match u with
  | .unused => true
  | .used _ i => decide (i.val < v)

/-- The number of slots of kind DC. -/
def dcSlots (cfg : GroupRecord) : Nat := (slotIxs.filter (fun k => slotIsKind .dc cfg.slots[k])).length

/-- Whether an order-list entry passes check 6 (R44). -/
def orderPasses (cfg : GroupRecord) (rate : Rate) (o : Order) : Bool :=
  decide (2 * o.h * cfg.freq.hertz < rate.samples) &&
    match o.kind with
    | .ac => decide (2 ≤ o.h)
    | .dc => decide (1 ≤ o.h) && decide (dcSlots cfg ≠ 0)

/-- The lowest slot that fails check 2, none if none does (R44). -/
def badSlot (cfg : GroupRecord) (v : Nat) : Option SlotIx := slotIxs.find? (fun k => !slotInRange v cfg.slots[k])

/-- The lowest order-list position that fails check 6, none if none does (R44; assumption log 12). -/
def badOrder (cfg : GroupRecord) (rate : Rate) : Option Nat := cfg.orders.findIdx? (fun o => !orderPasses cfg rate o)

/-- The first check of R44 that a record fails against its stream entry, none if it passes them all. -/
def validate (e : StreamEntry) (cfg : GroupRecord) : Option CheckFailure :=
  if ¬e.valid then some ⟨1, none⟩
  else
    match badSlot cfg e.valueCount with
    | some k => some ⟨2, some k.val⟩
    | none =>
      if ¬slotIsKind .ac cfg.slots[cfg.refSlot] then some ⟨3, none⟩
      else if ¬slotIxs.any (fun k => slotIsKind .ac cfg.slots[k]) then some ⟨4, none⟩
      else if 1 < dcSlots cfg then some ⟨5, none⟩
      else
        match badOrder cfg e.rate with
        | some n => some ⟨6, some n⟩
        | none => none

/-! ## Enable (R45) -/

/-- The group with its analysis state as an enable sets it, in the timing state `t` (R45, R78). -/
def enabledGroup (t : Timing) (g : Group) : Group :=
  { g with tracker := Tracker.fresh t, buffer := [], counter := 0,
           sets := upd (upd g.sets 0 (clearSet .idle g.sets[0])) 1 (clearSet .idle g.sets[1]),
           result := none, first := none, nextRows := 0, levelUnit := LevelUnit.fresh }

/-- An enable of a group whose stream's activity is ACTIVE or not (R45): GROUP ENABLED, then TIMING. -/
def enableView (active : Bool) (c : GroupContext) (v : GroupView) : GroupView :=
  let t : Timing := if active then .acquiring else .noSignal
  raiseEvent c (.timing c.group t) none
    (raiseEvent c (.groupEnabled c.group) none { v with grp := enabledGroup t v.grp })

/-- Whether the stream that group `g` names is ACTIVE. -/
def streamActive (s : State) (g : GroupId) : Bool :=
  decide (s.supervision[s.groups[g].config.stream].activity = .active)

/-- Group `g` enabled (R45). -/
def enableGroup (g : GroupId) (s : State) : State := actOn s g (enableView (streamActive s g))

/-- The validation of group `g` against the Stream Table as it stands (R44). -/
def validateGroup (s : State) (g : GroupId) : Option CheckFailure :=
  validate s.streams[s.groups[g].config.stream] s.groups[g].config

/-! ## Disable (R46) -/

/-- The Level Unit returned to NORMAL with its counts 0, without an event (R133). -/
def resetLevel (v : GroupView) : GroupView := { v with grp := { v.grp with levelUnit := LevelUnit.fresh } }

/-- A disable at its group (R46): accumulation ended, a pending commit taken, the level returned, the group's capture
slot ended, DISABLED with E_g unset, then GROUP DISABLED and TIMING. -/
def disableView (c : GroupContext) (v : GroupView) : GroupView :=
  let v1 := resetLevel (takePending c none (endAccumulation c v))
  let v2 := { v1 with captures := endGroupSlot c.group v1.captures }
  let v3 := onTracker (fun t => { t with expected := none, timing := .disabled }) v2
  raiseEvent c (.timing c.group .disabled) none (raiseEvent c (.groupDisabled c.group) none v3)

/-- Group `g` disabled (R46, R82): an evaluation of its set is ended, and the engine takes the next head. -/
def disableGroup (g : GroupId) (s : State) : State := engineTake (actOn (endEvaluation g s) g disableView)

/-! ## Restart (R47, R185) -/

/-- A restart at one enabled group (R47, R185). -/
def restartView (c : GroupContext) (v : GroupView) : GroupView :=
  let v1 := resetLevel (endAccumulation c (takePending c none v))
  let v2 := { v1 with grp := { v1.grp with counter := 0, result := none, first := none, nextRows := 0,
                                           tracker := Tracker.fresh .noSignal } }
  if v.grp.tracker.timing = .noSignal then v2 else raiseEvent c (.timing c.group .noSignal) none v2

/-- A restart at group `g`, which a disabled group leaves as it is (R47). -/
def restartGroup (s : State) (g : GroupId) : State :=
  if s.groups[g].enabled then actOn (endEvaluation g s) g restartView else s

/-- RESTART ANALYSIS: the enabled groups in order of group number, then the Capture Unit, the Analysis Queue, the
supervision records and the rate interval clock (R185, R40). -/
def restartAnalysis (s : State) : State :=
  let s1 := groupIxs.foldl restartGroup s
  engineTake
    { s1 with captures := endAllSlots s1.captures,
              queue := { entries := [], served := [], noticeAtLeave := false, suspended := false },
              supervision := Vector.replicate 16 Supervision.fresh, rateClock := 0, rateDue := false }

end Sys2Proof.Machine
end

