-- ==== Sys2Proof/Machine/Requests.lean ====
section
/-! DEFINITION. The path that every management request follows (R174, R175, R176): which commands may take the head of
the request queue, the checks that every request meets, the answer, and the act of taking. -/

namespace Sys2Proof.Machine

/-- What serving a request gives: the status and the payload of its answer, whether the sticky flags are cleared as
the answer is built (R178), whether the answer is that of an accepted RESET PART (R186), and the state after the
request's own effect. -/
structure Reply where
  status : Status
  payload : Payload
  clearsFlags : Bool
  acceptsReset : Bool
  state : State

/-- A reply with a status and a payload that clears no flag. -/
def reply (status : Status) (payload : Payload) (s : State) : Reply :=
  { status := status, payload := payload, clearsFlags := false, acceptsReset := false, state := s }

/-- A refusal: the payload is empty and the state stays (R176). -/
def refuse (status : Status) (s : State) : Reply := reply status .empty s

/-- DONE with a payload. -/
def done (payload : Payload) (s : State) : Reply := reply .done payload s

/-- DONE, or DONE-CLAMPED where values were clamped (R176). -/
def doneIf (clamped : Bool) (payload : Payload) (s : State) : Reply :=
  reply (if clamped then .doneClamped else .done) payload s

/-- The check of R174, item 2, before a request with fixed arguments of `n` bytes is served. -/
def withArgs (n : Nat) (serve : Request → State → Reply) (r : Request) (s : State) : Reply :=
  if covers r n then serve r s else refuse .badLength s

/-- A request whose first argument is a group: refused with BAD-FIELD when it is above 7. -/
def withGroup (serve : GroupId → State → Reply) (r : Request) (s : State) : Reply :=
  match groupArg (argOf r 0) with
  | some g => serve g s
  | none => refuse .badField s

/-- A request whose first argument is a capture slot: refused with BAD-FIELD when it is above 1. -/
def withSlot (serve : CaptureIx → State → Reply) (r : Request) (s : State) : Reply :=
  match twoArg (argOf r 0) with
  | some i => serve i s
  | none => refuse .badField s

/-- The answer to a request (R175): addressed to the request's source, from the active station address, with its tag
and code, and the summary of the state after the request's own effect. -/
def answerOf (r : Request) (p : Reply) : Answer :=
  { dst := r.src, src := p.state.activeAddress, tag := r.tag, code := r.code, status := p.status,
    summary := summaryOf p.state, payload := p.payload, acceptsReset := p.acceptsReset }

/-- Both sticky flags cleared (R178). -/
def clearFlags (s : State) : State :=
  { s with path := { s.path with forwardDrop := false }, mgmt := { s.mgmt with reportSkipped := false } }

/-- The answer of a reply placed at the tail of the answer queue (R174, R175). -/
def placeAnswer (r : Request) (p : Reply) : State :=
  let s := if p.clearsFlags then clearFlags p.state else p.state
  { s with mgmt := { s.mgmt with answers := s.mgmt.answers ++ [answerOf r p] } }

/-- The state with the head request gone from the queue and its source the controller address (R174, R183). -/
def leaveQueue (r : Request) (rest : List Request) (s : State) : State :=
  { s with mgmt := { s.mgmt with requests := rest, controller := some r.src } }

/-- Whether the Management Unit takes requests: READY, with room for an answer (R174). -/
def takesRequests (s : State) : Bool :=
  s.mgmt.resetTaken.isNone && decide (s.mgmt.answers.length < Config.answerQueueSize)

/-- Taking the head request, if the Management Unit takes requests and the head is one of the command's (R174;
assumption log 2). -/
def takeRequest (mine : Request → Bool) (serve : Request → State → Reply) (s : State) : State :=
  match s.mgmt.requests with
  | [] => s
  | r :: rest =>
    if takesRequests s && mine r then placeAnswer r (serve r (leaveQueue r rest s)) else s

/-- Whether a request has a code. -/
def hasCode (c : RequestCode) (r : Request) : Bool := decide (requestCode r.code = some c)

/-- Whether a READ ENTRY or WRITE ENTRY is one of a table's command: it names the table, or it names none and is
refused alike whichever command takes it (R174, R179; assumption log 2). -/
def hasTable (c : RequestCode) (t : TableSelector) (r : Request) : Bool :=
  hasCode c r && (decide (tableOf r = some t) || decide (tableOf r = none))

/-- A READ ENTRY or WRITE ENTRY of a table whose fixed fields take `n` bytes in all (R174, R179). -/
def withTable (n : Nat) (serve : Request → State → Reply) (r : Request) (s : State) : Reply :=
  withArgs 2 (fun r s => if tableOf r = none then refuse .badField s else withArgs n serve r s) r s

end Sys2Proof.Machine
end

