-- ==== Sys2Proof/Machine/Streams.lean ====
section
/-! DEFINITION. Sample streams: admission (R24), supervision (R27 to R31), value intake (R34, R35), the silence notice
(R32), the rate check (R33), and the commands SILENCE_DEADLINE and RATE_INTERVAL_END. -/

namespace Sys2Proof.Machine

/-! ## Admission (R24) -/

/-- Whether a stream ID passes the comparison of a valid entry: every differing bit is one the mask ignores (R24). -/
def admits (e : StreamEntry) (id : BitVec 16) : Bool :=
  e.valid && decide ((id ^^^ e.matchId) &&& ~~~e.ignoreMask = 0)

/-- The entry that takes a stream ID, the lowest that admits it, none if none does (R24). -/
def matchStream (s : State) (id : BitVec 16) : Option StreamId := streamIxs.find? (fun i => admits s.streams[i] id)

/-! ## Supervision (R27 to R31) -/

/-- The state with the supervision record of stream `i` replaced. -/
def setSupervision (i : StreamId) (r : Supervision) (s : State) : State :=
  { s with supervision := upd s.supervision i r }

/-- The deadline that a frame arriving now gives stream `i` (R31). -/
def deadlineOf (s : State) (i : StreamId) : Option (BitVec 32) :=
  some (s.timer + BitVec.ofNat 32 s.streams[i].silence)

/-- The distance d of a sequence number from E, modulo S (R29). -/
def distance (rate : Rate) (expected q : Nat) : Nat := (q + rate.samples - expected % rate.samples) % rate.samples

/-- Whether an enabled group names stream `i` (R30). -/
def streamNamed (s : State) (i : StreamId) : Bool := groupIxs.any (fun g => s.groups[g].names i)

/-- A taken frame's entry goes to the Analysis Queue if an enabled group names the stream (R30, R35). -/
def intakeFrame (i : StreamId) (l : List Byte) (s : State) : State :=
  if streamNamed s i then
    let entry : QueueEntry :=
      { stream := i, seq := seqOf l, values := intakeValues l s.streams[i].byteOrder s.streams[i].valueCount,
        suspect := s.supervision[i].suspect, silenceFollows := false }
    { s with queue := offerEntry s.settings entry s.queue }
  else s

/-- The supervision record with a taken frame counted (R30) and E moved past it (R28, R29). -/
def takenRecord (rate : Rate) (l : List Byte) (r : Supervision) : Supervision :=
  { r with expected := (seqOf l + 1) % rate.samples, count := min 65535 (r.count + 1), lastSync := syncOf l }

/-- A frame out of range (R27): the event once per stretch of activity, and the deadline while ACTIVE (R31). -/
def rangeFrame (i : StreamId) (s : State) : State :=
  let r := s.supervision[i]
  let s1 := if r.rangeMark then s else raiseAt (.sequenceRange i) s
  setSupervision i
    { r with rangeMark := true, deadline := if r.activity = .active then deadlineOf s i else r.deadline } s1

/-- A frame that makes its stream ACTIVE (R28). -/
def wakingFrame (i : StreamId) (l : List Byte) (s : State) : State :=
  let r := takenRecord s.streams[i].rate l s.supervision[i]
  let r1 := { r with activity := .active, rangeMark := false, fullInterval := false, deadline := deadlineOf s i }
  intakeFrame i l (raiseAt (.streamActive i) (setSupervision i r1 s))

/-- A frame of an ACTIVE stream: taken in order or ahead, refused late, the deadline restarted either way (R29, R31). -/
def activeFrame (i : StreamId) (l : List Byte) (s : State) : State :=
  let r := { s.supervision[i] with deadline := deadlineOf s i }
  let rate := s.streams[i].rate
  if distance rate r.expected (seqOf l) ≤ rate.samples / 2 then
    intakeFrame i l (setSupervision i (takenRecord rate l r) s)
  else setSupervision i r s

/-- A frame admitted under entry `i` (R27, R28, R29). -/
def superviseFrame (i : StreamId) (l : List Byte) (s : State) : State :=
  if s.streams[i].rate.samples ≤ seqOf l then rangeFrame i s
  else if s.supervision[i].activity = .active then activeFrame i l s
  else wakingFrame i l s

/-! ## Silence (R31, R32) -/

/-- The silence notice at group `g`, if it is enabled and names stream `i` (R32, R60). -/
def noticeGroup (i : StreamId) (s : State) (g : GroupId) : State :=
  if s.groups[g].names i then actOn s g silenceNotice else s

/-- The silence notice delivered to the enabled groups that name stream `i`, in order of group number (assumption log
5). -/
def deliverNotice (i : StreamId) (s : State) : State := groupIxs.foldl (noticeGroup i) s

/-- Whether the newest entry of stream `i` is the head entry under application (R32). -/
def newestUnderApplication (i : StreamId) (q : AnalysisQueue) : Bool :=
  match q.entries with
  | [] => false
  | e :: l => decide (e.stream = i) && !l.any (fun x => decide (x.stream = i)) && !q.served.isEmpty

/-- The silence notice of stream `i` is placed: at the end of the head entry under application, on the newest entry of
the stream, or delivered at once (R32). -/
def placeNotice (i : StreamId) (s : State) : State :=
  if newestUnderApplication i s.queue then { s with queue := { s.queue with noticeAtLeave := true } }
  else if s.queue.entries.any (fun e => decide (e.stream = i)) then
    { s with queue := { s.queue with entries := markNewest i s.queue.entries } }
  else deliverNotice i s

/-- Whether the timer stands at the deadline of the ACTIVE stream `i` (R31). -/
def silenceDue (s : State) (i : StreamId) : Bool :=
  decide (s.supervision[i].activity = .active) && decide (s.supervision[i].deadline = some s.timer)

/-- Stream `i` becomes SILENT (R31, R32). -/
def goSilent (i : StreamId) (s : State) : State :=
  let r := { s.supervision[i] with activity := .silent, deadline := none, fullInterval := false, rangeMark := false }
  placeNotice i (raiseAt (.streamSilent i) (setSupervision i r s))

/-- The deadline of stream `i` is taken, if it is due. -/
def takeDeadline (s : State) (i : StreamId) : State := if silenceDue s i then goSilent i s else s

/-! ## The rate check (R33) -/

/-- Whether a count is out of tolerance: |count − S| above S/64 (R33). -/
def outOfTolerance (rate : Rate) (count : Nat) : Bool :=
  decide (rate.samples / 64 < ((count : Int) - rate.samples).natAbs)

/-- Whether the rate check judges a stream (R33). -/
def rateJudged (r : Supervision) : Bool := decide (r.activity = .active) && r.fullInterval

/-- The rate status of a stream after the rate check (R33). -/
def rateStatus (rate : Rate) (r : Supervision) : Bool := if rateJudged r then outOfTolerance rate r.count else r.suspect

/-- The supervision record of a stream after the rate check (R33). -/
def rateRecord (rate : Rate) (r : Supervision) : Supervision :=
  { r with suspect := rateStatus rate r, count := 0, fullInterval := decide (r.activity = .active) }

/-- The rate check at stream `i`: its event, if its rate status changes, and its record (R33). -/
def rateCheckAt (s : State) (i : StreamId) : State :=
  let r := s.supervision[i]
  let after := rateStatus s.streams[i].rate r
  let s1 := if after = r.suspect then s else raiseAt (if after then .rateSuspect i else .rateOk i) s
  setSupervision i (rateRecord s.streams[i].rate r) s1

/-- The rate check at the end of a rate interval, for the streams in order (R33; assumption log 5). -/
def rateCheck (s : State) : State := streamIxs.foldl rateCheckAt { s with rateDue := false }

/-- The rate check is taken, if an interval has ended whose check waits. -/
def takeRateCheck (s : State) : State := if s.rateDue then rateCheck s else s

/-! ## Commands -/

/-- SILENCE_DEADLINE (R31). A deadline that the timer has not reached is not an event of the part (assumption log 1). -/
def execSilenceDeadline (i : StreamId) (s : State) : Host.Outcome State Fault Refusal := act (takeDeadline s i)

/-- RATE_INTERVAL_END (R33). An interval that has not ended is not an event of the part (assumption log 1). -/
def execRateIntervalEnd (s : State) : Host.Outcome State Fault Refusal := act (takeRateCheck s)

end Sys2Proof.Machine
end

