-- ==== Sys2Proof/Machine/Entries.lean ====
section
/-! DEFINITION. READ ENTRY and WRITE ENTRY (R179) of the four tables: the Stream Table (R22, R23), the group
configuration records (R42, R43), the limit bank (R109 to R111) and the part settings (R180, R181). -/

namespace Sys2Proof.Machine

/-! ## The Stream Table -/

/-- READ ENTRY of a stream entry (R23). -/
def serveReadStream (r : Request) (s : State) : Reply :=
  match streamArg (argOf r 1) with
  | some i =>
    let v := s.supervision[i]
    done (.streamEntry s.streams[i] v.activity v.expected v.suspect v.count v.lastSync) s
  | none => refuse .badField s

/-- The effect of an accepted write of stream entry `i` (R22). -/
def writeStream (i : StreamId) (e : StreamEntry) (s : State) : State :=
  { s with streams := upd s.streams i e, supervision := upd s.supervision i Supervision.fresh,
           queue := discardStream s.settings i s.queue }

/-- WRITE ENTRY of a stream entry (R22): an entry that an enabled group names is not written. -/
def serveWriteStream (r : Request) (s : State) : Reply :=
  match streamArg (argOf r 1), parseStreamEntry r.body with
  | some i, some e =>
    if streamNamed s i then refuse .streamInUse s
    else doneIf (decide (clampStreamEntry e ≠ e)) .empty (writeStream i (clampStreamEntry e) s)
  | _, _ => refuse .badField s

/-! ## Group configuration records -/

/-- The view of a tracker record in an answer (R43). -/
def trackerView (t : Tracker) : TrackerView :=
  { timing := t.timing, armed := t.armed, cycleCount := t.cycleCount, lockCount := t.lockCount,
    acqCount := t.acqCount, winCycles := t.winCycles, expected := t.expected, last := t.last }

/-- READ ENTRY of a group configuration record (R43). -/
def serveReadGroup (r : Request) (s : State) : Reply :=
  match groupArg (argOf r 1) with
  | some g => done (.groupEntry s.groups[g].config s.groups[g].enabled (trackerView s.groups[g].tracker)) s
  | none => refuse .badField s

/-- The effect of an accepted write of a group's record (R42). -/
def writeGroup (g : GroupId) (c : GroupRecord) (s : State) : State :=
  { s with groups := upd s.groups g { s.groups[g] with config := c } }

/-- WRITE ENTRY of a group configuration record (R42). -/
def serveWriteGroup (r : Request) (s : State) : Reply :=
  match groupArg (argOf r 1), parseGroupRecord r.body with
  | some g, some c =>
    if s.groups[g].enabled then refuse .groupActive s
    else doneIf (decide (clampGroupRecord c ≠ c)) .empty (writeGroup g (clampGroupRecord c) s)
  | _, _ => refuse .badField s

/-! ## The limit bank -/

/-- The rows `first` to `first + count - 1` of a bank. -/
def bankRows (bank : Vector LimitRow 19) (first count : Nat) : List LimitRow := (bank.toList.drop first).take count

/-- Whether a first row and a row count lie in their ranges (R109, R111). -/
def rowsInRange (first count : Nat) : Bool :=
  decide (first ≤ 18) && decide (1 ≤ count) && decide (count ≤ 19) && decide (first + count ≤ 19)

/-- READ ENTRY of the limit bank (R111): the group, the bank (0 NOW, 1 NEXT), the first row and the row count. -/
def serveReadLimits (r : Request) (s : State) : Reply :=
  match groupArg (argOf r 1), flagArg (argOf r 2) with
  | some g, some next =>
    if rowsInRange (argOf r 3) (argOf r 4) then
      let grp := s.groups[g]
      done (.limitRows (bankRows (if next then grp.nextBank else grp.nowBank) (argOf r 3) (argOf r 4))
        grp.generation grp.commitPending) s
    else refuse .badField s
  | _, _ => refuse .badField s

/-- Whether a write of `count` rows from `first` on names row `k`. -/
def namesRow (first count : Nat) (k : Fin 19) : Bool := decide (first ≤ k.val) && decide (k.val < first + count)

/-- A bank with the rows of a limit write, each clamped (R109, R110). -/
def writtenBank (b : List Byte) (first count : Nat) (bank : Vector LimitRow 19) : Vector LimitRow 19 :=
  Vector.ofFn (fun k : Fin 19 =>
    if namesRow first count k then clampLimitRow (limitRowArg b (k.val - first)) else bank[k])

/-- The rows of a limit write that were clamped, bit n for row n (R109, R110). -/
def clampedRowSet (b : List Byte) (first count : Nat) : BitVec 19 :=
  (List.finRange 19).foldl (fun w k =>
    if namesRow first count k && decide (clampLimitRow (limitRowArg b (k.val - first)) ≠ limitRowArg b (k.val - first))
    then w ||| (1#19 <<< k.val) else w) 0#19

/-- The effect of an accepted limit write (R109). -/
def writeLimits (g : GroupId) (b : List Byte) (first count : Nat) (s : State) : State :=
  { s with groups := upd s.groups g { s.groups[g] with nextBank := writtenBank b first count s.groups[g].nextBank } }

/-- The answer to an accepted limit write: DONE-CLAMPED carries the rows that were clamped (R109, R176). -/
def limitReply (rows : BitVec 19) (s : State) : Reply :=
  if rows = 0 then done .empty s else reply .doneClamped (.clampedRows rows) s

/-- WRITE ENTRY of the limit bank (R109): the group, the first row, the row count, then the thresholds. -/
def serveWriteLimits (r : Request) (s : State) : Reply :=
  match groupArg (argOf r 1) with
  | none => refuse .badField s
  | some g =>
    let first := argOf r 2
    let count := argOf r 3
    if ¬rowsInRange first count then refuse .badField s
    else if ¬covers r (4 + 6 * count) then refuse .badLength s
    else if s.groups[g].commitPending then refuse .commitPending s
    else limitReply (clampedRowSet r.body first count) (writeLimits g r.body first count s)

/-! ## Part settings -/

/-- READ ENTRY of the part settings (R180). -/
def serveReadSettings (_r : Request) (s : State) : Reply :=
  done (.settings s.settings s.pendingAddress s.activeAddress) s

/-- The effect of an accepted write of the part settings (R39, R180, R181). -/
def writeSettings (a : Addr) (p : PartSettings) (s : State) : State :=
  { s with settings := p, pendingAddress := a, queue := watermarksWritten p s.queue }

/-- WRITE ENTRY of the part settings (R180): an address whose group bit is set is refused. -/
def serveWriteSettings (r : Request) (s : State) : Reply :=
  let a := be48 r.body 2
  let p := parseSettings r.body
  if individualAddress a then doneIf (decide (clampSettings p ≠ p)) .empty (writeSettings a (clampSettings p) s)
  else refuse .badField s

/-! ## Commands -/

/-- READ_ENTRY_STREAM (R23). -/
def execReadEntryStream (s : State) : Host.Outcome State Fault Refusal :=
  act (takeRequest (hasTable .readEntry .stream) (withTable 2 serveReadStream) s)

/-- READ_ENTRY_GROUP (R43). -/
def execReadEntryGroup (s : State) : Host.Outcome State Fault Refusal :=
  act (takeRequest (hasTable .readEntry .group) (withTable 2 serveReadGroup) s)

/-- READ_ENTRY_LIMIT_BANK (R111): with the bank, the first row and the row count, 5 bytes. -/
def execReadEntryLimitBank (s : State) : Host.Outcome State Fault Refusal :=
  act (takeRequest (hasTable .readEntry .limits) (withTable 5 serveReadLimits) s)

/-- READ_ENTRY_PART_SETTINGS (R180). -/
def execReadEntryPartSettings (s : State) : Host.Outcome State Fault Refusal :=
  act (takeRequest (hasTable .readEntry .settings) (withTable 2 serveReadSettings) s)

/-- WRITE_ENTRY_STREAM (R22): with the whole entry, 14 bytes. -/
def execWriteEntryStream (s : State) : Host.Outcome State Fault Refusal :=
  act (takeRequest (hasTable .writeEntry .stream) (withTable 14 serveWriteStream) s)

/-- WRITE_ENTRY_GROUP (R42): with the whole record, 72 bytes. -/
def execWriteEntryGroup (s : State) : Host.Outcome State Fault Refusal :=
  act (takeRequest (hasTable .writeEntry .group) (withTable 72 serveWriteGroup) s)

/-- WRITE_ENTRY_LIMIT_BANK (R109): with the first row and the row count, 4 bytes. -/
def execWriteEntryLimitBank (s : State) : Host.Outcome State Fault Refusal :=
  act (takeRequest (hasTable .writeEntry .limits) (withTable 4 serveWriteLimits) s)

/-- WRITE_ENTRY_PART_SETTINGS (R180): with the whole entry, 11 bytes. -/
def execWriteEntryPartSettings (s : State) : Host.Outcome State Fault Refusal :=
  act (takeRequest (hasTable .writeEntry .settings) (withTable 11 serveWriteSettings) s)

end Sys2Proof.Machine
end

