-- ==== Sys2Proof/Machine/GroupRequests.lean ====
section
/-! DEFINITION. The requests that concern one group, and RESTART ANALYSIS: COMMIT LIMITS (R112, R113), GROUP ENABLE
(R44, R45), GROUP DISABLE (R46), READ RESULT (R102, R146), CLEAR FIRST (R144), RELEASE TRIP (R130, R131), SNAP (R159),
READ ARRAY (R85) and RESTART ANALYSIS (R185). -/

namespace Sys2Proof.Machine

/-! ## COMMIT LIMITS (R112, R113) -/

/-- A commit requested at group `g`: taken at once if it is disabled, otherwise pending (R112, R113). -/
def commitAt (g : GroupId) (s : State) : State :=
  if s.groups[g].enabled then { s with groups := upd s.groups g { s.groups[g] with commitPending := true } }
  else actOn s g (fun c => takeCommit c none)

/-- COMMIT LIMITS of group `g`: the answer carries the generation and the flag as they then stand (R112, R113). -/
def serveCommit (g : GroupId) (s : State) : Reply :=
  let s1 := commitAt g s
  done (.commit s1.groups[g].generation s1.groups[g].commitPending) s1

/-! ## GROUP ENABLE and GROUP DISABLE (R44 to R46) -/

/-- GROUP ENABLE of group `g` (R44, R45). -/
def serveEnable (g : GroupId) (s : State) : Reply :=
  if s.groups[g].enabled then refuse .groupActive s
  else
    match validateGroup s g with
    | some f => reply .badConfig (.badConfig f.code f.place) s
    | none => done .empty (enableGroup g s)

/-- GROUP DISABLE of group `g` (R46). -/
def serveDisable (g : GroupId) (s : State) : Reply :=
  if s.groups[g].enabled then done .empty (disableGroup g s) else refuse .groupInactive s

/-! ## Records (R102, R144, R146) -/

/-- READ RESULT of group `g` (R102, R146). -/
def serveReadResult (g : GroupId) (s : State) : Reply :=
  done (.result s.groups[g].result s.groups[g].first s.groups[g].nextRows) s

/-- CLEAR FIRST at group `g` (R144). -/
def clearFirstAt (g : GroupId) (s : State) : State :=
  { s with groups := upd s.groups g { s.groups[g] with first := none, nextRows := 0 } }

/-- CLEAR FIRST of group `g`: the answer shows the record and the set as they stood (R144). -/
def serveClearFirst (g : GroupId) (s : State) : Reply :=
  done (.first s.groups[g].first s.groups[g].nextRows) (clearFirstAt g s)

/-! ## RELEASE TRIP (R130, R131) -/

/-- The Level Unit after an accepted release (R131). -/
def releasedUnit (cfg : GroupRecord) (u : LevelUnit) : LevelUnit :=
  { u with run := 0, level := if cfg.bLo < u.bucket then .alarm else .normal }

/-- An accepted release at its group: the Level Unit, the trip's hold and the LEVEL event (R131, R167). -/
def releaseView (c : GroupContext) (v : GroupView) : GroupView :=
  let u := releasedUnit v.grp.config v.grp.levelUnit
  raiseEvent c (.level c.group u.level .release) none
    { v with grp := { v.grp with levelUnit := u }, captures := releaseTripHold c.group v.captures }

/-- Whether the result record of a group holds a window of level TRIP (R130, item 3). -/
def latestIsTrip (g : Group) : Bool :=
  match g.result with
  | some r => decide (r.level = .trip)
  | none => false

/-- RELEASE TRIP of group `g` (R130, R131). -/
def serveReleaseTrip (g : GroupId) (s : State) : Reply :=
  if s.groups[g].levelUnit.level ≠ .tripped then refuse .notTripped s
  else if latestIsTrip s.groups[g] then refuse .stillTripped s
  else done .empty (actOn s g releaseView)

/-! ## SNAP (R159) -/

/-- The refusal of a claim that failed (R159). -/
def claimStatus (f : ClaimFailure) : Status :=
  match f with
  | .noSlot => .noSlot
  | .holdLimit => .holdLimit

/-- SNAP of group `g` (R159). -/
def serveSnap (g : GroupId) (s : State) : Reply :=
  if s.groups[g].enabled then
    match claimSlot g .snap s.captures with
    | .ok (i, taken, caps) => done (.snap i caps.slots[i].state caps.slots[i].holds taken) { s with captures := caps }
    | .error f => refuse (claimStatus f) s
  else refuse .groupInactive s

/-! ## READ ARRAY (R85) -/

/-- A selector byte: the fundamental (0xFF) or an order-list position; none outside the range (R85, R199). -/
inductive Selector where
  | fundamental
  | position (n : Fin 16)
  deriving DecidableEq, Repr

/-- The selector an argument byte names (R199). -/
def selectorArg (n : Nat) : Option Selector :=
  if n = 0xFF then some .fundamental else if h : n < 16 then some (.position ⟨n, h⟩) else none

/-- Whether a set keeps the selected pair of a slot (R85). -/
def keepsPair (cfg : GroupRecord) (k : SlotIx) (sel : Selector) : Bool :=
  match cfg.slots[k], sel with
  | .unused, _ => false
  | .used _ _, .fundamental => true
  | .used kind _, .position n =>
    match cfg.orders[n.val]? with
    | some o => decide (o.kind = kind)
    | none => false

/-- The selected pair, 0 and 0 when not kept (R85). -/
def selectedPair (cfg : GroupRecord) (a : AccSet) (k : SlotIx) (sel : Selector) : Pair :=
  if keepsPair cfg k sel then
    match sel with
    | .fundamental => a.sums[k].fund
    | .position n => pairAt a.sums[k] n.val
  else ⟨0, 0⟩

/-- The DC sums that READ ARRAY shows: as held for a DC slot, 0, 0 and empty for any other (R85). -/
def shownSums (cfg : GroupRecord) (a : AccSet) (k : SlotIx) : SlotSums :=
  if slotIsKind .dc cfg.slots[k] then a.sums[k] else SlotSums.zero

/-- The number of buffered samples that READ ARRAY shows for a set (R85). -/
def bufferedOf (g : Group) (a : AccSet) : Nat :=
  if g.tracker.timing = .tracking ∧ a.state = .accumulating then g.buffer.length else 0

/-- What READ ARRAY returns of set `i`, slot `k` (R85). -/
def arrayView (g : Group) (i : SetIx) (k : SlotIx) (sel : Selector) : ArrayView :=
  let a := g.sets[i]
  let d := shownSums g.config a k
  { state := a.state, number := a.number, kind := a.kind, startSeq := a.startSeq, m := a.m, held := a.held,
    clamped := a.clamped, suspect := a.suspect, limitGen := a.limitGen, kept := keepsPair g.config k sel,
    pair := selectedPair g.config a k sel, sum := d.sum, sumSq := d.sumSq, min := d.min, max := d.max,
    buffered := bufferedOf g a }

/-- READ ARRAY (R85): a group, a set, a slot and a selector. -/
def serveReadArray (r : Request) (s : State) : Reply :=
  match groupArg (argOf r 0), twoArg (argOf r 1), slotArg (argOf r 2), selectorArg (argOf r 3) with
  | some g, some i, some k, some sel => done (.array (arrayView s.groups[g] i k sel)) s
  | _, _, _, _ => refuse .badField s

/-! ## RESTART ANALYSIS (R185) -/

/-- RESTART ANALYSIS (R185). -/
def serveRestart (_r : Request) (s : State) : Reply := done .empty (restartAnalysis s)

/-! ## Commands -/

/-- COMMIT_LIMITS (R112, R113). -/
def execCommitLimits (s : State) : Host.Outcome State Fault Refusal :=
  act (takeRequest (hasCode .commitLimits) (withArgs 1 (withGroup serveCommit)) s)

/-- GROUP_ENABLE (R44, R45). -/
def execGroupEnable (s : State) : Host.Outcome State Fault Refusal :=
  act (takeRequest (hasCode .groupEnable) (withArgs 1 (withGroup serveEnable)) s)

/-- GROUP_DISABLE (R46). -/
def execGroupDisable (s : State) : Host.Outcome State Fault Refusal :=
  act (takeRequest (hasCode .groupDisable) (withArgs 1 (withGroup serveDisable)) s)

/-- READ_RESULT (R102, R146). -/
def execReadResult (s : State) : Host.Outcome State Fault Refusal :=
  act (takeRequest (hasCode .readResult) (withArgs 1 (withGroup serveReadResult)) s)

/-- CLEAR_FIRST (R144). -/
def execClearFirst (s : State) : Host.Outcome State Fault Refusal :=
  act (takeRequest (hasCode .clearFirst) (withArgs 1 (withGroup serveClearFirst)) s)

/-- RELEASE_TRIP (R130, R131). -/
def execReleaseTrip (s : State) : Host.Outcome State Fault Refusal :=
  act (takeRequest (hasCode .releaseTrip) (withArgs 1 (withGroup serveReleaseTrip)) s)

/-- SNAP (R159). -/
def execSnap (s : State) : Host.Outcome State Fault Refusal :=
  act (takeRequest (hasCode .snap) (withArgs 1 (withGroup serveSnap)) s)

/-- READ_ARRAY (R85). -/
def execReadArray (s : State) : Host.Outcome State Fault Refusal :=
  act (takeRequest (hasCode .readArray) (withArgs 4 serveReadArray) s)

/-- RESTART_ANALYSIS (R185). -/
def execRestartAnalysis (s : State) : Host.Outcome State Fault Refusal :=
  act (takeRequest (hasCode .restartAnalysis) (withArgs 0 serveRestart) s)

end Sys2Proof.Machine
end

