-- ==== Sys2Proof/Machine/Layout.lean ====
section
/-! DEFINITION. The bytes that the part builds: the annex (R198), the headers and the summary of answers and window
reports (R199), the result record (R200), the event record (R201), the codes (R202), padding and the fresh frame check
sequence (R196, R3). -/

namespace Sys2Proof.Machine

/-! ## Fields (R196) -/

/-- `v` as a field of `n` bytes, most significant first (R196). -/
def beBytes : Nat → Nat → List Byte
  | 0, _ => []
  | n + 1, v => beBytes n (v / 256) ++ [BitVec.ofNat 8 v]

/-- The signed number `v` as a field of `n` bytes in two's complement (R196). -/
def signedBytes (n : Nat) (v : Int) : List Byte := beBytes n (v % (256 ^ n : Nat)).toNat

/-- A flag as one byte, 1 or 0. -/
def flagByte (b : Bool) : List Byte := [if b then 1 else 0]

/-- A flag as bit `n` of a byte. -/
def flagBit (n : Nat) (b : Bool) : Nat := if b then 2 ^ n else 0

/-! ## Codes (R202) -/

/-- The code of a timing state (R202). -/
def timingCode : Timing → Nat
  | .disabled => 0
  | .noSignal => 1
  | .acquiring => 2
  | .tracking => 3
  | .holdover => 4
  | .aligning => 5

/-- The code of a group level (R202). -/
def levelCode : Level → Nat
  | .normal => 0
  | .alarm => 1
  | .tripped => 2

/-- The code of a row level (R202). -/
def rowLevelCode (l : RowLevel) : Nat := l.rank

/-- The code of a store state (R202). -/
def storeStateCode : StoreState → Nat
  | .idle => 0
  | .busy => 1
  | .fault => 2
  | .faultBusy => 3

/-- The code of a capture trigger (R202). -/
def triggerCode : Trigger → Nat
  | .snap => 0
  | .trip => 1

/-- The code of a status (R202). -/
def statusCode : Status → Nat
  | .done => 0x00
  | .doneClamped => 0x01
  | .badLength => 0x11
  | .unsupported => 0x12
  | .badField => 0x14
  | .badConfig => 0x15
  | .groupActive => 0x16
  | .groupInactive => 0x17
  | .streamInUse => 0x18
  | .commitPending => 0x19
  | .notTripped => 0x1A
  | .stillTripped => 0x1B
  | .noSlot => 0x1C
  | .holdLimit => 0x1D
  | .notHeld => 0x1E
  | .notReady => 0x1F
  | .storeBusy => 0x20

/-! ## The annex (R15, R198) -/

/-- The annex of group `g` as it stands (R15, R198). -/
def annexOf (s : State) (g : GroupId) : List Byte :=
  let grp := s.groups[g]
  let w := match grp.result with
    | none => 0xFF
    | some r => rowLevelCode r.level
  let degraded := match grp.result with
    | none => false
    | some r => r.degraded
  let number : Byte := match grp.result with
    | none => 0
    | some r => r.number.setWidth 8
  beBytes 1 0xA7 ++ beBytes 1 g.val ++ beBytes 1 (levelCode grp.levelUnit.level) ++ beBytes 1 w ++
    beBytes 1 (timingCode grp.tracker.timing) ++ flagByte degraded ++ [number] ++ [grp.generation]

/-! ## The result record (R200) -/

/-- A cell: its condition and level, then its value (R200). -/
def cellBytes : Cell → List Byte
  | .absent => beBytes 1 0x00 ++ beBytes 2 0
  | .notEvaluated => beBytes 1 0x01 ++ beBytes 2 0
  | .value v l => beBytes 1 (0x10 + rowLevelCode l) ++ beBytes 2 v

/-- The code of a timing kind in a result record (R200); 0 where no window has been opened (R65, R156). -/
def kindCode : WindowKind → Nat
  | .unset => 0
  | .tracking => 3
  | .holdover => 4

/-- Byte 19 of a result record (R200). -/
def recordMarks (r : ResultRecord) : Nat :=
  flagBit 0 r.degHoldover + flagBit 1 r.degHeld + flagBit 2 r.degClamped + flagBit 3 r.degSuspect + flagBit 4 r.idle

/-- A result record that holds a window, 278 bytes (R200). -/
def recordBytes (r : ResultRecord) : List Byte :=
  flagByte true ++ beBytes 4 r.number.toNat ++ beBytes 2 r.startSeq ++ beBytes 1 (kindCode r.kind) ++
    beBytes 1 r.cycles ++ beBytes 2 r.m ++ beBytes 4 r.frequency ++ beBytes 2 r.held ++ beBytes 2 r.clamped ++
    beBytes 1 (recordMarks r) ++ [r.generation] ++ beBytes 1 (rowLevelCode r.level) ++
    r.fundamentals.toList.flatMap (beBytes 4) ++ signedBytes 4 r.mean ++ beBytes 4 r.rms ++ beBytes 4 r.spread ++
    r.cells.toList.flatMap cellBytes

/-- An empty result record, 278 bytes: every field 0 but W (R200). -/
def emptyRecordBytes : List Byte := beBytes 21 0 ++ beBytes 1 0xFF ++ beBytes 256 0

/-- The result record of READ RESULT (R200). -/
def resultBytes (r : Option ResultRecord) : List Byte :=
  match r with
  | none => emptyRecordBytes
  | some r => recordBytes r

/-- The first-exceedance record and the next-row set, 23 bytes (R146, R200). -/
def firstBytes (f : Option FirstRecord) (rows : BitVec 19) : List Byte :=
  match f with
  | none => beBytes 20 0 ++ beBytes 3 rows.toNat
  | some f =>
    flagByte true ++ beBytes 4 f.number.toNat ++ beBytes 1 f.row ++ beBytes 1 f.slot.val ++ beBytes 2 f.value ++
      beBytes 2 f.threshold ++ beBytes 1 (rowLevelCode f.level) ++ [f.generation] ++ flagByte f.degraded ++
      beBytes 2 f.repeats ++ beBytes 4 f.latest.toNat ++ beBytes 3 rows.toNat

/-! ## Event records (R151, R201) -/

/-- The subject of an event: none, a group or a stream. -/
inductive Subject where
  | none
  | group (g : GroupId)
  | stream (i : StreamId)
  deriving DecidableEq, Repr

/-- The subject byte (R201). -/
def subjectCode : Subject → Nat
  | .none => 0
  | .group g => 64 + g.val
  | .stream i => 128 + i.val

/-- The code of an abort reason (R201). -/
def abortCode : AbortReason → Nat
  | .timingLoss => 0
  | .gap => 1
  | .silence => 2

/-- The code of a level's cause (R201). -/
def causeCode : LevelCause → Nat
  | .window => 0
  | .release => 1

/-- The code of a capture miss's reason (R201). -/
def missCode : ClaimFailure → Nat
  | .noSlot => 0
  | .holdLimit => 1

/-- The kind code and the subject of an event (R151). -/
def eventHead : Event → Nat × Subject
  | .groupEnabled g => (1, .group g)
  | .groupDisabled g => (2, .group g)
  | .timing g _ => (3, .group g)
  | .level g _ _ => (4, .group g)
  | .windowAborted g _ => (5, .group g)
  | .overrun g => (6, .group g)
  | .streamActive i => (7, .stream i)
  | .streamSilent i => (8, .stream i)
  | .rateSuspect i => (9, .stream i)
  | .rateOk i => (10, .stream i)
  | .sequenceRange i => (11, .stream i)
  | .captureReady g _ => (12, .group g)
  | .captureMiss g _ => (13, .group g)
  | .limitsCommitted g _ => (14, .group g)
  | .storeDone => (15, .none)
  | .storeFault => (16, .none)

/-- Detail 1 of an event: the value and the qualifier (R201). -/
def eventDetail : Event → Nat × Nat
  | .timing _ t => (timingCode t, 0)
  | .level _ l c => (levelCode l, causeCode c)
  | .windowAborted _ r => (abortCode r, 0)
  | .captureReady _ i => (i.val, 0)
  | .captureMiss _ r => (triggerCode .trip, missCode r)
  | .limitsCommitted _ n => (n.toNat, 0)
  | .groupEnabled _ => (0, 0)
  | .groupDisabled _ => (0, 0)
  | .overrun _ => (0, 0)
  | .streamActive _ => (0, 0)
  | .streamSilent _ => (0, 0)
  | .rateSuspect _ => (0, 0)
  | .rateOk _ => (0, 0)
  | .sequenceRange _ => (0, 0)
  | .storeDone => (0, 0)
  | .storeFault => (0, 0)

/-- An event record, 16 bytes (R201). -/
def eventBytes (r : EventRecord) : List Byte :=
  beBytes 2 r.seq.toNat ++ beBytes 4 r.stamp.toNat ++ beBytes 1 (eventHead r.event).1 ++
    beBytes 1 (subjectCode (eventHead r.event).2) ++ beBytes 1 (eventDetail r.event).1 ++
    beBytes 1 (eventDetail r.event).2 ++ beBytes 2 (r.detail2.getD 0).toNat ++
    beBytes 1 (flagBit 0 r.detail2.isSome + flagBit 1 r.lostAfter) ++ beBytes 3 0

/-! ## Answers and window reports (R199, R200) -/

/-- The summary, 5 bytes (R199). -/
def summaryBytes (m : Summary) : List Byte :=
  [m.tripped] ++ [m.alarmed] ++ beBytes 1 m.eventsPending ++ beBytes 1 (storeStateCode m.store) ++
    beBytes 1 (flagBit 0 m.defaulted + flagBit 1 m.forwardDrop + flagBit 2 m.reportSkipped)

/-! ### Payloads without a layout

Chapter 12 lays out the payloads of BAD-CONFIG, READ RESULT and READ EVENTS, gives the sizes in an answer to READ
CAPTURE, and no more. The bytes of the other payloads are free values of the payload's fields, each field a number: a
coded field by its code, any other alternative by its place in its type. Each list begins with the request's code, and a
list or an absent field says so, so that no two payloads have one list (assumption log 13). -/

/-- A flag as a number. -/
def flagNum (b : Bool) : Nat := if b then 1 else 0

/-- A field that may be absent, as numbers. -/
def optNums (o : Option Nat) : List Nat :=
  match o with
  | none => [0, 0]
  | some n => [1, n]

/-- A signed field as numbers: whether it is negative, and its magnitude. -/
def signedNums (v : Int) : List Nat := [flagNum (decide (v < 0)), v.natAbs]

/-- A signed field that may be empty, as numbers. -/
def optSignedNums (o : Option Int) : List Nat :=
  match o with
  | none => [0, 0, 0]
  | some v => 1 :: signedNums v

/-- A text as numbers. -/
def textNums (t : String) : List Nat := t.length :: t.toList.map Char.toNat

/-- An activity as a number. -/
def activityNum : Activity → Nat
  | .unseen => 0
  | .active => 1
  | .silent => 2

/-- The state of an accumulator set as a number. -/
def setStateNum : SetState → Nat
  | .idle => 0
  | .accumulating => 1
  | .waiting => 2
  | .evaluating => 3

/-- The state of a capture slot as a number. -/
def captureStateNum : CaptureState → Nat
  | .free => 0
  | .armed => 1
  | .filling => 2
  | .held => 3

/-- A byte order by the code that a request carries (R199). -/
def byteOrderCode : ByteOrder → Nat
  | .big => 0
  | .little => 1

/-- An annex mode by the code that a request carries (R199). -/
def annexModeCode : AnnexMode → Nat
  | .none => 0
  | .append => 1

/-- A kind by the code that a request carries (R199). -/
def slotKindCode : Kind → Nat
  | .ac => 1
  | .dc => 2

/-- A slot by the two codes that a request carries (R199). -/
def slotUseNums : SlotUse → List Nat
  | .unused => [0, 0]
  | .used kind value => [slotKindCode kind, value.val]

/-- An order-list entry as a request carries it (R199). -/
def orderNums (o : Order) : List Nat := [o.h, slotKindCode o.kind]

/-- A stream entry's fields in the order of R21. -/
def streamNums (e : StreamEntry) : List Nat :=
  [flagNum e.valid, e.matchId.toNat, e.ignoreMask.toNat, e.rate.samples, e.valueCount, byteOrderCode e.byteOrder,
   annexModeCode e.annexMode, e.annexGroup.val, e.silence]

/-- A group configuration record's fields in the order of R41 and R121. -/
def groupNums (r : GroupRecord) : List Nat :=
  [r.stream.val, r.freq.hertz, r.cycles] ++ r.slots.toList.flatMap slotUseNums ++
    [r.refSlot.val, r.deadband, r.fundFloor, r.dcFloor, r.orders.length] ++ r.orders.flatMap orderNums ++
    [r.gapLimit, r.heldLimit, r.bHi, r.bLo, r.tripWeight, r.leakPeriod, r.tripPersistence, flagNum r.reportEnable,
     flagNum r.alertLine, flagNum r.tripLine, flagNum r.tripFunction, flagNum r.autoCapture, flagNum r.enableAtStart]

/-- The fields of a tracker record that READ ENTRY returns (R43). -/
def trackerNums (t : TrackerView) : List Nat :=
  [timingCode t.timing, flagNum t.armed] ++ optNums t.cycleCount ++ [t.lockCount, t.acqCount, t.winCycles] ++
    optNums t.expected ++ t.last.toList.flatMap signedNums

/-- A limit row's thresholds (R104). -/
def limitNums (r : LimitRow) : List Nat := [r.notice, r.alert, r.trip]

/-- A Level Unit's fields (R122). -/
def levelNums (u : LevelUnit) : List Nat := [levelCode u.level, u.bucket, u.leakCounter, u.run]

/-- What READ STATUS returns of a group (R178). -/
def groupStatusNums (g : GroupStatus) : List Nat :=
  [flagNum g.enabled, timingCode g.timing] ++ levelNums g.levelUnit ++ [g.generation.toNat, flagNum g.commitPending]

/-- What READ STATUS returns of a capture slot (R172). -/
def slotStatusNums (c : SlotStatus) : List Nat :=
  [captureStateNum c.state] ++ optNums (c.owner.map Fin.val) ++ [c.holds, flagNum c.auto] ++
    optNums (c.number.map BitVec.toNat)

/-- What READ STATUS returns, in the order of R178. -/
def statusNums (p : PartStatus) : List Nat :=
  [flagNum (decide (p.linkA = .up)), flagNum (decide (p.linkB = .up)), flagNum p.inLine, flagNum p.lines.alert,
   flagNum p.lines.trip, flagNum p.lines.supv, p.timer.toNat, p.queueDepth, flagNum p.suspended, p.starvation,
   p.reportCounter.toNat, flagNum p.forwardDrop, flagNum p.reportSkipped, p.groups.length] ++
    p.groups.flatMap groupStatusNums ++ [p.slots.length] ++ p.slots.flatMap slotStatusNums ++
    [p.requestDepth, p.answerDepth, p.reportDepth]

/-- The descriptor of a capture slot, in the order of R170; the trigger by its code (R202). -/
def descriptorNums (d : CaptureDescriptor) : List Nat :=
  optNums (d.owner.map Fin.val) ++ [d.holds, flagNum d.auto] ++ optNums (d.trigger.map triggerCode) ++
    [d.number.toNat, d.startSeq, kindCode d.kind, d.count] ++ d.map.toList.flatMap slotUseNums

/-- What READ ARRAY returns, in the order of R85. -/
def arrayNums (v : ArrayView) : List Nat :=
  [setStateNum v.state, v.number.toNat, kindCode v.kind, v.startSeq, v.m, v.held, v.clamped, flagNum v.suspect,
   v.limitGen.toNat, flagNum v.kept] ++ signedNums v.pair.re ++ signedNums v.pair.im ++ signedNums v.sum ++ [v.sumSq] ++
    optSignedNums v.min ++ optSignedNums v.max ++ [v.buffered]

/-- `n` bytes that the manual does not give, of the payload or descriptor with these numbers (assumption log 13). -/
def freeBytes (nums : List Nat) (n : Nat) : List Byte := (List.range n).map (Config.payloadByte nums)

/-- The bytes of a payload without a layout: as many as its free size, within the bound of R196 (assumption log 13). -/
def freePayload (nums : List Nat) : List Byte := freeBytes nums (min Config.payloadLimit (Config.payloadSize nums))

/-! ### Payloads -/

/-- The bytes of a payload. The clamped rows are a bit field of three bytes, as R200 gives the next-row set, and CLEAR
FIRST carries what READ RESULT carries after the result record: DEDUCED (R196, R200; assumption log 13). The values of
an answer to READ CAPTURE take three bytes each after a descriptor of 28 (R196). Chapter 12 names no field of that answer
signed, and a value may be negative: that its three bytes hold it in two's complement is a DESIGN CHOICE (assumption log
33). -/
def payloadBytes : Payload → List Byte
  | .empty => []
  | .badConfig check place => beBytes 1 check ++ beBytes 1 (place.getD 0xFF)
  | .clampedRows rows => beBytes 3 rows.toNat
  | .identity vendor family part revision groups streams captures events factory active pending =>
    freePayload ([0x01] ++ textNums vendor ++ textNums family ++ textNums part ++
      [revision, groups, streams, captures, events, factory.toNat, active.toNat, pending.toNat])
  | .status p => freePayload (0x02 :: statusNums p)
  | .streamEntry e activity expected suspect count lastSync =>
    freePayload ([0x03, 0] ++ streamNums e ++
      [activityNum activity, expected, flagNum suspect, count, flagNum lastSync])
  | .groupEntry r enabled tracker => freePayload ([0x03, 1] ++ groupNums r ++ [flagNum enabled] ++ trackerNums tracker)
  | .limitRows rows generation pending =>
    freePayload ([0x03, 2, rows.length] ++ rows.flatMap limitNums ++ [generation.toNat, flagNum pending])
  | .settings p pending active =>
    freePayload [0x03, 3, pending.toNat, active.toNat, p.high, p.low, p.starvationLimit]
  | .commit generation pending => freePayload [0x05, generation.toNat, flagNum pending]
  | .result r f rows => resultBytes r ++ firstBytes f rows
  | .events records remaining => beBytes 1 records.length ++ beBytes 1 remaining ++ records.flatMap eventBytes
  | .first f rows => firstBytes f rows
  | .snap slot state holds newlyTaken =>
    freePayload [0x0C, slot.val, captureStateNum state, holds, flagNum newlyTaken]
  | .hold slot state owner holds =>
    freePayload ([0x0D, slot.val, captureStateNum state, holds] ++ optNums (owner.map Fin.val))
  | .release slot state holds => freePayload [0x0E, slot.val, captureStateNum state, holds]
  | .capture slot d channel start values =>
    freeBytes ([0x0F, slot.val] ++ descriptorNums d ++ [channel, start]) 28 ++ values.flatMap (signedBytes 3)
  | .array v => freePayload (0x10 :: arrayNums v)

/-- A frame the part builds extended to 60 bytes (R196). -/
def padFrame (l : List Byte) : List Byte := l ++ List.replicate (60 - l.length) 0

/-- The frame of an answer or a window report: its header, its summary and its payload, padded (R196, R199). -/
def builtFrame (dst src : Addr) (tag : BitVec 16) (code : Byte) (status : Status) (m : Summary)
    (payload : List Byte) : List Byte :=
  padFrame (beBytes 6 dst.toNat ++ beBytes 6 src.toNat ++ beBytes 2 0xB5A1 ++ beBytes 2 tag.toNat ++ [code] ++
    beBytes 1 (statusCode status) ++ summaryBytes m ++ beBytes 2 payload.length ++ payload)

/-- The frame of an answer (R175, R199). -/
def answerBytes (a : Answer) : List Byte :=
  builtFrame a.dst a.src a.tag a.code a.status a.summary (payloadBytes a.payload)

/-- The payload of a window report, 288 bytes (R200). -/
def reportPayload (r : WindowReport) : List Byte :=
  beBytes 2 r.number.toNat ++ beBytes 1 r.group.val ++ beBytes 1 (levelCode r.levelUnit.level) ++
    beBytes 1 r.levelUnit.bucket ++ beBytes 1 r.levelUnit.leakCounter ++ beBytes 1 r.levelUnit.run ++
    beBytes 1 (timingCode r.timing) ++ [r.generation] ++ flagByte r.firstPresent ++ recordBytes r.result

/-- The frame of a window report: code 0x80, tag 0 and status DONE (R197). -/
def reportBytes (r : WindowReport) : List Byte :=
  builtFrame r.dst r.src 0 0x80 .done r.summary (reportPayload r)

/-- The bytes of a frame under transmission before its check sequence. -/
def wireBytes : Transmission → List Byte
  | .forwarded bytes => bytes
  | .answer a => answerBytes a
  | .report r => reportBytes r

/-- A frame under transmission as it stands on the wire, with the check sequence that the port computes (R3). -/
def wireFrame (t : Transmission) : WireFrame := { bytes := wireBytes t, check := frameCheck (wireBytes t) }

end Sys2Proof.Machine
end

