-- ==== Sys2Proof/Machine/StartUp.lean ====
section
/-! DEFINITION. Part reset and start-up (R20, R191 to R195), and the commands POWER_ON, LOSS_OF_SUPPLY,
NRESET_ASSERTION, NRESET_RELEASE, IMAGE_READ and IMAGE_READ_TIME_LIMIT. -/

namespace Sys2Proof.Machine

/-- An image sealed by its CRC (R187). -/
def sealedImage (c : ImageContents) : Image := .written c (imageCrc c)

/-- The condition of the image region (R187): good when the CRC agrees with the contents, bad when it does not. -/
def imageCondition : Image → ImageCondition
  | .blank => .blank
  | .written c crc => if crc = imageCrc c then .good c else .bad

/-- What an interrupted store that leaves the region bad had written: free contents, and a free CRC other than theirs (R191;
assumption log 8). -/
def brokenImage (n : Nat) : Image :=
  let c := Config.interruptedContents n
  .written c (if Config.interruptedCrc n = imageCrc c then ~~~(imageCrc c) else Config.interruptedCrc n)

/-- The image region after a part reset: a store in progress is ended and leaves it blank or bad, which of the two is a
free value; otherwise it stays (R191; assumption log 8). -/
def imageAfterReset (s : State) : Image :=
  if s.store.busy then (if Config.interruptedImageBad s.freeCount then brokenImage s.freeCount else .blank)
  else s.store.image

/-- The part with a part reset asserted, its power as given: everything takes its part-reset value but the image
region and the identification memory (R20, R192). The defaulted flag, which R194 gives only at the end of start-up, is
clear until then: DESIGN CHOICE (assumption log 6). Commands that wait stay. -/
def partReset (power : Power) (s : State) : State :=
  { State.reset with
      pending := s.pending, power := power, ident := s.ident,
      store := { State.reset.store with image := imageAfterReset s },
      freeCount := if s.store.busy then s.freeCount + 1 else s.freeCount }

/-- The part reset that RESET PART asserts, which is released at once (R186, R192). -/
def resetByRequest (s : State) : State := partReset .released s

/-! ## Loading (R193, R194) -/

/-- Group `g` with its loaded record and NOW bank: NEXT a copy of NOW, the generation 0 (R106, R107, R193). -/
def loadGroup (r : GroupRecord) (bank : Vector LimitRow 19) (g : Group) : Group :=
  { g with config := r, nowBank := bank, nextBank := bank, generation := 0 }

/-- The working tables loaded from the given contents (R193, R194). -/
def loadTables (c : ImageContents) (defaulted : Bool) (s : State) : State :=
  { s with streams := c.streams
           groups := Vector.ofFn (fun g : Fin 8 => loadGroup c.records[g] c.nowBanks[g] s.groups[g])
           settings := c.settings
           activeAddress := c.address
           pendingAddress := c.address
           store := { s.store with defaulted := defaulted } }

/-- What start-up loads when it loads defaults (R194): every default, and the factory address. -/
def defaultContents (factory : Addr) : ImageContents :=
  { streams := Vector.replicate 16 defaultStreamEntry, records := Vector.replicate 8 defaultGroupRecord,
    nowBanks := Vector.replicate 8 defaultBank, address := factory, settings := defaultSettings }

/-- A start-up enable: a group whose enable-at-start is on and that passes validation is enabled (R193). -/
def enableAtStart (s : State) (g : GroupId) : State :=
  if s.groups[g].config.enableAtStart ∧ validateGroup s g = none then enableGroup g s else s

/-- The end of start-up (R195): the rate interval clock 0, then the switch INLINE. -/
def endStartUp (s : State) : State := { s with rateClock := 0, rateDue := false, switch := .inLine }

/-- Start-up on the defaults (R194, R195). -/
def startOnDefaults (s : State) : State := endStartUp (loadTables (defaultContents s.ident.factory) true s)

/-- Start-up on a good image (R193, R195): the tables, then the start-up enables in order of group number. -/
def startOnImage (c : ImageContents) (s : State) : State :=
  endStartUp (groupIxs.foldl enableAtStart (loadTables c false s))

/-- Start-up finishes reading the image region, and checks the CRC against the contents read (R192). -/
def finishImageRead (s : State) : State :=
  if s.startingUp then
    match imageCondition s.store.image with
    | .good c => startOnImage c s
    | .bad => startOnDefaults s
    | .blank => startOnDefaults s
  else s

/-- The time for reading the image region runs out, 200 ms after the release: the region is treated as bad (R192). -/
def imageReadTimeOut (s : State) : State :=
  if s.startingUp ∧ limitReached s 0 Config.imageReadLimit then startOnDefaults s else s

/-! ## Commands -/

/-- POWER_ON: power is applied, which asserts a part reset (R192). -/
def execPowerOn (s : State) : Host.Outcome State Fault Refusal := act (partReset .inReset s)

/-- LOSS_OF_SUPPLY: the part is reset and unpowered (R191). -/
def execLossOfSupply (s : State) : Host.Outcome State Fault Refusal := act (partReset .unpowered s)

/-- NRESET_ASSERTION: nRESET is driven low, which asserts a part reset; an unpowered part stays unpowered (R192). -/
def execNresetAssertion (s : State) : Host.Outcome State Fault Refusal :=
  act (if s.power = .unpowered then s else partReset .inReset s)

/-- NRESET_RELEASE: the reset is released, and start-up begins reading the image region (R192). -/
def execNresetRelease (s : State) : Host.Outcome State Fault Refusal :=
  act (if s.power = .inReset then { s with power := .released } else s)

/-- IMAGE_READ (R192, R193, R194). -/
def execImageRead (s : State) : Host.Outcome State Fault Refusal := act (finishImageRead s)

/-- IMAGE_READ_TIME_LIMIT (R192). -/
def execImageReadTimeLimit (s : State) : Host.Outcome State Fault Refusal := act (imageReadTimeOut s)

end Sys2Proof.Machine
end

