-- ==== Sys2Proof/Machine/Link.lean ====
section
/-! DEFINITION. The station link and the frame path (chapter 1): the ports, the Frame Classifier, the two FIFOs, the
annex and the Transmit Arbiter, and the commands LINK_ESTABLISHED, LINK_LOSS, FRAME_ARRIVAL, PORT_A_TRANSMISSION_START,
TRANSMIT_ARBITER_CHOICE and TRANSMISSION_COMPLETE. -/

namespace Sys2Proof.Machine

/-! ## Ports (R1, R3) -/

/-- The state of a port. -/
def portOf (s : State) (p : Port) : PortState :=
  match p with
  | .a => s.path.portA
  | .b => s.path.portB

/-- The state with a port replaced. -/
def setPort (p : Port) (x : PortState) (s : State) : State :=
  match p with
  | .a => { s with path := { s.path with portA := x } }
  | .b => { s with path := { s.path with portB := x } }

/-- The forward-drop flag set (R12). -/
def setForwardDrop (s : State) : State := { s with path := { s.path with forwardDrop := true } }

/-- Whether a frame under transmission is the answer that accepted RESET PART (R19, R186). -/
def isResetAnswer (t : Transmission) : Bool :=
  match t with
  | .answer a => a.acceptsReset
  | _ => false

/-- Whether a frame under transmission is a forwarded one (R3). -/
def isForwarded (t : Transmission) : Bool :=
  match t with
  | .forwarded _ => true
  | _ => false

/-- The link of a port comes up: only a part that is INLINE has ports that establish links (R1, R5, R6). -/
def establishLink (p : Port) (s : State) : State :=
  if s.isInLine then setPort p { portOf s p with link := .up } s else s

/-- The abandonment of a frame under transmission: a forwarded frame sets the forward-drop flag, and the answer that
accepted RESET PART asserts the part reset (R3, R186). -/
def abandon (t : Transmission) (s : State) : State :=
  if isResetAnswer t then resetByRequest s else if isForwarded t then setForwardDrop s else s

/-- An UP port loses its link (R1, R3). -/
def loseLink (p : Port) (s : State) : State :=
  if (portOf s p).link = .up then
    let s1 := setPort p { link := .down, sending := none } s
    match (portOf s p).sending with
    | some t => abandon t s1
    | none => s1
  else s

/-- The transmission under way at a port completes (R3); the completion of the answer that accepted RESET PART asserts
the part reset (R19, R186). -/
def completeTransmission (p : Port) (s : State) : State :=
  match (portOf s p).sending with
  | some t =>
    if isResetAnswer t then resetByRequest s else setPort p { portOf s p with sending := none } s
  | none => s

/-! ## Arrivals (R2, R7 to R12, R173) -/

/-- A frame is offered to the Forward FIFO with its stream match (R9, R10, R12). -/
def offerForward (f : ForwardFrame) (s : State) : State :=
  if s.path.forward.length < Config.forwardFifoSize then
    { s with path := { s.path with forward := s.path.forward ++ [f] } }
  else setForwardDrop s

/-- A frame is offered to the Reverse FIFO (R11, R12). -/
def offerReverse (l : List Byte) (s : State) : State :=
  if s.path.reverse.length < Config.reverseFifoSize then
    { s with path := { s.path with reverse := s.path.reverse ++ [l] } }
  else setForwardDrop s

/-- A request is offered to the request queue, which drops it silently when it is full (R173). -/
def offerRequest (r : Request) (s : State) : State :=
  if s.mgmt.requests.length < Config.requestQueueSize then
    { s with mgmt := { s.mgmt with requests := s.mgmt.requests ++ [r] } }
  else s

/-- The stream match of a frame that arrives at Port A: none unless it is a sample frame (R7, R9, R10). -/
def matchOf (s : State) (l : List Byte) : Option StreamId :=
  if typeWord l = 0xB5A0 then matchStream s (streamIdOf l) else none

/-- A frame arrives at Port A: to the Forward FIFO, and a matched sample frame also to the supervisor (R7, R9). -/
def arriveA (l : List Byte) (s : State) : State :=
  let s1 := offerForward { bytes := l, stream := matchOf s l } s
  match matchOf s l with
  | some i => superviseFrame i l s1
  | none => s1

/-- Whether a frame that arrives at Port B is a management request (R8). -/
def isRequestFrame (s : State) (l : List Byte) : Bool :=
  decide (typeWord l = 0xB5A1) && decide (destination l = s.activeAddress)

/-- A frame arrives at Port B (R8). -/
def arriveB (l : List Byte) (s : State) : State :=
  if isRequestFrame s l then offerRequest (requestOf l) s else offerReverse l s

/-- Whether a frame whose reception completes at a port arrives: the port is UP, the switch INLINE, and the frame good
(R2). -/
def arrives (p : Port) (f : WireFrame) (s : State) : Bool :=
  s.isInLine && decide ((portOf s p).link = .up) && frameGood f

/-- The reception of a frame completes at a port (R2, R7, R8); a frame that does not arrive leaves no trace. -/
def receiveFrame (p : Port) (f : WireFrame) (s : State) : State :=
  if arrives p f s then
    match p with
    | .a => arriveA f.bytes s
    | .b => arriveB f.bytes s
  else s

/-! ## Departures (R11, R14 to R19) -/

/-- Whether a port is UP and no frame is under transmission at it. -/
def portReady (x : PortState) : Bool := decide (x.link = .up) && x.sending.isNone

/-- Port A, UP and free, begins to send the head frame of the Reverse FIFO (R11). -/
def startPortA (s : State) : State :=
  match s.path.reverse with
  | [] => s
  | l :: rest =>
    if portReady s.path.portA then
      { s with path := { s.path with reverse := rest, portA := { s.path.portA with sending := some (.forwarded l) } } }
    else s

/-- The group whose annex a departing frame takes, none where a condition of R14 or the length of R16 fails. -/
def annexGroupOf (s : State) (f : ForwardFrame) : Option GroupId :=
  match f.stream with
  | none => none
  | some i =>
    let e := s.streams[i]
    if e.valid ∧ e.annexMode = .append ∧ s.groups[e.annexGroup].enabled ∧ f.bytes.length + 4 ≤ 1510 then
      some e.annexGroup
    else none

/-- A Forward FIFO frame as it leaves Port B, with its annex if it takes one (R14). -/
def departing (s : State) (f : ForwardFrame) : List Byte :=
  match annexGroupOf s f with
  | some g => f.bytes ++ annexOf s g
  | none => f.bytes

/-- Whether an answer or a report waits for Port B. -/
def managementWaits (s : State) : Bool := !s.mgmt.answers.isEmpty || !s.mgmt.reports.isEmpty

/-- Whether the starvation count makes a choice pass over the Forward FIFO (R17). -/
def passesForward (s : State) : Bool :=
  decide (s.settings.starvationLimit ≤ s.path.starvation) && managementWaits s

/-- Port B sends `t`, and the starvation count takes the value `n`. -/
def sendB (t : Transmission) (n : Nat) (s : State) : State :=
  { s with path := { s.path with portB := { s.path.portB with sending := some t }, starvation := n } }

/-- The oldest answer is chosen, or, if there is none, the oldest report (R17, R18). -/
def chooseManagement (s : State) : State :=
  match s.mgmt.answers, s.mgmt.reports with
  | a :: rest, _ => sendB (.answer a) 0 { s with mgmt := { s.mgmt with answers := rest } }
  | [], r :: rest => sendB (.report r) 0 { s with mgmt := { s.mgmt with reports := rest } }
  | [], [] => s

/-- The starvation count after a Forward FIFO frame is chosen (R18). -/
def starvationAfter (s : State) : Nat := if managementWaits s then min 255 (s.path.starvation + 1) else 0

/-- The head of the Forward FIFO is chosen (R14, R17, R18). -/
def chooseForward (f : ForwardFrame) (rest : List ForwardFrame) (s : State) : State :=
  sendB (.forwarded (departing s f)) (starvationAfter s) { s with path := { s.path with forward := rest } }

/-- The Transmit Arbiter's choice, made while Port B is UP and free (R17, R19). -/
def arbiterChoice (s : State) : State :=
  if portReady s.path.portB then
    match s.path.forward with
    | f :: rest => if passesForward s then chooseManagement s else chooseForward f rest s
    | [] => chooseManagement s
  else s

/-! ## Commands -/

/-- LINK_ESTABLISHED at a port (R1, R6). -/
def execLinkEstablished (p : Port) (s : State) : Host.Outcome State Fault Refusal := act (establishLink p s)

/-- LINK_LOSS at a port (R1, R3, R186). -/
def execLinkLoss (p : Port) (s : State) : Host.Outcome State Fault Refusal := act (loseLink p s)

/-- FRAME_ARRIVAL at a port (R2, R7, R8). -/
def execFrameArrival (p : Port) (f : WireFrame) (s : State) : Host.Outcome State Fault Refusal :=
  act (receiveFrame p f s)

/-- PORT_A_TRANSMISSION_START (R11). -/
def execPortATransmissionStart (s : State) : Host.Outcome State Fault Refusal := act (startPortA s)

/-- TRANSMIT_ARBITER_CHOICE (R17, R18). -/
def execTransmitArbiterChoice (s : State) : Host.Outcome State Fault Refusal := act (arbiterChoice s)

/-- TRANSMISSION_COMPLETE at a port (R3, R19). -/
def execTransmissionComplete (p : Port) (s : State) : Host.Outcome State Fault Refusal := act (completeTransmission p s)

end Sys2Proof.Machine
end

