-- ==== Sys2Proof/Machine/PartRequests.lean ====
section
/-! DEFINITION. The requests that concern the part: UNSUPPORTED (R174), IDENTIFY (R177), READ STATUS (R178), READ
EVENTS (R153), HOLD CAPTURE, RELEASE CAPTURE and READ CAPTURE (R165, R166, R170), STORE CONFIG (R189) and RESET PART
(R186). -/

namespace Sys2Proof.Machine

/-! ## UNSUPPORTED and IDENTIFY (R174, R177) -/

/-- A request whose code names no request (R174, item 1). -/
def serveUnsupported (_r : Request) (s : State) : Reply := refuse .unsupported s

/-- Whether a request's code names no request (R174, item 1). -/
def namesNoRequest (r : Request) : Bool := decide (requestCode r.code = none)

/-- IDENTIFY (R177). -/
def serveIdentify (_r : Request) (s : State) : Reply :=
  done (.identity "Omplava" "Pervila" "PX-816" s.ident.revision 8 16 2 64 s.ident.factory s.activeAddress
    s.pendingAddress) s

/-! ## READ STATUS (R178) -/

/-- What READ STATUS shows of a group (R178). -/
def groupStatus (g : Group) : GroupStatus :=
  { enabled := g.enabled, timing := g.tracker.timing, levelUnit := g.levelUnit, generation := g.generation,
    commitPending := g.commitPending }

/-- What READ STATUS shows of a capture slot (R172). -/
def slotStatus (c : CaptureSlot) : SlotStatus :=
  { state := c.state, owner := c.owner, holds := c.holds, auto := c.auto,
    number := if c.state = .held then some c.number else none }

/-- What READ STATUS shows of the part (R178); the depths of the queues are those after the request left its queue and
before its answer joins the answer queue (assumption log 11). -/
def partStatus (s : State) : PartStatus :=
  { linkA := s.path.portA.link, linkB := s.path.portB.link, inLine := s.isInLine, lines := s.lines, timer := s.timer,
    queueDepth := s.queue.entries.length, suspended := s.queue.suspended, starvation := s.path.starvation,
    reportCounter := s.mgmt.reportCounter, forwardDrop := s.path.forwardDrop, reportSkipped := s.mgmt.reportSkipped,
    groups := groupIxs.map (fun g => groupStatus s.groups[g]),
    slots := [slotStatus s.captures.slots[0], slotStatus s.captures.slots[1]],
    requestDepth := s.mgmt.requests.length, answerDepth := s.mgmt.answers.length,
    reportDepth := s.mgmt.reports.length }

/-- READ STATUS (R178): with the clear option set, both sticky flags are cleared as the answer is built. -/
def serveReadStatus (r : Request) (s : State) : Reply :=
  match flagArg (argOf r 0) with
  | some clear => { done (.status (partStatus s)) s with clearsFlags := clear }
  | none => refuse .badField s

/-! ## READ EVENTS (R153) -/

/-- The state with the `n` oldest event records removed. -/
def dropEvents (n : Nat) (s : State) : State := { s with events := { s.events with records := s.events.records.drop n } }

/-- READ EVENTS (R153). A clamped n at an empty queue is answered DONE-CLAMPED, where the rule's words give DONE as well:
DESIGN CHOICE (assumption log 32). -/
def serveReadEvents (r : Request) (s : State) : Reply :=
  let n := clampTo 1 16 (argOf r 0)
  doneIf (decide (n ≠ argOf r 0))
    (.events (s.events.records.take n) (s.events.records.drop n).length) (dropEvents n s)

/-! ## Capture slots (R165, R166, R170) -/

/-- The state with the Capture Unit replaced. -/
def setCaptures (c : Captures) (s : State) : State := { s with captures := c }

/-- The Capture Unit with a hold added to slot `i` (R165). -/
def addHold (i : CaptureIx) (c : Captures) : Captures :=
  setSlot i { c.slots[i] with holds := c.slots[i].holds + 1 } c

/-- HOLD CAPTURE of slot `i` (R165, R172). -/
def serveHold (i : CaptureIx) (s : State) : Reply :=
  let c := s.captures.slots[i]
  if c.state = .free then refuse .notHeld s
  else if Config.holdLimit ≤ c.holds then refuse .holdLimit s
  else done (.hold i c.state c.owner (c.holds + 1)) (setCaptures (addHold i s.captures) s)

/-- RELEASE CAPTURE of slot `i` (R166, R172). -/
def serveRelease (i : CaptureIx) (s : State) : Reply :=
  if s.captures.slots[i].state = .free then refuse .notHeld s
  else
    let caps := releaseHold i s.captures
    done (.release i caps.slots[i].state caps.slots[i].holds) (setCaptures caps s)

/-- The descriptor of a slot (R170). -/
def descriptorOf (c : CaptureSlot) : CaptureDescriptor :=
  { owner := c.owner, holds := c.holds, auto := c.auto, trigger := c.trigger, number := c.number,
    startSeq := c.startSeq, kind := c.kind, count := c.count, map := c.map }

/-- The values that READ CAPTURE returns of a channel: at most 256, from `start` on (R170). -/
def capturedValues (c : CaptureSlot) (channel : SlotIx) (start : Nat) : List Int :=
  (c.channels[channel].drop start).take 256

/-- READ CAPTURE (R170, R172): a slot, a channel and a start, two bytes. -/
def serveReadCapture (r : Request) (s : State) : Reply :=
  match twoArg (argOf r 0), slotArg (argOf r 1) with
  | some i, some k =>
    let c := s.captures.slots[i]
    let start := beNat r.body 2 2
    if c.state ≠ .held then refuse .notReady s
    else if c.count ≤ start then refuse .badField s
    else done (.capture i (descriptorOf c) k.val start (capturedValues c k start)) s
  | _, _ => refuse .badField s

/-! ## STORE CONFIG and RESET PART (R186, R189) -/

/-- The snapshot: the contents of the working tables as they stand (R187, R189). -/
def snapshotOf (s : State) : ImageContents :=
  { streams := s.streams, records := Vector.ofFn (fun g : Fin 8 => s.groups[g].config),
    nowBanks := Vector.ofFn (fun g : Fin 8 => s.groups[g].nowBank), address := s.pendingAddress,
    settings := s.settings }

/-- A store begins: the snapshot is taken, the activity BUSY, and the existing image invalidated (R189, R190). -/
def beginStore (s : State) : State :=
  { s with store := { s.store with snapshot := some (snapshotOf s), taken := s.timer, image := .blank } }

/-- STORE CONFIG (R189). -/
def serveStoreConfig (_r : Request) (s : State) : Reply :=
  if s.store.busy then refuse .storeBusy s else done .empty (beginStore s)

/-- The Management Unit RESET-PENDING from now on (R186). -/
def pendReset (s : State) : State := { s with mgmt := { s.mgmt with resetTaken := some s.timer } }

/-- RESET PART (R186). -/
def serveResetPart (_r : Request) (s : State) : Reply :=
  if s.store.busy then refuse .storeBusy s else { done .empty (pendReset s) with acceptsReset := true }

/-! ## Commands -/

/-- UNSUPPORTED (R174). -/
def execUnsupported (s : State) : Host.Outcome State Fault Refusal :=
  act (takeRequest namesNoRequest serveUnsupported s)

/-- IDENTIFY (R177). -/
def execIdentify (s : State) : Host.Outcome State Fault Refusal :=
  act (takeRequest (hasCode .identify) (withArgs 0 serveIdentify) s)

/-- READ_STATUS (R178). -/
def execReadStatus (s : State) : Host.Outcome State Fault Refusal :=
  act (takeRequest (hasCode .readStatus) (withArgs 1 serveReadStatus) s)

/-- READ_EVENTS (R153). -/
def execReadEvents (s : State) : Host.Outcome State Fault Refusal :=
  act (takeRequest (hasCode .readEvents) (withArgs 1 serveReadEvents) s)

/-- HOLD_CAPTURE (R165). -/
def execHoldCapture (s : State) : Host.Outcome State Fault Refusal :=
  act (takeRequest (hasCode .holdCapture) (withArgs 1 (withSlot serveHold)) s)

/-- RELEASE_CAPTURE (R166). -/
def execReleaseCapture (s : State) : Host.Outcome State Fault Refusal :=
  act (takeRequest (hasCode .releaseCapture) (withArgs 1 (withSlot serveRelease)) s)

/-- READ_CAPTURE (R170). -/
def execReadCapture (s : State) : Host.Outcome State Fault Refusal :=
  act (takeRequest (hasCode .readCapture) (withArgs 4 serveReadCapture) s)

/-- STORE_CONFIG (R189, R190). -/
def execStoreConfig (s : State) : Host.Outcome State Fault Refusal :=
  act (takeRequest (hasCode .storeConfig) (withArgs 0 serveStoreConfig) s)

/-- RESET_PART (R186). -/
def execResetPart (s : State) : Host.Outcome State Fault Refusal :=
  act (takeRequest (hasCode .resetPart) (withArgs 0 serveResetPart) s)

end Sys2Proof.Machine
end

