-- ==== Sys2Proof/Machine/StoreOps.lean ====
section
/-! DEFINITION. The end of a store (R190) and the time limit of a pending part reset (R186): the commands
STORE_COMPLETION, STORE_READ_BACK_FAULT, STORE_TIME_LIMIT and RESET_PART_TIME_LIMIT. -/

namespace Sys2Proof.Machine

/-- A store completes: the snapshot and its CRC stand in the region, so the image is good; the latch and the defaulted flag
clear, STORE DONE is raised (R190). That they enter the region in this act: DEDUCED (assumption log 14). -/
def completeStore (s : State) : State :=
  match s.store.snapshot with
  | some c =>
    raiseAt .storeDone
      { s with
          store :=
            { s.store with snapshot := none, faultLatch := false, image := sealedImage c, defaulted := false } }
  | none => s

/-- A store in progress ends in a fault: the image is blank, the latch set, STORE FAULT raised (R190). -/
def faultStore (s : State) : State :=
  if s.store.busy then
    raiseAt .storeFault { s with store := { s.store with snapshot := none, faultLatch := true, image := .blank } }
  else s

/-- A store in progress runs out of its 400 ms (R190). -/
def storeTimeOut (s : State) : State :=
  if limitReached s s.store.taken Config.storeLimit then faultStore s else s

/-- A pending part reset is asserted 500 ms after RESET PART was taken (R186, case 3). -/
def resetPartTimeOut (s : State) : State :=
  match s.mgmt.resetTaken with
  | some t => if limitReached s t Config.resetPartLimit then resetByRequest s else s
  | none => s

/-- RESET_PART_TIME_LIMIT (R186). -/
def execResetPartTimeLimit (s : State) : Host.Outcome State Fault Refusal := act (resetPartTimeOut s)

/-- STORE_COMPLETION: the read-back agrees (R190). -/
def execStoreCompletion (s : State) : Host.Outcome State Fault Refusal := act (completeStore s)

/-- STORE_READ_BACK_FAULT: the read-back disagrees (R190). -/
def execStoreReadBackFault (s : State) : Host.Outcome State Fault Refusal := act (faultStore s)

/-- STORE_TIME_LIMIT: 400 ms have passed since the taking (R190). -/
def execStoreTimeLimit (s : State) : Host.Outcome State Fault Refusal := act (storeTimeOut s)

end Sys2Proof.Machine
end

