-- ==== Sys2Proof/Machine/Windows.lean ====
section
/-! DEFINITION. The Accumulation Unit (R37, R49): the application of the head entry of the Analysis Queue to the groups
that name its stream, and the commands APPLY_ENTRY, CYCLE_TOO_LATE, ACQUISITION_TIMEOUT and HOLDOVER_WINDOW_CLOSE. -/

namespace Sys2Proof.Machine

/-- Whether the head entry has still to reach group `g`: it is enabled, names the stream, and was not served (R37). -/
def unserved (s : State) (e : QueueEntry) (g : GroupId) : Bool :=
  s.groups[g].names e.stream && !decide (g ∈ s.queue.served)

/-- Whether the head entry has still to reach some group. -/
def anyUnserved (s : State) (e : QueueEntry) : Bool := groupIxs.any (unserved s e)

/-- The head entry leaves: its silence notice, or one that waits for its leaving, is delivered, then it is removed
(R32, R37). -/
def finishEntry (e : QueueEntry) (s : State) : State :=
  let s1 := if e.silenceFollows || s.queue.noticeAtLeave then deliverNotice e.stream s else s
  { s1 with queue := removeHead s1.settings s1.queue }

/-- The pass of the head entry over group `g`, and the engine's taking of a window that the pass closed (R49, R80). -/
def passGroup (e : QueueEntry) (g : GroupId) (s : State) : State :=
  let s1 := engineTake (actOn s g (fun c => passEntry c e))
  { s1 with queue := { s1.queue with served := s1.queue.served ++ [g] } }

/-- The head entry leaves in the same act if it has reached every group it was to reach (R37; assumption log 15). -/
def leaveIfDone (e : QueueEntry) (s : State) : State := if anyUnserved s e then s else finishEntry e s

/-- The Accumulation Unit's work on the head entry at group `g`: a pass, if the entry has still to reach the group, and
the entry's leaving, if it has reached them all (R37, R49). -/
def applyAt (g : GroupId) (s : State) : State :=
  match s.queue.entries with
  | [] => s
  | e :: _ => leaveIfDone e (if unserved s e g then passGroup e g s else s)

/-- Whether a pass of the head entry over group `g` stands next and something happens in it. -/
def happensNext (p : GroupContext → QueueEntry → GroupView → Instant → Bool) (g : GroupId) (s : State) : Bool :=
  match s.queue.entries with
  | [] => false
  | e :: _ => unserved s e g && happensInPass p (contextOf s g) e (viewGroup s g)

/-! ## Commands -/

/-- APPLY_ENTRY at a group (R37, R49). -/
def execApplyEntry (g : GroupId) (s : State) : Host.Outcome State Fault Refusal := act (applyAt g s)

/-- CYCLE_TOO_LATE (R52): a step of a pass, which R49 makes one act. The command is that pass, taken when a cycle
becomes too late in it (assumption log 4). -/
def execCycleTooLate (g : GroupId) (s : State) : Host.Outcome State Fault Refusal :=
  act (if happensNext tooLateAt g s then applyAt g s else s)

/-- ACQUISITION_TIMEOUT (R55): the pass in which the acquisition times out (assumption log 4). -/
def execAcquisitionTimeout (g : GroupId) (s : State) : Host.Outcome State Fault Refusal :=
  act (if happensNext timeoutAt g s then applyAt g s else s)

/-- HOLDOVER_WINDOW_CLOSE (R58): the pass in which a holdover window closes (assumption log 4). -/
def execHoldoverWindowClose (g : GroupId) (s : State) : Host.Outcome State Fault Refusal :=
  act (if happensNext holdoverCloseAt g s then applyAt g s else s)

end Sys2Proof.Machine
end

