-- ==== Sys2Proof/Machine/Dispatch.lean ====
section
/-! DEFINITION. The dispatch: one arm per command of the table, each one direct call of its meaning. -/

namespace Sys2Proof.Machine

/-- The effect of a command on the part (the queue of waiting commands apart). -/
def exec (i : Instr) (s : State) : Host.Outcome State Fault Refusal :=
  match i with
  | .powerOn => Sys2Proof.Machine.execPowerOn s
  | .lossOfSupply => Sys2Proof.Machine.execLossOfSupply s
  | .nresetAssertion => Sys2Proof.Machine.execNresetAssertion s
  | .nresetRelease => Sys2Proof.Machine.execNresetRelease s
  | .imageRead => Sys2Proof.Machine.execImageRead s
  | .imageReadTimeLimit => Sys2Proof.Machine.execImageReadTimeLimit s
  | .linkEstablished p => Sys2Proof.Machine.execLinkEstablished p s
  | .linkLoss p => Sys2Proof.Machine.execLinkLoss p s
  | .frameArrival p f => Sys2Proof.Machine.execFrameArrival p f s
  | .portATransmissionStart => Sys2Proof.Machine.execPortATransmissionStart s
  | .transmitArbiterChoice => Sys2Proof.Machine.execTransmitArbiterChoice s
  | .transmissionComplete p => Sys2Proof.Machine.execTransmissionComplete p s
  | .silenceDeadline n => Sys2Proof.Machine.execSilenceDeadline n s
  | .rateIntervalEnd => Sys2Proof.Machine.execRateIntervalEnd s
  | .applyEntry g => Sys2Proof.Machine.execApplyEntry g s
  | .cycleTooLate g => Sys2Proof.Machine.execCycleTooLate g s
  | .acquisitionTimeout g => Sys2Proof.Machine.execAcquisitionTimeout g s
  | .holdoverWindowClose g => Sys2Proof.Machine.execHoldoverWindowClose g s
  | .evaluationCompletion => Sys2Proof.Machine.execEvaluationCompletion s
  | .leak => Sys2Proof.Machine.execLeak s
  | .resetPartTimeLimit => Sys2Proof.Machine.execResetPartTimeLimit s
  | .storeCompletion => Sys2Proof.Machine.execStoreCompletion s
  | .storeReadBackFault => Sys2Proof.Machine.execStoreReadBackFault s
  | .storeTimeLimit => Sys2Proof.Machine.execStoreTimeLimit s
  | .unsupported => Sys2Proof.Machine.execUnsupported s
  | .identify => Sys2Proof.Machine.execIdentify s
  | .readStatus => Sys2Proof.Machine.execReadStatus s
  | .readEntryStream => Sys2Proof.Machine.execReadEntryStream s
  | .readEntryGroup => Sys2Proof.Machine.execReadEntryGroup s
  | .readEntryLimitBank => Sys2Proof.Machine.execReadEntryLimitBank s
  | .readEntryPartSettings => Sys2Proof.Machine.execReadEntryPartSettings s
  | .writeEntryStream => Sys2Proof.Machine.execWriteEntryStream s
  | .writeEntryGroup => Sys2Proof.Machine.execWriteEntryGroup s
  | .writeEntryLimitBank => Sys2Proof.Machine.execWriteEntryLimitBank s
  | .writeEntryPartSettings => Sys2Proof.Machine.execWriteEntryPartSettings s
  | .commitLimits => Sys2Proof.Machine.execCommitLimits s
  | .groupEnable => Sys2Proof.Machine.execGroupEnable s
  | .groupDisable => Sys2Proof.Machine.execGroupDisable s
  | .readResult => Sys2Proof.Machine.execReadResult s
  | .readEvents => Sys2Proof.Machine.execReadEvents s
  | .clearFirst => Sys2Proof.Machine.execClearFirst s
  | .releaseTrip => Sys2Proof.Machine.execReleaseTrip s
  | .snap => Sys2Proof.Machine.execSnap s
  | .holdCapture => Sys2Proof.Machine.execHoldCapture s
  | .releaseCapture => Sys2Proof.Machine.execReleaseCapture s
  | .readCapture => Sys2Proof.Machine.execReadCapture s
  | .readArray => Sys2Proof.Machine.execReadArray s
  | .storeConfig => Sys2Proof.Machine.execStoreConfig s
  | .restartAnalysis => Sys2Proof.Machine.execRestartAnalysis s
  | .resetPart => Sys2Proof.Machine.execResetPart s

end Sys2Proof.Machine
end

