-- ==== Sys2Proof/Machine/Time.lean ====
section
/-! DEFINITION. One millisecond of the Millisecond Timer, which is what an empty command queue lets pass (assumption
log 3): the acts that the timer's present value makes due and that no command has taken are taken, and then the timer
and the rate interval clock count on (R31, R33, R186, R190, R192). -/

namespace Sys2Proof.Machine

/-- The acts that the timer's present value makes due and that no command has taken (R31, R33, R186, R190, R192). -/
def takeDue (s : State) : State :=
  takeRateCheck (streamIxs.foldl takeDeadline (resetPartTimeOut (storeTimeOut (imageReadTimeOut s))))

/-- The rate interval clock counts 0 to 999; at its return to 0 a rate check falls due (R33). -/
def countRate (s : State) : State :=
  if s.rateClock + 1 < Config.rateInterval then { s with rateClock := s.rateClock + 1 }
  else { s with rateClock := 0, rateDue := true }

/-- The timer counts on (R192). -/
def countTimer (s : State) : State := { s with timer := s.timer + 1 }

/-- One millisecond passes. The timer stands at 0 while a reset is asserted or the part is unpowered (R192). -/
def tick (s : State) : State := if s.power = .released then countRate (countTimer (takeDue s)) else s

end Sys2Proof.Machine
end

