-- ==== Sys2Proof/Machine/Step.lean ====
section
/-! DEFINITION. One step of the part: the command at the front of the queue, or, with none waiting, one millisecond
(assumption log 3); and the placing of a table word's command at the front of the queue. -/

namespace Sys2Proof.Machine

/-- The state with the queue of waiting commands replaced. -/
def withPending (l : List Instr) (s : State) : State := { s with pending := l }

/-- One step: the front command on the state with the queue's rest, or one millisecond of the timer on an empty queue. -/
def step (s : State) : Host.Outcome State Fault Refusal :=
  match s.pending with
  | [] => act (tick s)
  | c :: rest => exec c (withPending rest s)

/-- The state with the command that a table word spells at the front of its queue; unchanged where the word spells
none, as no word of this table does. -/
def State.withFetchWord (s : State) (nbits w : Nat) : State :=
  match Sys2Proof.decodeTableWord nbits w with
  | some c => withPending (c :: s.pending) s
  | none => s

end Sys2Proof.Machine
end

