-- ==== Sys2Proof/Safety.lean ====
section
/-! DEFINITION. The laws of the PX-816 as predicates of a state: what every act keeps. Each names the rule whose law it
is; the clauses that the manual does not call a law are there because the law rests on them. -/

namespace Sys2Proof.Machine

/-- The capacities of every queue (R10, R11, R36, R149, R173, R175, R183). -/
def QueuesBounded (s : State) : Prop :=
  s.path.forward.length ≤ 32 ∧ s.path.reverse.length ≤ 16 ∧ s.queue.entries.length ≤ 48 ∧
    s.events.records.length ≤ 64 ∧ s.mgmt.requests.length ≤ 4 ∧ s.mgmt.answers.length ≤ 4 ∧
    s.mgmt.reports.length ≤ 8

/-- The law of R157 for one slot: FREE exactly when the hold count is 0; a FREE slot has nothing; at most 15 holds; and
a slot in use has an owner, without content while it is ARMED (R156). While it is FILLING or HELD the channel of each used
slot of its map holds as many values as the sample count says, and that of an unused one none (R156, R162). What a FREE
slot's number, start sequence and timing kind stand at is the model's choice (assumption log 7). -/
def SlotLawful (x : CaptureSlot) : Prop :=
  (x.state = .free ↔ x.holds = 0) ∧ x.holds ≤ 15 ∧
    (x.state = .free →
      x = { state := .free, owner := none, holds := 0, auto := false, trigger := none, number := 0, startSeq := 0,
            kind := .unset, count := 0, map := Vector.replicate 4 .unused, channels := Vector.replicate 4 [] }) ∧
    (x.state ≠ .free → x.owner.isSome) ∧
    (x.state = .armed →
      x = { CaptureSlot.free with
              state := .armed, owner := x.owner, holds := x.holds, auto := x.auto, trigger := x.trigger }) ∧
    (x.state = .filling ∨ x.state = .held →
      ∀ k : SlotIx, x.channels[k].length = if x.map[k] = .unused then 0 else x.count)

/-- The laws of R157 and R158: both slots lawful, and no group the owner of both. -/
def CapturesLawful (c : Captures) : Prop :=
  (∀ i : CaptureIx, SlotLawful c.slots[i]) ∧
    ∀ g : GroupId, ¬(c.slots[0].owner = some g ∧ c.slots[1].owner = some g)

/-- The law of R110 for one bank: the nonzero thresholds of each row never decrease. -/
def BankRising (b : Vector LimitRow 19) : Prop := ∀ k : Fin 19, b[k].wf

/-- The NOW banks of an image rise. -/
def ContentsRising (c : ImageContents) : Prop := ∀ g : GroupId, BankRising c.nowBanks[g]

/-- The law of R110 for the part: every bank of every group, and the banks that a snapshot and a good image hold. -/
def BanksRising (s : State) : Prop :=
  (∀ g : GroupId, BankRising s.groups[g].nowBank ∧ BankRising s.groups[g].nextBank) ∧
    (∀ c, s.store.snapshot = some c → ContentsRising c) ∧
    ∀ c, imageCondition s.store.image = .good c → ContentsRising c

/-- The law of R122: every bucket and every trip run lies between 0 and 255. -/
def LevelsBounded (s : State) : Prop :=
  ∀ g : GroupId, s.groups[g].levelUnit.bucket ≤ 255 ∧ s.groups[g].levelUnit.run ≤ 255

/-- A set that is WAITING or EVALUATING. -/
def SetState.isClosed (t : SetState) : Prop := t = .waiting ∨ t = .evaluating

/-- The law of R66 for one group: at most one set ACCUMULATING, at most one WAITING or EVALUATING. -/
def SetsLawful (g : Group) : Prop :=
  ¬(g.sets[0].state = .accumulating ∧ g.sets[1].state = .accumulating) ∧
    ¬(g.sets[0].state.isClosed ∧ g.sets[1].state.isClosed)

/-- Some set of a group is in state `t`. -/
def HasSet (g : Group) (t : SetState) : Prop := ∃ i : SetIx, g.sets[i].state = t

/-- The law of R66 for the part, with what it rests on: the wait list holds each group at most once, and exactly those
with a WAITING set (R79); the engine is busy with exactly the group that has an EVALUATING set (R80); a disabled group
has both sets IDLE and its level NORMAL (R78, R133); and in BYPASS every group is disabled and no request waits (R5,
R47). -/
def AnalysisLawful (s : State) : Prop :=
  (∀ g : GroupId, SetsLawful s.groups[g]) ∧ s.waitList.Nodup ∧
    (∀ g : GroupId, g ∈ s.waitList ↔ HasSet s.groups[g] .waiting) ∧
    (∀ g : GroupId, s.engine = some g ↔ HasSet s.groups[g] .evaluating) ∧
    (∀ g : GroupId, s.groups[g].enabled = false →
      (∀ i : SetIx, s.groups[g].sets[i].state = .idle) ∧ s.groups[g].levelUnit.level = .normal) ∧
    (s.switch = .bypass → (∀ g : GroupId, s.groups[g].enabled = false) ∧ s.mgmt.requests = [])

/-! ### The law of R58 on the number of samples of a window -/

/-- A group record's C lies in its range (R41). -/
def CyclesLawful (c : GroupRecord) : Prop := 1 ≤ c.cycles ∧ c.cycles ≤ 16

/-- `m` samples are `n` accepted cycles' worth: the sum of `n` lengths L, each with 15 × S ≤ 16 × L × F0 ≤ 17 × S
(R52). -/
def CyclesWorth (rate : Rate) (c : GroupRecord) (n m : Nat) : Prop :=
  15 * rate.samples * n ≤ 16 * c.freq.hertz * m ∧ 16 * c.freq.hertz * m ≤ 17 * rate.samples * n

/-- The size of a whole window (R58): a TRACKING window is C accepted cycles, a HOLDOVER window C × L0 samples. -/
def WholeWindow (rate : Rate) (c : GroupRecord) (a : AccSet) : Prop :=
  a.cycles = c.cycles ∧
    ((a.kind = .tracking ∧ CyclesWorth rate c c.cycles a.m) ∨
      (a.kind = .holdover ∧ a.m = c.cycles * (rate.samples / c.freq.hertz)))

/-- The TRACKING window open in the set `a` (R56, R74): fewer than C cycles have been added, the cycle in progress stands
in the buffer and is no longer than any accepted one, and the window sample count counts both. -/
def TrackingWindow (rate : Rate) (g : Group) (a : AccSet) : Prop :=
  a.kind = .tracking ∧ a.cycles = g.config.cycles ∧ g.tracker.winCycles < g.config.cycles ∧
    CyclesWorth rate g.config g.tracker.winCycles a.m ∧ g.tracker.cycleCount = some g.buffer.length ∧
    16 * g.config.freq.hertz * g.buffer.length ≤ 17 * rate.samples ∧
    g.tracker.winSamples = a.m + g.buffer.length

/-- The HOLDOVER window open in the set `a` (R58): its M is the window sample count, short of C × L0. -/
def HoldoverWindow (rate : Rate) (g : Group) (a : AccSet) : Prop :=
  a.kind = .holdover ∧ a.cycles = g.config.cycles ∧ a.m = g.tracker.winSamples ∧
    g.tracker.winSamples < g.config.cycles * (rate.samples / g.config.freq.hertz)

/-- The law of R58 for one group on a stream of rate `rate`, with the sizes of R65: no set and no window count exceeds
4896; the buffer holds samples in TRACKING alone (R74); the open window, and a window that waits for its evaluation or is
under it, are as their rules say. -/
def GroupWindowsLawful (rate : Rate) (g : Group) : Prop :=
  CyclesLawful g.config ∧ g.tracker.winSamples ≤ 4896 ∧
    (∀ i : SetIx, g.sets[i].m ≤ 4896 ∧ g.sets[i].held ≤ g.sets[i].m ∧ g.sets[i].clamped ≤ g.sets[i].m) ∧
    (g.tracker.timing ≠ .tracking → g.buffer = []) ∧
    (g.tracker.timing = .tracking →
      ∃ i : SetIx, setIn .accumulating g.sets = some i ∧ TrackingWindow rate g g.sets[i]) ∧
    (g.tracker.timing = .holdover → g.tracker.winSamples ≠ 0 →
      ∃ i : SetIx, setIn .accumulating g.sets = some i ∧ HoldoverWindow rate g g.sets[i]) ∧
    ∀ i : SetIx, g.sets[i].state.isClosed → WholeWindow rate g.config g.sets[i]

/-- The law of R58 for the part: that of every group at its stream's rate; a FILLING slot holds the samples of its owner's
open window, and no slot more than 4896 (R156, R162); and C lies in its range in every record that start-up may load. -/
def WindowsLawful (s : State) : Prop :=
  (∀ g : GroupId, GroupWindowsLawful s.streams[s.groups[g].config.stream].rate s.groups[g]) ∧
    (∀ j : CaptureIx, s.captures.slots[j].count ≤ 4896) ∧
    (∀ (j : CaptureIx) (g : GroupId), s.captures.slots[j].state = .filling → s.captures.slots[j].owner = some g →
      (s.groups[g].tracker.timing = .tracking ∨
          s.groups[g].tracker.timing = .holdover ∧ s.groups[g].tracker.winSamples ≠ 0) ∧
        s.captures.slots[j].count = s.groups[g].tracker.winSamples) ∧
    (∀ c, s.store.snapshot = some c → ∀ g : GroupId, CyclesLawful c.records[g]) ∧
    ∀ c, imageCondition s.store.image = .good c → ∀ g : GroupId, CyclesLawful c.records[g]

/-- The law of R136 and the condition of R137: each line stands as its condition says. -/
def LinesLawful (s : State) : Prop :=
  (s.lines.trip = true ↔ s.switch = .inLine ∧
      ∃ g : GroupId, s.groups[g].config.tripLine = true ∧ s.groups[g].levelUnit.level = .tripped) ∧
    (s.lines.alert = true ↔ s.switch = .inLine ∧
      ∃ g : GroupId, s.groups[g].enabled = true ∧ s.groups[g].config.alertLine = true ∧
        (s.groups[g].levelUnit.level = .alarm ∨ s.groups[g].levelUnit.level = .tripped)) ∧
    (s.lines.supv = true ↔ s.switch = .inLine ∧
      ((∃ g : GroupId, s.groups[g].tracker.timing = .noSignal) ∨ s.store.defaulted = true ∨
        s.store.faultLatch = true))

/-- The part in BYPASS (R1, R5): both ports DOWN with nothing under transmission, every queue empty, and the Result
Engine idle with nothing waiting (R79, R80). -/
def BypassQuiet (s : State) : Prop :=
  s.switch = .bypass →
    s.path.portA = { link := .down, sending := none } ∧ s.path.portB = { link := .down, sending := none } ∧
      s.path.forward = [] ∧ s.path.reverse = [] ∧ s.mgmt.requests = [] ∧ s.mgmt.answers = [] ∧
      s.mgmt.reports = [] ∧ s.queue.entries = [] ∧ s.engine = none ∧ s.waitList = []

/-! ## Terms of the statements about single commands -/

/-- The command answers the next state `t`, the lines driven as R138 gives. -/
def Does (c : Instr) (s t : State) : Prop := exec c s = .next (driveLines t)

/-- The request `r` stands at the head of the request queue, the Management Unit is READY, and the answer queue has
room: what R174 asks for a taking. -/
def HeadIs (s : State) (r : Request) (rest : List Request) : Prop :=
  s.mgmt.requests = r :: rest ∧ s.mgmt.resetTaken = none ∧ s.mgmt.answers.length < 4

/-- The head request has the code `k` and arguments that cover `n` bytes (R174, items 1 and 2). -/
def HeadAsks (s : State) (r : Request) (rest : List Request) (k : RequestCode) (n : Nat) : Prop :=
  HeadIs s r rest ∧ requestCode r.code = some k ∧ covers r n = true

/-- The head request is a READ ENTRY or WRITE ENTRY naming the table `t`, with arguments that cover `n` bytes (R179). -/
def HeadNames (s : State) (r : Request) (rest : List Request) (k : RequestCode) (t : TableSelector) (n : Nat) : Prop :=
  HeadIs s r rest ∧ requestCode r.code = some k ∧ tableOf r = some t ∧ covers r n = true

/-- The state in which a taken request is served: it has left the queue, and its source is the controller address
(R174). -/
def taken (r : Request) (rest : List Request) (s : State) : State :=
  { s with mgmt := { s.mgmt with requests := rest, controller := some r.src } }

/-- The answer to `r` with the summary of the state `s` (R175). -/
def plainAnswer (r : Request) (status : Status) (payload : Payload) (s : State) : Answer :=
  { dst := r.src, src := s.activeAddress, tag := r.tag, code := r.code, status := status, summary := summaryOf s,
    payload := payload, acceptsReset := false }

/-- The state with an answer at the tail of the answer queue (R174). -/
def withAnswer (a : Answer) (s : State) : State :=
  { s with mgmt := { s.mgmt with answers := s.mgmt.answers ++ [a] } }

/-- Taking the request `r` by the command `c` leaves the state `t`, but for the answer with this status and payload. -/
def Serves (c : Instr) (s : State) (r : Request) (status : Status) (payload : Payload) (t : State) : Prop :=
  Does c s (withAnswer (plainAnswer r status payload t) t)

/-- The request `r` is refused by the command `c`: nothing changes but the taking and the answer (R176). -/
def Refuses (c : Instr) (s : State) (r : Request) (rest : List Request) (status : Status) : Prop :=
  Serves c s r status .empty (taken r rest s)

/-- The commands that are requests, each with its code and the length of its fixed arguments (R199). -/
def plainRequests : List (Instr × RequestCode × Nat) :=
  [(.identify, .identify, 0), (.readStatus, .readStatus, 1), (.commitLimits, .commitLimits, 1),
   (.groupEnable, .groupEnable, 1), (.groupDisable, .groupDisable, 1), (.readResult, .readResult, 1),
   (.readEvents, .readEvents, 1), (.clearFirst, .clearFirst, 1), (.releaseTrip, .releaseTrip, 1), (.snap, .snap, 1),
   (.holdCapture, .holdCapture, 1), (.releaseCapture, .releaseCapture, 1), (.readCapture, .readCapture, 4),
   (.readArray, .readArray, 4), (.storeConfig, .storeConfig, 0), (.restartAnalysis, .restartAnalysis, 0),
   (.resetPart, .resetPart, 0)]

/-- The commands that read or write a table entry, each with its code, its table and the length of its fixed arguments
with the further fixed fields of R179. -/
def entryRequests : List (Instr × RequestCode × TableSelector × Nat) :=
  [(.readEntryStream, .readEntry, .stream, 2), (.readEntryGroup, .readEntry, .group, 2),
   (.readEntryLimitBank, .readEntry, .limits, 5), (.readEntryPartSettings, .readEntry, .settings, 2),
   (.writeEntryStream, .writeEntry, .stream, 14), (.writeEntryGroup, .writeEntry, .group, 72),
   (.writeEntryLimitBank, .writeEntry, .limits, 4), (.writeEntryPartSettings, .writeEntry, .settings, 11)]

/-- The requests that name a group in their one argument. -/
def groupRequests : List (Instr × RequestCode) :=
  [(.commitLimits, .commitLimits), (.groupEnable, .groupEnable), (.groupDisable, .groupDisable),
   (.readResult, .readResult), (.clearFirst, .clearFirst), (.releaseTrip, .releaseTrip), (.snap, .snap)]

/-- Every command that takes a request. -/
def requestCommands : List Instr :=
  .unsupported :: plainRequests.map (fun x => x.1) ++ entryRequests.map (fun x => x.1)

/-- An event record without its lost-after mark, the one thing about a record that the queue changes (R149). -/
def bareRecord (r : EventRecord) : EventRecord := { r with lostAfter := false }

/-- A frame arrives at a port by the conditions of R2. -/
def ArrivesAt (p : Port) (f : WireFrame) (s : State) : Prop :=
  s.switch = .inLine ∧ (portOf s p).link = .up ∧ f.check = frameCheck f.bytes ∧ 64 ≤ f.length ∧ f.length ≤ 1522

/-- The part as a part reset leaves it, released (R20, R192): the state that R186 asserts. Of an accumulator set all that a
clearing keeps reads as 0 (R65), the tracker record has its values after a part reset (R48), and the generation is 0
(R107). What the number, start sequence and timing kind of a FREE capture slot stand at is the model's choice (assumption
log 7), and so is that the commands which wait stay (assumption log 28). -/
def IsReset (s t : State) : Prop :=
  t.switch = .bypass ∧ t.timer = 0 ∧ t.lines = { alert := false, trip := false, supv := false } ∧
    t.path = { portA := { link := .down, sending := none }, portB := { link := .down, sending := none },
               forward := [], reverse := [], forwardDrop := false, starvation := 0 } ∧
    t.mgmt = { resetTaken := none, requests := [], answers := [], reports := [], reportCounter := 0,
               reportSkipped := false, controller := none } ∧
    t.queue = { entries := [], served := [], noticeAtLeave := false, suspended := false } ∧
    (∀ i : StreamId, t.supervision[i] =
      { activity := .unseen, expected := 0, deadline := none, count := 0, fullInterval := false, suspect := false,
        rangeMark := false, lastSync := false }) ∧
    t.rateClock = 0 ∧ t.rateDue = false ∧
    t.events = { records := [], counter := 0 } ∧
    (∀ k : CaptureIx, t.captures.slots[k] = CaptureSlot.free) ∧ t.captures.marker = 0 ∧
    t.engine = none ∧ t.waitList = [] ∧
    (∀ g : GroupId, t.groups[g].enabled = false ∧
      t.groups[g].tracker =
        { timing := .disabled, armed := false, cycleCount := none, lockCount := 0, acqCount := 0, winCycles := 0,
          winSamples := 0, expected := none, last := Vector.replicate 4 0 } ∧
      t.groups[g].levelUnit = LevelUnit.fresh ∧ t.groups[g].generation = 0 ∧
      t.groups[g].result = none ∧ t.groups[g].first = none ∧ t.groups[g].nextRows = 0 ∧ t.groups[g].counter = 0 ∧
      t.groups[g].buffer = [] ∧ t.groups[g].commitPending = false ∧
      ∀ i : SetIx, t.groups[g].sets[i] =
        { state := .idle, number := 0, startSeq := 0, kind := .unset, cycles := 0, m := 0, held := 0, clamped := 0,
          suspect := false, sums := Vector.replicate 4 SlotSums.zero, limitGen := 0 }) ∧
    t.store.snapshot = none ∧ t.store.faultLatch = false ∧ t.ident = s.ident ∧ t.pending = s.pending ∧
    (s.store.snapshot = none → t.store.image = s.store.image) ∧
    (s.store.snapshot ≠ none → t.store.image = .blank ∨ ∃ c k, t.store.image = .written c k ∧ k ≠ imageCrc c)

/-! ## Terms of the statements about passes -/

/-- A sample is a crossing at a group: the armed mark is set, and the reference slot's value is 0 or more (R51). -/
def CrossesAt (g : Group) (x : Sample) : Prop := g.tracker.armed = true ∧ 0 ≤ x.vals[g.config.refSlot]

/-- The length `len` is accepted: 15 × S ≤ 16 × len × F0 ≤ 17 × S (R52). -/
def LengthAccepted (c : GroupContext) (g : Group) (len : Nat) : Prop :=
  15 * c.rate.samples ≤ 16 * len * g.config.freq.hertz ∧ 16 * len * g.config.freq.hertz ≤ 17 * c.rate.samples

/-- A sample ends a cycle of length `len` that is accepted (R52). -/
def EndsAccepted (c : GroupContext) (g : Group) (x : Sample) (len : Nat) : Prop :=
  CrossesAt g x ∧ g.tracker.cycleCount = some len ∧ LengthAccepted c g len

/-- A sample ends a cycle that is not accepted: too early, since no longer one reaches a crossing (R52). -/
def EndsEarly (c : GroupContext) (g : Group) (x : Sample) : Prop :=
  CrossesAt g x ∧ ∃ len, g.tracker.cycleCount = some len ∧ ¬LengthAccepted c g len

/-- A sample that is no crossing finds a cycle that one sample more would make longer than any accepted one: the cycle
becomes too late (R52). -/
def EndsLate (c : GroupContext) (g : Group) (x : Sample) : Prop :=
  ¬CrossesAt g x ∧ ∃ n, g.tracker.cycleCount = some n ∧ 17 * c.rate.samples < 16 * (n + 1) * g.config.freq.hertz

/-- The set that a window takes as it opens: the ACCUMULATING one; with none ACCUMULATING the IDLE one, set 0 of two
(R68). -/
def TakesSet (sets : Vector AccSet 2) (i : SetIx) : Prop :=
  (sets[i].state = .accumulating ∧ (i = 1 → sets[0].state ≠ .accumulating)) ∨
    ((∀ k : SetIx, sets[k].state ≠ .accumulating) ∧ sets[i].state = .idle ∧ (i = 1 → sets[0].state ≠ .idle))

/-- A window opened in set `i` at the sample with sequence number `seq`: the set cleared, with the counter's number, the
start, the kind and C, and the opening told to the Capture Unit (R68, R162). -/
def openedIn (c : GroupContext) (kind : WindowKind) (seq : Nat) (i : SetIx) (v : GroupView) : GroupView :=
  let a : AccSet :=
    { state := .accumulating, number := v.grp.counter, startSeq := seq, kind := kind, cycles := v.grp.config.cycles,
      m := 0, held := 0, clamped := 0, suspect := false,
      sums := Vector.replicate 4 { fund := ⟨0, 0⟩, pairs := [], sum := 0, sumSq := 0, min := none, max := none },
      limitGen := v.grp.sets[i].limitGen }
  { v with grp := { v.grp with sets := upd v.grp.sets i a },
           captures := captureOpen c.group v.grp.counter seq kind v.grp.config.slots v.captures }

/-- A TRACKING window opened in set `i` at the crossing sample `x`, which is its first sample and the first of its cycle
buffer, with the tracker record `u` otherwise (R54, R56, R59, R74, R162). -/
def trackingOpened (c : GroupContext) (seq : Nat) (x : Sample) (i : SetIx) (u : Tracker) (v : GroupView) : GroupView :=
  let o := openedIn c .tracking seq i v
  { o with grp := { o.grp with tracker := { u with winCycles := 0, winSamples := 1 }, buffer := [x] }
           captures := captureWrite c.group x.vals o.captures }

/-- A HOLDOVER window opened in set `i` at the sample `x`, which is added to it at offset 0 of a nominal cycle, with the
tracker record `u` otherwise (R58, R73, R162). -/
def holdoverOpened (c : GroupContext) (seq : Nat) (x : Sample) (i : SetIx) (u : Tracker) (v : GroupView) : GroupView :=
  let o := openedIn c .holdover seq i v
  { o with
      grp := { o.grp with
        tracker := { u with winSamples := 1 }
        sets := upd o.grp.sets i
          (addSample o.grp.config 0 (c.rate.samples / o.grp.config.freq.hertz) x o.grp.sets[i]) }
      captures := captureWrite c.group x.vals o.captures }

/-- The group that `c` names is not the owner of both slots (R158). -/
def OwnsOne (c : GroupContext) (u : Captures) : Prop :=
  ¬(u.slots[0].owner = some c.group ∧ u.slots[1].owner = some c.group)

/-! ## Terms of the statements about layouts -/

/-- The number that the `n` bytes of `l` from byte `i` on give, the most significant byte first (R196). -/
def numberAt (l : List Byte) (i n : Nat) : Nat :=
  (List.range n).foldl (fun v k => v * 256 + (byteAt l (i + k)).toNat) 0

/-- The number `v` as a field of `n` bytes, the most significant byte first (R196). -/
def fieldOf (n v : Nat) : List Byte := (List.range n).map (fun k => BitVec.ofNat 8 (v / 256 ^ (n - 1 - k)))

/-! ## The checks of an enable -/

/-- What check 6 of R44 asks of one order-list entry; that an entry marked DC asks for a DC slot entry by entry is
assumption log 12. -/
def OrderPasses (e : StreamEntry) (cfg : GroupRecord) (o : Order) : Prop :=
  2 * o.h * cfg.freq.hertz < e.rate.samples ∧ (o.kind = .ac → 2 ≤ o.h) ∧
    (o.kind = .dc → 1 ≤ o.h ∧ ∃ (k : SlotIx) (v : Fin 8), cfg.slots[k] = .used .dc v)

/-- Check `n` of R44 on a group record against its stream entry. -/
def RecordPasses (e : StreamEntry) (cfg : GroupRecord) (n : Nat) : Prop :=
  match n with
  | 1 => e.valid = true
  | 2 => ∀ (k : SlotIx) (kind : Kind) (v : Fin 8), cfg.slots[k] = .used kind v → v.val < e.valueCount
  | 3 => ∃ v : Fin 8, cfg.slots[cfg.refSlot] = .used .ac v
  | 4 => ∃ (k : SlotIx) (v : Fin 8), cfg.slots[k] = .used .ac v
  | 5 => ∀ (j k : SlotIx) (v w : Fin 8), cfg.slots[j] = .used .dc v → cfg.slots[k] = .used .dc w → j = k
  | _ => ∀ o ∈ cfg.orders, OrderPasses e cfg o

/-- What is said of the place that a BAD-CONFIG answer carries: the lowest slot that fails check 2, the lowest order-list
position that fails check 6, none for the other checks (R44). -/
def FailsAt (e : StreamEntry) (cfg : GroupRecord) (n : Nat) (place : Option Nat) : Prop :=
  match n with
  | 2 => ∃ k : SlotIx, place = some k.val ∧ (∃ kind v, cfg.slots[k] = .used kind v ∧ e.valueCount ≤ v.val) ∧
      ∀ j : SlotIx, j < k → ∀ kind v, cfg.slots[j] = .used kind v → v.val < e.valueCount
  | 6 => ∃ (k : Nat) (o : Order), place = some k ∧ cfg.orders[k]? = some o ∧ ¬OrderPasses e cfg o ∧
      ∀ (j : Nat) (p : Order), j < k → cfg.orders[j]? = some p → OrderPasses e cfg p
  | _ => place = none

end Sys2Proof.Machine
end

