-- ==== Sys2Proof/Certificates/Slice0/Obligations.lean ====
section
/-! DEFINITION. The statements for the provers. Each docstring names the rules a statement rests on; where a clause is
the model's own choice it names the assumption log's entry. The statements about one command give the whole next state
where they can, so that what is left unchanged is part of them. -/

open Sys2Proof Sys2Proof.Machine

/-! ## The step -/

/-- A step runs the command at the front of the queue on the state with the queue's rest. -/
def Obligations.StepRunsTheFrontCommand : Prop :=
  ∀ (s : State) (c : Instr) (rest : List Instr), s.pending = c :: rest → step s = exec c { s with pending := rest }

/-- On an empty queue one millisecond passes (the model's choice, log entry 3). What the timer's present value makes due
is done first, as the commands of the part's own time limits do it, in the order that log entry 3 fixes: the image read
limit (R192), the store limit (R190), the pending reset (R186), the silence deadlines in rising order of stream (R31) and
the rate check (R33); a command that is not due does nothing. Then the timer and the rate interval clock count on (R33,
R192), and with nothing due nothing else changes. A part that is not released from reset stays as it is. -/
def Obligations.EmptyQueueLetsOneMillisecondPass : Prop :=
  ∀ s : State, s.pending = [] →
    let limits : List Instr :=
      [.imageReadTimeLimit, .storeTimeLimit, .resetPartTimeLimit] ++ streamIxs.map .silenceDeadline ++ [.rateIntervalEnd]
    let also (o : Host.Outcome State Fault Refusal) (c : Instr) : Host.Outcome State Fault Refusal :=
      match o with
      | .next u => exec c u
      | .fault f => .fault f
      | .refused f => .refused f
    let counted (u : State) : State :=
      { u with timer := u.timer + 1,
               rateClock := if u.rateClock + 1 < 1000 then u.rateClock + 1 else 0,
               rateDue := decide (1000 ≤ u.rateClock + 1) }
    (s.power ≠ .released → step s = .next (driveLines s)) ∧
      (s.power = .released →
        ∃ u, limits.foldl also (.next s) = .next u ∧ step s = .next (driveLines (counted u))) ∧
      (s.power = .released → ¬(s.switch = .bypass ∧ s.timer = 200) →
        ¬(s.store.busy = true ∧ s.timer - s.store.taken = 400) →
        (∀ t, s.mgmt.resetTaken = some t → s.timer - t ≠ 500) →
        (∀ i : StreamId, ¬(s.supervision[i].activity = .active ∧ s.supervision[i].deadline = some s.timer)) →
        s.rateDue = false →
          step s = .next (driveLines (counted s)))

/-- No command stops the part: each answers a next state in every state. That a command which is not due has no effect
and is no fault is the model's choice (log entry 1). -/
def Obligations.EveryCommandAnswersANextState : Prop :=
  ∀ (c : Instr) (s : State), ∃ t, exec c s = .next t

/-- The laws of the manual hold right after reset. The limit banks and the group records, with their C, that stand there
before start-up loads them are the model's choice (log entry 6), and so is what the number, start sequence and timing kind
of a FREE capture slot stand at (log entry 7). -/
def Obligations.LawsHoldAtReset : Prop :=
  QueuesBounded State.reset ∧ CapturesLawful State.reset.captures ∧ BanksRising State.reset ∧
    LevelsBounded State.reset ∧ AnalysisLawful State.reset ∧ WindowsLawful State.reset ∧ LinesLawful State.reset ∧
    BypassQuiet State.reset

/-! ## The laws of the manual -/

/-- The law of R136, with the condition of R137, after every step from every state. -/
def Obligations.LinesFollowTheirConditionsAfterEveryStep : Prop :=
  ∀ s t : State, step s = .next t → LinesLawful t

/-- The laws of R10, R36 and R149 on how much each queue holds, and the capacities of R173, R175 and R183. -/
def Obligations.QueuesStayWithinTheirCapacities : Prop :=
  ∀ s t : State, QueuesBounded s → step s = .next t → QueuesBounded t

/-- The laws of R157 and R158: a slot is FREE exactly when its hold count is 0, a FREE slot has nothing, no count
exceeds 15, and no group owns both slots. The channel of each used slot of a FILLING or HELD one holds as many values as
its sample count says, and that of an unused slot none (R156, R162). What a FREE slot's number, start sequence and timing
kind stand at is the model's choice (log entry 7). -/
def Obligations.CaptureSlotsStayLawful : Prop :=
  ∀ s t : State, CapturesLawful s.captures → step s = .next t → CapturesLawful t.captures

/-- The law of R110: in both banks of every group the nonzero thresholds of each row never decrease. The banks that a
snapshot and a good image hold rise with them (R187, R189). -/
def Obligations.LimitBanksStayRising : Prop :=
  ∀ s t : State, BanksRising s → step s = .next t → BanksRising t

/-- The law of R122: every bucket and every trip run stays between 0 and 255. -/
def Obligations.LevelCountsStayBounded : Prop :=
  ∀ s t : State, LevelsBounded s → step s = .next t → LevelsBounded t

/-- The law of R66, with what it rests on (R5, R47, R78, R79, R80, R133): at most one set of a group is ACCUMULATING, at
most one WAITING or EVALUATING, the wait list holds each group at most once, and a disabled group has both sets IDLE and
its level NORMAL.

And the law of R58 on what the sets hold: a whole TRACKING window is C accepted cycles and a HOLDOVER window C × L0
samples; no set, no window count and no capture slot exceeds 4896 (R65, R156), so that the sums of R72 are exact; the
cycle in progress stands in the buffer, never longer than an accepted one (R74); and a FILLING slot holds the samples of
its owner's open window (R162). The window counts of a group without an open window, on which the bound of the window
sample count rests there, are the model's choice (log entry 30). -/
def Obligations.AccumulatorSetsStayLawful : Prop :=
  (∀ s t : State, AnalysisLawful s → step s = .next t → AnalysisLawful t) ∧
    ∀ s t : State, AnalysisLawful s → CapturesLawful s.captures → WindowsLawful s → step s = .next t → WindowsLawful t

/-- In BYPASS both ports stay DOWN and every queue stays empty, until start-up ends (R1, R5, R20). -/
def Obligations.BypassStaysQuiet : Prop :=
  ∀ s t : State, BypassQuiet s → step s = .next t → BypassQuiet t

/-- The law of R128: a TRIPPED group stays TRIPPED until a RELEASE TRIP for it, a disable of it, a restart or a part
reset. -/
def Obligations.TrippedGroupsStayTripped : Prop :=
  ∀ (s t : State) (g : GroupId), s.switch = .inLine → s.groups[g].enabled = true →
    s.groups[g].levelUnit.level = .tripped → step s = .next t →
      t.groups[g].levelUnit.level = .tripped ∨ t.switch = .bypass ∨
        ∃ (c : Instr) (l : List Instr) (r : Request) (rest : List Request), s.pending = c :: l ∧
          s.mgmt.requests = r :: rest ∧
            ((c = .releaseTrip ∧ groupArg (argOf r 0) = some g ∧ latestIsTrip s.groups[g] = false) ∨
              (c = .groupDisable ∧ groupArg (argOf r 0) = some g ∧ t.groups[g].enabled = false) ∨
              c = .restartAnalysis)

/-- The law of R115: while the part is INLINE, a group's NOW bank and its generation change only together, by a commit:
NOW becomes what NEXT was, the generation increases by 1, and the flag is clear. -/
def Obligations.NowBanksChangeOnlyByCommits : Prop :=
  ∀ (s t : State) (g : GroupId), s.switch = .inLine → step s = .next t → t.switch = .inLine →
    (t.groups[g].nowBank = s.groups[g].nowBank ∧ t.groups[g].generation = s.groups[g].generation) ∨
      (t.groups[g].nowBank = s.groups[g].nextBank ∧ t.groups[g].nextBank = s.groups[g].nextBank ∧
        t.groups[g].generation = s.groups[g].generation + 1 ∧ t.groups[g].commitPending = false)

/-- The law of R149: records are added at the tail alone and leave from the head alone, by READ EVENTS or at a part
reset, and nothing about a record in the queue changes but its lost-after mark. -/
def Obligations.EventRecordsKeepTheirOrder : Prop :=
  ∀ s t : State, step s = .next t →
    ∃ (n : Nat) (new : List EventRecord),
      t.events.records.map bareRecord = (s.events.records.map bareRecord).drop n ++ new ∧
        (n = 0 ∨ t.switch = .bypass ∨ ∃ rest, s.pending = .readEvents :: rest)

/-- The law of R10: frames leave each port in the order they arrived at the other. In one step a FIFO stays, gains one
frame at its tail, loses its head to a transmission that begins, or is emptied by a part reset. -/
def Obligations.FramesLeaveInTheirOrderOfArrival : Prop :=
  ∀ s t : State, step s = .next t →
    (t.path.forward = s.path.forward ∨ (∃ f, t.path.forward = s.path.forward ++ [f]) ∨
        (∃ f, s.path.forward = f :: t.path.forward ∧ t.path.portB.sending = some (.forwarded (departing s f))) ∨
        (t.path.forward = [] ∧ t.switch = .bypass)) ∧
      (t.path.reverse = s.path.reverse ∨ (∃ l, t.path.reverse = s.path.reverse ++ [l]) ∨
        (∃ l, s.path.reverse = l :: t.path.reverse ∧ t.path.portA.sending = some (.forwarded l)) ∨
        (t.path.reverse = [] ∧ t.switch = .bypass))

/-! ## Part reset and start-up -/

/-- POWER_ON, LOSS_OF_SUPPLY and NRESET_ASSERTION assert a part reset (R20, R191, R192); driving nRESET low on an
unpowered part changes nothing (log entry 22). What the number, start sequence and timing kind of a FREE capture slot
stand at is the model's choice (log entry 7), and so is that the commands which wait stay (log entry 28). -/
def Obligations.PowerEventsResetThePart : Prop :=
  (∀ s : State, ∃ t, exec .powerOn s = .next t ∧ IsReset s t ∧ t.power = .inReset) ∧
    (∀ s : State, ∃ t, exec .lossOfSupply s = .next t ∧ IsReset s t ∧ t.power = .unpowered) ∧
    (∀ s : State, s.power ≠ .unpowered → ∃ t, exec .nresetAssertion s = .next t ∧ IsReset s t ∧ t.power = .inReset) ∧
    (∀ s : State, s.power = .unpowered → Does .nresetAssertion s s)

/-- NRESET_RELEASE releases a part held in reset and changes nothing else (R192); of a part that is not held in reset
it changes nothing (log entry 1). -/
def Obligations.ResetReleaseBeginsStartUp : Prop :=
  ∀ s : State, (s.power = .inReset → Does .nresetRelease s { s with power := .released }) ∧
    (s.power ≠ .inReset → Does .nresetRelease s s)

/-- Start-up on a blank image, on a bad one, whose CRC disagrees with its contents, or on one not read within 200 ms,
loads the defaults of R21, R41, R121, R106, R38 and R180 and ends INLINE with the defaulted flag set and nSUPV
asserted (R192, R194, R195). Where no start-up is under way neither command does anything, and nor does the time limit
before its 200 ms (log entry 1); that a rate check which has fallen due is withdrawn, `rateDue` clear, is the model's
reading (log entry 24). -/
def Obligations.StartUpLoadsTheDefaults : Prop :=
  (∀ s : State, ¬(s.power = .released ∧ s.switch = .bypass) →
      Does .imageRead s s ∧ Does .imageReadTimeLimit s s) ∧
  (∀ s : State, s.timer ≠ 200 → Does .imageReadTimeLimit s s) ∧
  ∀ (s : State) (c : Instr), s.power = .released → s.switch = .bypass →
    ((c = .imageRead ∧ ∀ x, s.store.image ≠ .written x (imageCrc x)) ∨ (c = .imageReadTimeLimit ∧ s.timer = 200)) →
      ∃ t, exec c s = .next t ∧ t.switch = .inLine ∧ t.store.defaulted = true ∧ t.lines.supv = true ∧
        t.activeAddress = s.ident.factory ∧ t.pendingAddress = s.ident.factory ∧
        t.settings = { high := 40, low := 24, starvationLimit := 32 } ∧
        (∀ i : StreamId, t.streams[i] =
          { valid := false, matchId := 0, ignoreMask := 0, rate := .r4800, valueCount := 1, byteOrder := .big,
            annexMode := .none, annexGroup := 0, silence := 10 }) ∧
        (∀ g : GroupId, t.groups[g] =
          { s.groups[g] with
              config :=
                { stream := 0, freq := .f50, cycles := 10, slots := Vector.replicate 4 .unused, refSlot := 0,
                  deadband := 0, fundFloor := 0, dcFloor := 0, orders := [], gapLimit := 4, heldLimit := 0, bHi := 6,
                  bLo := 2, tripWeight := 2, leakPeriod := 20, tripPersistence := 3, reportEnable := false,
                  alertLine := false, tripLine := false, tripFunction := false, autoCapture := false,
                  enableAtStart := false }
              nowBank := Vector.replicate 19 { notice := 0, alert := 0, trip := 0 }
              nextBank := Vector.replicate 19 { notice := 0, alert := 0, trip := 0 }
              generation := 0 }) ∧
        t.rateClock = 0 ∧ t.rateDue = false ∧
        t = { s with switch := t.switch, streams := t.streams, groups := t.groups, settings := t.settings,
                     activeAddress := t.activeAddress, pendingAddress := t.pendingAddress, rateClock := t.rateClock,
                     rateDue := t.rateDue, store := { s.store with defaulted := true }, lines := t.lines }

/-- Start-up on a good image, whose CRC agrees with its contents (R187, R192), loads its contents, enables exactly the
groups whose enable-at-start is on and that pass validation (the checks of R44, which GroupEnableStartsAnalysis
spells), all in NO-SIGNAL with the analysis state of R45, with GROUP ENABLED and TIMING for each in order of group
number, and ends INLINE with the defaulted flag clear (R193, R195); a group that is not enabled keeps all but what is
loaded. That a rate check which has fallen due is withdrawn is the model's reading (log entry 24). -/
def Obligations.StartUpLoadsAGoodImage : Prop :=
  ∀ (s : State) (x : ImageContents), s.power = .released → s.switch = .bypass →
    s.store.image = .written x (imageCrc x) →
    (∀ i : StreamId, s.supervision[i].activity = .unseen) →
    (∀ g : GroupId, s.groups[g].tracker.timing = .disabled) →
      let starts (g : GroupId) : Bool :=
        x.records[g].enableAtStart && decide (validate x.streams[x.records[g].stream] x.records[g] = none)
      let loaded (g : GroupId) : Group :=
        { s.groups[g] with config := x.records[g], nowBank := x.nowBanks[g], nextBank := x.nowBanks[g],
                           generation := 0 }
      ∃ groups : Vector Group 8,
        Does .imageRead s
          { s with switch := .inLine, streams := x.streams, groups := groups, settings := x.settings,
                   activeAddress := x.address, pendingAddress := x.address, rateClock := 0, rateDue := false,
                   store := { s.store with defaulted := false },
                   events := groupIxs.foldl (fun q g =>
                     if starts g then
                       createEvent s.timer (.timing g .noSignal) none (createEvent s.timer (.groupEnabled g) none q)
                     else q) s.events } ∧
        ∀ g : GroupId,
          (starts g = false → groups[g] = loaded g) ∧
          (starts g = true →
            groups[g] =
              { loaded g with
                  tracker :=
                    { timing := .noSignal, armed := false, cycleCount := none, lockCount := 0, acqCount := 0,
                      winCycles := 0, winSamples := 0, expected := none, last := Vector.replicate 4 0 }
                  sets := groups[g].sets
                  buffer := []
                  counter := 0
                  result := none
                  first := none
                  nextRows := 0
                  levelUnit := { bucket := 0, leakCounter := 0, run := 0, level := .normal } } ∧
            ∀ i : SetIx, groups[g].sets[i] =
              { s.groups[g].sets[i] with
                  state := .idle, m := 0, held := 0, clamped := 0, suspect := false,
                  sums := Vector.replicate 4 SlotSums.zero })

/-! ## The link and the frame path -/

/-- A link comes up only at a part that is INLINE; the port becomes UP and nothing else changes (R1, R5, R6). -/
def Obligations.LinksComeUpOnlyInLine : Prop :=
  ∀ s : State,
    (s.switch = .inLine →
      Does (.linkEstablished .a) s { s with path := { s.path with portA := { s.path.portA with link := .up } } } ∧
        Does (.linkEstablished .b) s { s with path := { s.path with portB := { s.path.portB with link := .up } } }) ∧
      (s.switch = .bypass → ∀ p : Port, Does (.linkEstablished p) s s)

/-- An UP port that loses its link is DOWN, and the frame under transmission is abandoned: a forwarded frame sets the
forward-drop flag, an answer or a report is lost without a flag, and the answer that accepted RESET PART asserts the
part reset (R1, R3, R186). A DOWN port has no link to lose, and that LINK_LOSS there has no effect is the model's choice
(log entry 1). That a reverse-path frame counts as forwarded is the model's reading (log entry 10). What the number,
start sequence and timing kind of a FREE capture slot stand at is the model's choice (log entry 7), and so is that the
commands which wait stay through the part reset (log entry 28). -/
def Obligations.LinkLossAbandonsTheFrameUnderWay : Prop :=
  ∀ (s : State) (p : Port),
    ((portOf s p).link = .down → Does (.linkLoss p) s s) ∧
      ((portOf s p).link = .up →
        ((portOf s p).sending = none → Does (.linkLoss p) s (setPort p { link := .down, sending := none } s)) ∧
        (∀ l, (portOf s p).sending = some (.forwarded l) →
          let s1 := setPort p { link := .down, sending := none } s
          Does (.linkLoss p) s { s1 with path := { s1.path with forwardDrop := true } }) ∧
        (∀ r, (portOf s p).sending = some (.report r) →
          Does (.linkLoss p) s (setPort p { link := .down, sending := none } s)) ∧
        (∀ a, (portOf s p).sending = some (.answer a) → a.acceptsReset = false →
          Does (.linkLoss p) s (setPort p { link := .down, sending := none } s)) ∧
        (∀ a, (portOf s p).sending = some (.answer a) → a.acceptsReset = true →
          ∃ t, exec (.linkLoss p) s = .next t ∧ IsReset s t ∧ t.power = .released))

/-- A frame that fails a condition of R2, or reaches a port that is DOWN or a part in BYPASS, leaves no trace. The check
sequence is PRESUMED to be that of IEEE 802.3 (log entry 9). -/
def Obligations.FramesThatDoNotArriveLeaveNoTrace : Prop :=
  ∀ (s : State) (p : Port) (f : WireFrame), ¬ArrivesAt p f s → Does (.frameArrival p f) s s

/-- Every frame that arrives at Port A is offered to the Forward FIFO with its stream match, whatever its type word
(R7, R9, R10, R12); one without a match does nothing else. The match of a sample frame is the first valid entry, in order
of index, of which every bit that differs from the frame's stream ID is one that the ignore mask ignores (R24). -/
def Obligations.PortAArrivalsAreForwarded : Prop :=
  (∀ (s : State) (f : WireFrame), ArrivesAt .a f s →
    let m : Option StreamId := if typeWord f.bytes = 0xB5A0 then matchStream s (streamIdOf f.bytes) else none
    let path : FramePath :=
      if s.path.forward.length < 32 then
        { s.path with forward := s.path.forward ++ [{ bytes := f.bytes, stream := m }] }
      else { s.path with forwardDrop := true }
    (∃ t, exec (.frameArrival .a f) s = .next t ∧
      t = { s with path := path, supervision := t.supervision, queue := t.queue, events := t.events,
                   lines := t.lines }) ∧
    (m = none → Does (.frameArrival .a f) s { s with path := path })) ∧
  ∀ (s : State) (id : BitVec 16),
    let passes (i : StreamId) : Prop :=
      s.streams[i].valid = true ∧
        ∀ b : Nat, b < 16 → id.getLsbD b ≠ s.streams[i].matchId.getLsbD b → s.streams[i].ignoreMask.getLsbD b = true
    (∀ i : StreamId, matchStream s id = some i ↔ passes i ∧ ∀ j : StreamId, j < i → ¬passes j) ∧
      (matchStream s id = none ↔ ∀ i : StreamId, ¬passes i)

/-- What the Stream Supervisor makes of a frame admitted under entry `i` (R27 to R31): out of range, waking its stream,
taken in order or ahead, or late; and the entry that a taken frame offers to the Analysis Queue when an enabled group
names the stream: V values read in the entry's byte order and marked (R30, R34, R35), added at the tail of a queue of
fewer than 48, which is suspended from the high watermark on, and discarded by a full one (R36, R39). The distance is
that of R29, modulo S; the fields stand where R198 puts them. -/
def Obligations.AdmittedFramesAreSupervised : Prop :=
  (∀ l : List Byte,
    (typeWord l).toNat = numberAt l 12 2 ∧ (streamIdOf l).toNat = numberAt l 14 2 ∧ seqOf l = numberAt l 16 2 ∧
      syncOf l = (byteAt l 18).getLsbD 0) ∧
  ∀ (s : State) (f : WireFrame) (i : StreamId), ArrivesAt .a f s → typeWord f.bytes = 0xB5A0 →
    matchStream s (streamIdOf f.bytes) = some i →
    let r : Supervision := s.supervision[i]
    let size : Nat := s.streams[i].rate.samples
    let q : Nat := seqOf f.bytes
    let late : Prop := (size / 2 : Nat) < ((q : Int) - r.expected) % size
    let deadline : Option (BitVec 32) := some (s.timer + BitVec.ofNat 32 s.streams[i].silence)
    let raw (n : Nat) : Int :=
      let b (k : Nat) : Int := (byteAt f.bytes (20 + 4 * n + k)).toNat
      if s.streams[i].byteOrder = .big then ((b 0 * 256 + b 1) * 256 + b 2) * 256 + b 3
      else ((b 3 * 256 + b 2) * 256 + b 1) * 256 + b 0
    let value (n : Nat) : MarkedValue :=
      let v : Int := if raw n < 2147483648 then raw n else raw n - 4294967296
      if (byteAt f.bytes 19).getLsbD n = false then { value := 0, mark := .invalid }
      else if 8388607 < v then { value := 8388607, mark := .clamped }
      else if v < -8388607 then { value := -8388607, mark := .clamped }
      else { value := v, mark := .plain }
    let entry : QueueEntry :=
      { stream := i, seq := q, values := (List.range s.streams[i].valueCount).map value, suspect := r.suspect,
        silenceFollows := false }
    let queued : AnalysisQueue :=
      if (∃ g : GroupId, s.groups[g].enabled = true ∧ s.groups[g].config.stream = i) ∧ s.queue.entries.length < 48 then
        { s.queue with
            entries := s.queue.entries ++ [entry]
            suspended := s.queue.suspended || decide (s.settings.high ≤ s.queue.entries.length + 1) }
      else s.queue
    ∃ t, exec (.frameArrival .a f) s = .next t ∧ (∀ j : StreamId, j ≠ i → t.supervision[j] = s.supervision[j]) ∧
      t = { s with path := t.path, supervision := t.supervision, queue := t.queue, events := t.events,
                   lines := t.lines } ∧
      (size ≤ q →
        t.supervision[i] = { r with rangeMark := true,
                                    deadline := if r.activity = .active then deadline else r.deadline } ∧
          t.queue = s.queue ∧
          t.events = if r.rangeMark then s.events else createEvent s.timer (.sequenceRange i) none s.events) ∧
      (q < size → r.activity ≠ .active →
        t.supervision[i] = { r with activity := .active, expected := (q + 1) % size, deadline := deadline,
                                    count := min 65535 (r.count + 1), fullInterval := false, rangeMark := false,
                                    lastSync := syncOf f.bytes } ∧
          t.queue = queued ∧ t.events = createEvent s.timer (.streamActive i) none s.events) ∧
      (q < size → r.activity = .active → ¬late →
        t.supervision[i] = { r with expected := (q + 1) % size, deadline := deadline,
                                    count := min 65535 (r.count + 1), lastSync := syncOf f.bytes } ∧
          t.queue = queued ∧ t.events = s.events) ∧
      (q < size → r.activity = .active → late →
        t.supervision[i] = { r with deadline := deadline } ∧ t.queue = s.queue ∧ t.events = s.events)

/-- A frame that arrives at Port B is a request if its type word is 0xB5A1 and its destination the active station
address, and goes to the request queue, which drops it silently when it holds 4 (R8, R173); every other frame goes to
the Reverse FIFO, which drops at its tail with the forward-drop flag set (R11, R12). A request's fields stand where
R199 puts them: the destination and the source in bytes 0 and 6, the type word in byte 12, the tag in 14, the code in 16,
the argument length in 17 and the arguments from 19 on. -/
def Obligations.PortBArrivalsAreSorted : Prop :=
  (∀ l : List Byte,
    let r := requestOf l
    (destination l).toNat = numberAt l 0 6 ∧ r.src.toNat = numberAt l 6 6 ∧ (typeWord l).toNat = numberAt l 12 2 ∧
      r.tag.toNat = numberAt l 14 2 ∧ r.code = byteAt l 16 ∧ r.argLen = numberAt l 17 2 ∧ r.body = l.drop 19 ∧
      ∀ i : Nat, argOf r i = (byteAt l (19 + i)).toNat) ∧
  ∀ (s : State) (f : WireFrame), ArrivesAt .b f s →
    (typeWord f.bytes = 0xB5A1 → destination f.bytes = s.activeAddress →
      (s.mgmt.requests.length < 4 →
        Does (.frameArrival .b f) s
          { s with mgmt := { s.mgmt with requests := s.mgmt.requests ++ [requestOf f.bytes] } }) ∧
      (4 ≤ s.mgmt.requests.length → Does (.frameArrival .b f) s s)) ∧
    (¬(typeWord f.bytes = 0xB5A1 ∧ destination f.bytes = s.activeAddress) →
      (s.path.reverse.length < 16 →
        Does (.frameArrival .b f) s { s with path := { s.path with reverse := s.path.reverse ++ [f.bytes] } }) ∧
      (16 ≤ s.path.reverse.length →
        Does (.frameArrival .b f) s { s with path := { s.path with forwardDrop := true } }))

/-- Port A, UP and free, begins to send the head frame of the Reverse FIFO, unchanged; otherwise nothing begins
(R11). -/
def Obligations.PortASendsTheHeadOfTheReverseFifo : Prop :=
  ∀ s : State,
    (∀ l rest, s.path.reverse = l :: rest → s.path.portA = { link := .up, sending := none } →
      Does .portATransmissionStart s
        { s with path := { s.path with reverse := rest,
                                       portA := { link := .up, sending := some (.forwarded l) } } }) ∧
      (s.path.reverse = [] → Does .portATransmissionStart s s) ∧
      (s.path.portA.link = .down → Does .portATransmissionStart s s) ∧
      (s.path.portA.sending ≠ none → Does .portATransmissionStart s s)

/-- The Transmit Arbiter's choice and the starvation count (R17, R18), the annex of a chosen Forward FIFO frame (R14,
R16) with its eight bytes (R15, R198), and no choice while Port B is DOWN or busy or nothing waits (R17, R19). -/
def Obligations.TheArbiterChoosesAndCounts : Prop :=
  ∀ s : State,
    let waits : Prop := s.mgmt.answers ≠ [] ∨ s.mgmt.reports ≠ []
    let passed : Prop := s.path.forward = [] ∨ s.settings.starvationLimit ≤ s.path.starvation
    let sends (t : Transmission) (n : Nat) : FramePath :=
      { s.path with portB := { link := .up, sending := some t }, starvation := n }
    (s.path.portB.link = .down ∨ s.path.portB.sending ≠ none → Does .transmitArbiterChoice s s) ∧
    (s.path.portB = { link := .up, sending := none } →
      (∀ f rest, s.path.forward = f :: rest → (s.path.starvation < s.settings.starvationLimit ∨ ¬waits) →
        Does .transmitArbiterChoice s
          { s with path :=
              { sends (.forwarded (departing s f)) (if waits then min 255 (s.path.starvation + 1) else 0) with
                forward := rest } }) ∧
      (∀ a rest, passed → s.mgmt.answers = a :: rest →
        Does .transmitArbiterChoice s
          { s with path := sends (.answer a) 0, mgmt := { s.mgmt with answers := rest } }) ∧
      (∀ r rest, passed → s.mgmt.answers = [] → s.mgmt.reports = r :: rest →
        Does .transmitArbiterChoice s
          { s with path := sends (.report r) 0, mgmt := { s.mgmt with reports := rest } }) ∧
      (s.path.forward = [] → ¬waits → Does .transmitArbiterChoice s s)) ∧
    (∀ g : GroupId,
      let level : Byte := match s.groups[g].levelUnit.level with
        | .normal => 0
        | .alarm => 1
        | .tripped => 2
      let timing : Byte := match s.groups[g].tracker.timing with
        | .disabled => 0
        | .noSignal => 1
        | .acquiring => 2
        | .tracking => 3
        | .holdover => 4
        | .aligning => 5
      (s.groups[g].result = none →
        annexOf s g = [0xA7, BitVec.ofNat 8 g.val, level, 0xFF, timing, 0, 0, s.groups[g].generation]) ∧
      ∀ r, s.groups[g].result = some r →
        let w : Byte := match r.level with
          | .clear => 0
          | .notice => 1
          | .alert => 2
          | .trip => 3
        annexOf s g =
          [0xA7, BitVec.ofNat 8 g.val, level, w, timing,
           if r.degHoldover || r.degHeld || r.degClamped || r.degSuspect then 1 else 0, r.number.setWidth 8,
           s.groups[g].generation]) ∧
    ∀ f : ForwardFrame,
      (∀ i : StreamId, f.stream = some i → s.streams[i].valid = true → s.streams[i].annexMode = .append →
        s.groups[s.streams[i].annexGroup].enabled = true → f.bytes.length + 4 ≤ 1510 →
          departing s f = f.bytes ++ annexOf s s.streams[i].annexGroup) ∧
      ((∀ i : StreamId, f.stream = some i → s.streams[i].valid = false ∨ s.streams[i].annexMode = .none ∨
          s.groups[s.streams[i].annexGroup].enabled = false ∨ 1510 < f.bytes.length + 4) →
        departing s f = f.bytes)

/-- A transmission that completes frees its port (R3); the completion of the answer that accepted RESET PART asserts the
part reset (R19, R186). That a completion with nothing under transmission changes nothing is the model's choice (log
entry 1).

What a port sends: a forwarded frame as it departs; an answer or a window report with the header, the summary and the
payload of R199, extended with bytes of 0 to 60 (R196), a report with code 0x80, tag 0 and status DONE (R197) and the
payload of R200; each with its check sequence, PRESUMED to be that of IEEE 802.3 (log entry 9). The statuses are coded
as R202 says, and the payloads of a refusal, of BAD-CONFIG and of READ RESULT have the bytes of R200 and R202; that the
answer to CLEAR FIRST carries the 23 bytes after the result record, and a limit write's clamped rows three bytes, is
DEDUCED, and payloads that chapter 12 does not lay out are free (log entry 13). That a record without a timing kind,
which no run has, shows a 0 there, and what the number, start sequence and timing kind of a FREE capture slot stand at, is
the model's choice (log entry 7), and so is that the commands which wait stay through the part reset (log entry 28). -/
def Obligations.TransmissionCompletionFreesThePort : Prop :=
  (let frame (dst src : Addr) (tag : BitVec 16) (code : Byte) (status : Status) (m : Summary) (p : List Byte) :
      List Byte :=
    let store : Nat := match m.store with
      | .idle => 0
      | .busy => 1
      | .fault => 2
      | .faultBusy => 3
    let flags : Nat :=
      (if m.defaulted then 1 else 0) + (if m.forwardDrop then 2 else 0) + (if m.reportSkipped then 4 else 0)
    let l := fieldOf 6 dst.toNat ++ fieldOf 6 src.toNat ++ fieldOf 2 0xB5A1 ++ fieldOf 2 tag.toNat ++ [code] ++
      fieldOf 1 (statusCode status) ++ [m.tripped, m.alarmed] ++ fieldOf 1 m.eventsPending ++ fieldOf 1 store ++
      fieldOf 1 flags ++ fieldOf 2 p.length ++ p
    l ++ List.replicate (60 - l.length) 0
  let timing (t : Timing) : Nat := match t with
    | .disabled => 0
    | .noSignal => 1
    | .acquiring => 2
    | .tracking => 3
    | .holdover => 4
    | .aligning => 5
  let level (l : Level) : Nat := match l with
    | .normal => 0
    | .alarm => 1
    | .tripped => 2
  let kind (k : WindowKind) : Byte := match k with
    | .unset => 0
    | .tracking => 3
    | .holdover => 4
  let cell (x : Cell) : List Byte := match x with
    | .absent => [0x00, 0, 0]
    | .notEvaluated => [0x01, 0, 0]
    | .value v l => fieldOf 1 (0x10 + l.rank) ++ fieldOf 2 v
  let record (r : ResultRecord) : List Byte :=
    let marks : Nat := (if r.degHoldover then 1 else 0) + (if r.degHeld then 2 else 0) +
      (if r.degClamped then 4 else 0) + (if r.degSuspect then 8 else 0) + (if r.idle then 16 else 0)
    [1] ++ fieldOf 4 r.number.toNat ++ fieldOf 2 r.startSeq ++ [kind r.kind] ++
      fieldOf 1 r.cycles ++ fieldOf 2 r.m ++ fieldOf 4 r.frequency ++ fieldOf 2 r.held ++ fieldOf 2 r.clamped ++
      fieldOf 1 marks ++ [r.generation] ++ fieldOf 1 r.level.rank ++ r.fundamentals.toList.flatMap (fieldOf 4) ++
      fieldOf 4 (r.mean % 4294967296).toNat ++ fieldOf 4 r.rms ++ fieldOf 4 r.spread ++ r.cells.toList.flatMap cell
  let first (o : Option FirstRecord) (rows : BitVec 19) : List Byte := match o with
    | none => List.replicate 20 0 ++ fieldOf 3 rows.toNat
    | some f =>
      [1] ++ fieldOf 4 f.number.toNat ++ fieldOf 1 f.row ++ fieldOf 1 f.slot.val ++ fieldOf 2 f.value ++
        fieldOf 2 f.threshold ++ fieldOf 1 f.level.rank ++ [f.generation, if f.degraded then 1 else 0] ++
        fieldOf 2 f.repeats ++ fieldOf 4 f.latest.toNat ++ fieldOf 3 rows.toNat
  (∀ t : Transmission, (wireFrame t).check = frameCheck (wireFrame t).bytes) ∧
  (∀ l : List Byte, (wireFrame (.forwarded l)).bytes = l) ∧
  (∀ a : Answer,
    (wireFrame (.answer a)).bytes = frame a.dst a.src a.tag a.code a.status a.summary (payloadBytes a.payload)) ∧
  (∀ r : WindowReport,
    let p := fieldOf 2 r.number.toNat ++ fieldOf 1 r.group.val ++
      fieldOf 1 (level r.levelUnit.level) ++
      fieldOf 1 r.levelUnit.bucket ++ fieldOf 1 r.levelUnit.leakCounter ++ fieldOf 1 r.levelUnit.run ++
      fieldOf 1 (timing r.timing) ++ [r.generation, if r.firstPresent then 1 else 0] ++ record r.result
    (wireFrame (.report r)).bytes = frame r.dst r.src 0 0x80 .done r.summary p ∧ p.length = 288) ∧
  payloadBytes .empty = [] ∧
  (∀ (check : Nat) (place : Option Nat),
    payloadBytes (.badConfig check place) = fieldOf 1 check ++ fieldOf 1 (place.getD 0xFF)) ∧
  (∀ rows : BitVec 19, payloadBytes (.clampedRows rows) = fieldOf 3 rows.toNat) ∧
  (∀ (o : Option ResultRecord) (f : Option FirstRecord) (rows : BitVec 19),
    (payloadBytes (.result o f rows)).length = 301 ∧ payloadBytes (.first f rows) = first f rows ∧
    (o = none → payloadBytes (.result o f rows) =
      List.replicate 21 0 ++ [0xFF] ++ List.replicate 256 0 ++ first f rows) ∧
    (∀ r, o = some r → payloadBytes (.result o f rows) = record r ++ first f rows)) ∧
  ∀ x ∈ ([(.done, 0x00), (.doneClamped, 0x01), (.badLength, 0x11), (.unsupported, 0x12), (.badField, 0x14),
      (.badConfig, 0x15), (.groupActive, 0x16), (.groupInactive, 0x17), (.streamInUse, 0x18), (.commitPending, 0x19),
      (.notTripped, 0x1A), (.stillTripped, 0x1B), (.noSlot, 0x1C), (.holdLimit, 0x1D), (.notHeld, 0x1E),
      (.notReady, 0x1F), (.storeBusy, 0x20)] : List (Status × Nat)), statusCode x.1 = x.2) ∧
  ∀ (s : State) (p : Port),
    ((portOf s p).sending = none → Does (.transmissionComplete p) s s) ∧
      (∀ x, (portOf s p).sending = some x → isResetAnswer x = false →
        Does (.transmissionComplete p) s (setPort p { link := (portOf s p).link, sending := none } s)) ∧
      (∀ a, (portOf s p).sending = some (.answer a) → a.acceptsReset = true →
        ∃ t, exec (.transmissionComplete p) s = .next t ∧ IsReset s t ∧ t.power = .released)

/-! ## Streams -/

/-- When the timer reaches the deadline of an ACTIVE stream it becomes SILENT with its event, and the silence notice is
placed: at the leaving of the head entry under application, on the stream's newest queued entry, or, with no entry of
the stream queued, at once at every enabled group that names it, in order of group number (log entry 5). A notice takes
the group to NO-SIGNAL with TIMING and clears its armed mark and counts; an open window is aborted with SILENCE before
that, its capture armed again, and in HOLDOVER with no window open a waiting set becomes IDLE (R31, R32, R58, R60, R77,
R164). A deadline that is not reached is no event (log entry 1). An ARMED slot has no content: its content fields read
as 0 or unused (R156). -/
def Obligations.SilenceDeadlinesSilenceTheStream : Prop :=
  ∀ (s : State) (i : StreamId),
    (¬(s.supervision[i].activity = .active ∧ s.supervision[i].deadline = some s.timer) →
      Does (.silenceDeadline i) s s) ∧
    (s.supervision[i].activity = .active → s.supervision[i].deadline = some s.timer →
      ∃ t, exec (.silenceDeadline i) s = .next t ∧
        t.supervision[i] = { s.supervision[i] with activity := .silent, deadline := none, fullInterval := false,
                                                   rangeMark := false } ∧
        (∀ j : StreamId, j ≠ i → t.supervision[j] = s.supervision[j]) ∧
        t = { s with supervision := t.supervision, queue := t.queue, groups := t.groups, events := t.events,
                     captures := t.captures, lines := t.lines } ∧
        (let headIsNewest : Prop :=
           s.queue.served ≠ [] ∧ ∃ e l, s.queue.entries = e :: l ∧ e.stream = i ∧ ∀ x ∈ l, x.stream ≠ i
         (headIsNewest →
           t.groups = s.groups ∧ t.captures = s.captures ∧ t.queue = { s.queue with noticeAtLeave := true } ∧
             t.events = createEvent s.timer (.streamSilent i) none s.events) ∧
         ∀ (before : List QueueEntry) (e : QueueEntry) (after : List QueueEntry), ¬headIsNewest →
           s.queue.entries = before ++ e :: after → e.stream = i → (∀ x ∈ after, x.stream ≠ i) →
             t.groups = s.groups ∧ t.captures = s.captures ∧
               t.queue = { s.queue with entries := before ++ { e with silenceFollows := true } :: after } ∧
               t.events = createEvent s.timer (.streamSilent i) none s.events) ∧
        ((∀ e ∈ s.queue.entries, e.stream ≠ i) →
          let reached (g : GroupId) : Bool := s.groups[g].enabled && decide (s.groups[g].config.stream = i)
          let opened (g : GroupId) : Bool :=
            decide (s.groups[g].tracker.timing = .tracking) ||
              (decide (s.groups[g].tracker.timing = .holdover) && decide (s.groups[g].tracker.winSamples ≠ 0))
          let aborted (g : GroupId) : Option SetIx :=
            if reached g && opened g then setIn .accumulating s.groups[g].sets else none
          let notice (q : EventQueue) (g : GroupId) : EventQueue :=
            if reached g then
              let q1 := match aborted g with
                | some k =>
                  createEvent s.timer (.windowAborted g .silence) (some (s.groups[g].sets[k].number.setWidth 16)) q
                | none => q
              if s.groups[g].tracker.timing = .noSignal then q1 else createEvent s.timer (.timing g .noSignal) none q1
            else q
          t.queue = s.queue ∧
          t.events = groupIxs.foldl notice (createEvent s.timer (.streamSilent i) none s.events) ∧
          (CapturesLawful s.captures →
            t.captures.marker = s.captures.marker ∧
            ∀ j : CaptureIx,
              ((∃ g : GroupId, s.captures.slots[j].owner = some g ∧ (aborted g).isSome = true) →
                s.captures.slots[j].state = .filling →
                t.captures.slots[j] =
                  { CaptureSlot.free with
                      state := .armed, owner := s.captures.slots[j].owner, holds := s.captures.slots[j].holds,
                      auto := s.captures.slots[j].auto, trigger := s.captures.slots[j].trigger }) ∧
              ((∀ g : GroupId, s.captures.slots[j].owner = some g → aborted g = none) ∨
                s.captures.slots[j].state ≠ .filling → t.captures.slots[j] = s.captures.slots[j])) ∧
          ∀ g : GroupId,
            (reached g = false → t.groups[g] = s.groups[g]) ∧
            (reached g = true →
              let quiet : Group :=
                { s.groups[g] with
                    tracker :=
                      { s.groups[g].tracker with
                          timing := .noSignal, armed := false, cycleCount := none, lockCount := 0, winCycles := 0,
                          winSamples := 0, expected := none } }
              let cleared (k : SetIx) : Vector AccSet 2 :=
                upd s.groups[g].sets k
                  { s.groups[g].sets[k] with
                      state := .idle, m := 0, held := 0, clamped := 0, suspect := false,
                      sums := Vector.replicate 4 SlotSums.zero }
              let waits (k : SetIx) : Prop :=
                s.groups[g].tracker.timing = .holdover ∧ opened g = false ∧
                  setIn .accumulating s.groups[g].sets = some k
              (∀ k, aborted g = some k →
                t.groups[g] =
                  { quiet with counter := s.groups[g].counter + 1, buffer := [], sets := cleared k }) ∧
              (∀ k, waits k → t.groups[g] = { quiet with sets := cleared k }) ∧
              (aborted g = none → (∀ k, ¬waits k) → t.groups[g] = quiet))))

/-- The rate check: a stream that is ACTIVE with its full-interval mark set is judged by |count − S| against S/64, any
other keeps its rate status; every count returns to 0 and every mark follows the activity (R33). RATE SUSPECT or RATE OK
is raised for each stream whose status changes and for no other, in rising order of stream, which is the model's choice
(log entry 5). Without an interval that has ended the command does nothing (log entry 1). -/
def Obligations.RateChecksJudgeEveryStream : Prop :=
  ∀ s : State,
    (s.rateDue = false → Does .rateIntervalEnd s s) ∧
    (s.rateDue = true →
      ∃ t, exec .rateIntervalEnd s = .next t ∧
        t = { s with rateDue := false, supervision := t.supervision, events := t.events, lines := t.lines } ∧
        let status (i : StreamId) : Bool :=
          let r : Supervision := s.supervision[i]
          let size : Nat := s.streams[i].rate.samples
          if r.activity = .active ∧ r.fullInterval = true then
            decide (size / 64 < r.count - size ∨ size / 64 < size - r.count)
          else r.suspect
        t.events = streamIxs.foldl (fun q i =>
          if status i = s.supervision[i].suspect then q
          else createEvent s.timer (if status i then .rateSuspect i else .rateOk i) none q) s.events ∧
        ∀ i : StreamId,
          t.supervision[i] =
            { s.supervision[i] with count := 0, fullInterval := decide (s.supervision[i].activity = .active),
                                    suspect := status i })

/-! ## Windows and evaluation -/

/-- What APPLY_ENTRY does at a group: nothing on an empty queue, or at a group that the head entry is not to reach while
it has still to reach another; the removal of a head entry that no enabled group names; the leaving of one that every
group naming its stream has already had; and a pass, after which E_g is q + 1 modulo S and every other group is as it was
(but for the engine's taking of a closed window); an entry that has reached every group leaves, with the silence notice
that follows it (R32, R37, R49, R80), and the queue that it leaves is RUNNING at the low watermark or below (R39). That an
entry leaves in the same act as its last pass is the model's choice (log entry 15).

Of the pass itself: the samples that a group forms, with their marks, and the slots' last values (R50); the return of
signal (R60), the held samples of a gap up to G_max, in order before the real one (R61, R62), and what a gap above it does
in each timing state (R63); and how a sample moves the armed mark, the cycle count and the lock count (R51, R52). That an
accepted cycle raises the lock count in every timing state, TRACKING included, is the model's reading (DEDUCED, log entry
21). That the window counts are 0 after a loss is the model's choice (log entry 30), and so is that the acquisition count
rises in ACQUIRING alone and keeps its value elsewhere (log entry 34). The other three statements about passes say what a
sample does in each timing state. -/
def Obligations.ApplyEntryPassesTheHeadEntry : Prop :=
  (∀ (s : State) (g : GroupId),
    (s.queue.entries = [] → Does (.applyEntry g) s s) ∧
    (∀ e rest, s.queue.entries = e :: rest →
      let names (h : GroupId) : Prop := s.groups[h].enabled = true ∧ s.groups[h].config.stream = e.stream
      let left : AnalysisQueue :=
        { entries := rest, served := [], noticeAtLeave := false,
          suspended := if rest.length ≤ s.settings.low then false else s.queue.suspended }
      (∀ h : GroupId, unserved s e h = true ↔ names h ∧ h ∉ s.queue.served) ∧
      ((∀ h : GroupId, ¬names h) → Does (.applyEntry g) s { s with queue := left }) ∧
      (unserved s e g = false → (∃ h : GroupId, unserved s e h = true) → Does (.applyEntry g) s s) ∧
      ((∀ h : GroupId, unserved s e h = false) →
        (e.silenceFollows = false → s.queue.noticeAtLeave = false →
          Does (.applyEntry g) s { s with queue := left }) ∧
        (e.silenceFollows = true ∨ s.queue.noticeAtLeave = true →
          ∃ t, exec (.applyEntry g) s = .next t ∧
            t = { s with queue := left, groups := t.groups, events := t.events, captures := t.captures,
                         lines := t.lines } ∧
            ∀ h : GroupId,
              (names h → t.groups[h].tracker.timing = .noSignal ∧ t.groups[h].tracker.expected = none) ∧
              (¬names h → t.groups[h] = s.groups[h]))) ∧
      (unserved s e g = true →
        ∃ t, exec (.applyEntry g) s = .next t ∧
          t = { s with queue := t.queue, groups := t.groups, events := t.events, captures := t.captures,
                       engine := t.engine, waitList := t.waitList, lines := t.lines } ∧
          ((∃ h : GroupId, h ≠ g ∧ unserved s e h = true) →
            t.queue = { s.queue with served := s.queue.served ++ [g] } ∧
            t.groups[g].tracker.expected = some ((e.seq + 1) % (contextOf s g).rate.samples) ∧
            ∀ h : GroupId, h ≠ g → t.groups[h] = s.groups[h] ∨ t.groups[h] = beginEvaluation s.groups[h]) ∧
          ((∀ h : GroupId, h ≠ g → unserved s e h = false) →
            t.queue = left ∧
            (e.silenceFollows = false → s.queue.noticeAtLeave = false →
              t.groups[g].tracker.expected = some ((e.seq + 1) % (contextOf s g).rate.samples) ∧
              ∀ h : GroupId, h ≠ g → t.groups[h] = s.groups[h] ∨ t.groups[h] = beginEvaluation s.groups[h]) ∧
            (e.silenceFollows = true ∨ s.queue.noticeAtLeave = true →
              ∀ h : GroupId, names h →
                t.groups[h].tracker.timing = .noSignal ∧ t.groups[h].tracker.expected = none))))) ∧
  (∀ (s : State) (g : GroupId) (e : QueueEntry) (rest : List QueueEntry), s.queue.entries = e :: rest →
    unserved s e g = true →
      let w := passEntry (contextOf s g) e (viewGroup s g)
      let passed : State :=
        { s with groups := upd s.groups g w.grp, events := w.events, captures := w.captures, waitList := w.waitList,
                 queue := { s.queue with served := s.queue.served ++ [g] } }
      Does (.applyEntry g) s (leaveIfDone e (passGroup e g s)) ∧
      (∀ u : State, u.queue.entries = e :: rest →
        ((∃ h : GroupId, unserved u e h = true) → leaveIfDone e u = u) ∧
        ((∀ h : GroupId, unserved u e h = false) → e.silenceFollows = false → u.queue.noticeAtLeave = false →
          leaveIfDone e u =
            { u with queue :=
                { entries := rest, served := [], noticeAtLeave := false,
                  suspended := if rest.length ≤ u.settings.low then false else u.queue.suspended } })) ∧
      (s.engine ≠ none ∨ w.waitList = [] → passGroup e g s = passed) ∧
      ∀ h l, s.engine = none → w.waitList = h :: l →
        passGroup e g s =
          { passed with engine := some h, waitList := l,
                        groups := upd passed.groups h (beginEvaluation passed.groups[h]) }) ∧
  (∀ (c : GroupContext) (e : QueueEntry) (v : GroupView),
    let t := v.grp.tracker
    let size : Nat := c.rate.samples
    let gap : Nat := match t.expected with
      | none => 0
      | some x => (((e.seq : Int) - x) % size).toNat
    let start : GroupView :=
      if t.timing = .noSignal then
        { v with
            grp := { v.grp with
              tracker :=
                { t with timing := .acquiring, armed := false, cycleCount := none, lockCount := 0, acqCount := 0,
                         winCycles := 0, winSamples := 0 } }
            events := createEvent c.stamp (.timing c.group .acquiring) none v.events }
      else v
    let held (u : GroupView) (n : Nat) : GroupView := handleSample c n (heldSample e u.grp) u
    let finished (u : GroupView) : GroupView :=
      let y := handleSample c e.seq (realSample e u.grp)
        { u with grp := { u.grp with tracker := { u.grp.tracker with last := lastAfter e u.grp } } }
      { y with grp := { y.grp with tracker := { y.grp.tracker with expected := some ((e.seq + 1) % size) } } }
    let w := passEntry c e v
    (gap ≤ v.grp.config.gapLimit →
      w = finished ((List.range gap).foldl (fun u k => held u ((t.expected.getD e.seq + k) % size)) start)) ∧
    (v.grp.config.gapLimit < gap → w = finished (largeGap c start)) ∧
    w.grp =
      { v.grp with
          tracker := w.grp.tracker, sets := w.grp.sets, buffer := w.grp.buffer, counter := w.grp.counter,
          nowBank := w.grp.nowBank, generation := w.grp.generation, commitPending := w.grp.commitPending } ∧
    ∀ k : SlotIx, w.grp.tracker.last[k] = match v.grp.config.slots[k] with
      | .unused => t.last[k]
      | .used _ i => if (entryValue e i).mark = .invalid then t.last[k] else (entryValue e i).value) ∧
  (∀ (e : QueueEntry) (g : Group),
    let marked (m : Mark) : Prop :=
      ∃ (k : SlotIx) (kind : Kind) (i : Fin 8), g.config.slots[k] = .used kind i ∧ (entryValue e i).mark = m
    ((∀ k : SlotIx, (realSample e g).vals[k] = match g.config.slots[k] with
        | .unused => 0
        | .used _ i => if (entryValue e i).mark = .invalid then g.tracker.last[k] else (entryValue e i).value) ∧
      ((realSample e g).held = true ↔ marked .invalid) ∧ ((realSample e g).clamped = true ↔ marked .clamped) ∧
      (realSample e g).suspect = e.suspect) ∧
    (∀ k : SlotIx, (heldSample e g).vals[k] = if g.config.slots[k] = .unused then 0 else g.tracker.last[k]) ∧
    (heldSample e g).held = true ∧ (heldSample e g).clamped = false ∧ (heldSample e g).suspect = e.suspect) ∧
  (∀ (c : GroupContext) (v : GroupView),
    let t := v.grp.tracker
    let lost (t : Tracker) : Tracker := { t with armed := false, cycleCount := none, lockCount := 0 }
    let acquiring (u : GroupView) : GroupView :=
      { u with
          grp := { u.grp with
            tracker := { lost t with timing := .acquiring, acqCount := 0, winCycles := 0, winSamples := 0 } }
          events := createEvent c.stamp (.timing c.group .acquiring) none u.events }
    let aborted (i : SetIx) (next : SetState) : GroupView :=
      { v with
          grp := { v.grp with counter := v.grp.counter + 1, buffer := [],
                              sets := upd v.grp.sets i (clearSet next v.grp.sets[i]) }
          events := createEvent c.stamp (.windowAborted c.group .gap) (some (low16 v.grp.sets[i].number)) v.events
          captures := captureAbort c.group v.captures }
    (∀ i, t.timing = .tracking → setIn .accumulating v.grp.sets = some i →
      largeGap c v = acquiring (aborted i .idle)) ∧
    (t.timing = .aligning → largeGap c v = acquiring v) ∧
    (t.timing = .acquiring → largeGap c v = { v with grp := { v.grp with tracker := lost t } }) ∧
    (∀ i, t.timing = .holdover → t.winSamples ≠ 0 → setIn .accumulating v.grp.sets = some i →
      largeGap c v =
        { aborted i .accumulating with
            grp := { (aborted i .accumulating).grp with
              tracker := { lost t with winCycles := 0, winSamples := 0 } } }) ∧
    (t.timing = .holdover → t.winSamples = 0 →
      largeGap c v = { v with grp := { v.grp with tracker := { lost t with winCycles := 0, winSamples := 0 } } })) ∧
  ∀ (c : GroupContext) (g : Group) (x : Sample),
    let t := g.tracker
    let u := (trackSample c x g).tracker
    let armed : Bool := t.armed || decide (x.vals[g.config.refSlot] < -(g.config.deadband : Int))
    trackSample c x g = { g with tracker := u } ∧
    (∀ len, EndsAccepted c g x len →
      u = { t with armed := false, cycleCount := some 1, lockCount := min 255 (t.lockCount + 1) }) ∧
    (EndsEarly c g x → u = { t with armed := false, cycleCount := some 1, lockCount := 0 }) ∧
    (CrossesAt g x → t.cycleCount = none → u = { t with armed := false, cycleCount := some 1 }) ∧
    (EndsLate c g x → u = { t with armed := armed, cycleCount := none, lockCount := 0 }) ∧
    (∀ n, ¬CrossesAt g x → ¬EndsLate c g x → t.cycleCount = some n →
      u = { t with armed := armed, cycleCount := some (n + 1) }) ∧
    (¬CrossesAt g x → t.cycleCount = none → u = { t with armed := armed })

/-- A cycle that becomes too late at the real sample of an entry without a gap: the command is the pass of the entry
(log entry 4), and after it no cycle is in progress and the lock count is 0 (R52); in TRACKING the pass aborts the
window with TIMING LOSS and takes the group to HOLDOVER (R57, R77). Where no such pass stands next, nothing happens. That
the entry leaves in the same act, when this was its last pass, is the model's choice (log entry 15), and so is that the
acquisition count keeps its value in TRACKING and HOLDOVER (log entry 34).

What any sample does in TRACKING: with no cycle ended it joins the buffer; one that ends an accepted cycle short of the
C-th has the buffered cycle added to the set and is the first of the buffer (R56, R74); one that makes a cycle too early
or too late aborts the window with TIMING LOSS, the group goes to HOLDOVER and a FILLING capture is armed again (R57,
R77, R164). A cycle is added sample by sample at offsets from 0, and each sample adds to the sums of its slots as R70
and R71 give. That the window counts are 0 after a loss is the model's choice (log entry 30). An ARMED slot has no
content: its content fields read as 0 or unused (R156). -/
def Obligations.LateCyclesEndTracking : Prop :=
  (∀ (s : State) (g : GroupId),
    (happensNext tooLateAt g s = false → Does (.cycleTooLate g) s s) ∧
    (∀ e rest, s.queue.entries = e :: rest → unserved s e g = true →
      s.groups[g].tracker.timing ≠ .noSignal → gapOf (contextOf s g) e s.groups[g].tracker = 0 →
      isCrossing s.groups[g].tracker (refValue s.groups[g] (realSample e s.groups[g])) = false →
      s.groups[g].tracker.cycleCount = some (longestCycle (contextOf s g).rate s.groups[g].config.freq) →
        Does (.cycleTooLate g) s (leaveIfDone e (passGroup e g s)) ∧
        let w := passEntry (contextOf s g) e (viewGroup s g)
        w.grp.tracker.cycleCount = none ∧ w.grp.tracker.lockCount = 0 ∧ w.grp.levelUnit = s.groups[g].levelUnit ∧
        ∀ i, s.groups[g].tracker.timing = .tracking → setIn .accumulating s.groups[g].sets = some i →
          w.grp.tracker.timing = .holdover ∧ w.grp.buffer = [] ∧ w.grp.counter = s.groups[g].counter + 1 ∧
            w.grp.sets[i].state = .accumulating ∧ w.grp.sets[i].m = 0 ∧ w.waitList = s.waitList ∧
            w.events = createEvent s.timer (.timing g .holdover) none
              (createEvent s.timer (.windowAborted g .timingLoss) (some (low16 s.groups[g].sets[i].number)) s.events))) ∧
  (∀ (c : GroupContext) (seq : Nat) (x : Sample) (v : GroupView), v.grp.tracker.timing = .tracking →
    let u := (trackSample c x v.grp).tracker
    ((∀ len, ¬EndsAccepted c v.grp x len) → ¬EndsEarly c v.grp x → ¬EndsLate c v.grp x →
      handleSample c seq x v =
        { v with
            grp := { v.grp with
              tracker := { u with winSamples := v.grp.tracker.winSamples + 1 }, buffer := v.grp.buffer ++ [x] }
            captures := captureWrite c.group x.vals v.captures }) ∧
    (∀ len i, EndsAccepted c v.grp x len → v.grp.tracker.winCycles + 1 < v.grp.config.cycles →
      setIn .accumulating v.grp.sets = some i →
        handleSample c seq x v =
          { v with
              grp := { v.grp with
                tracker := { u with winCycles := v.grp.tracker.winCycles + 1,
                                    winSamples := v.grp.tracker.winSamples + 1 }
                sets := upd v.grp.sets i (addCycle v.grp.config len v.grp.buffer 0 v.grp.sets[i])
                buffer := [x] }
              captures := captureWrite c.group x.vals v.captures }) ∧
    (∀ i, EndsEarly c v.grp x ∨ EndsLate c v.grp x → setIn .accumulating v.grp.sets = some i →
      handleSample c seq x v =
        { v with
            grp := { v.grp with
              tracker := { u with timing := .holdover, winCycles := 0, winSamples := 0 }
              sets := upd v.grp.sets i (clearSet .accumulating v.grp.sets[i])
              buffer := []
              counter := v.grp.counter + 1 }
            events := createEvent c.stamp (.timing c.group .holdover) none
              (createEvent c.stamp (.windowAborted c.group .timingLoss) (some (low16 v.grp.sets[i].number)) v.events)
            captures := captureAbort c.group v.captures })) ∧
  (∀ (c : GroupContext) (u : Captures), OwnsOne c u →
    let fills (j : CaptureIx) : Prop := u.slots[j].owner = some c.group ∧ u.slots[j].state = .filling
    ((∀ j, ¬fills j) → captureAbort c.group u = u) ∧
    ∀ j, fills j →
      let again : CaptureSlot :=
        { CaptureSlot.free with
            state := .armed, owner := some c.group, holds := u.slots[j].holds, auto := u.slots[j].auto,
            trigger := u.slots[j].trigger }
      captureAbort c.group u = { u with slots := upd u.slots j again }) ∧
  ∀ (cfg : GroupRecord) (len : Nat) (a : AccSet),
    (∀ l : List Sample,
      addCycle cfg len l 0 a = l.zipIdx.foldl (fun b p => addSample cfg p.2 len p.1 b) a) ∧
    ∀ (r : Nat) (x : Sample),
      let b := addSample cfg r len x a
      b = { a with
              m := a.m + 1, held := a.held + if x.held then 1 else 0, clamped := a.clamped + if x.clamped then 1 else 0,
              suspect := a.suspect || x.suspect, sums := b.sums } ∧
      ∀ k : SlotIx,
        (cfg.slots[k] = .unused → b.sums[k] = a.sums[k]) ∧
        ∀ kind i, cfg.slots[k] = .used kind i →
          let y := x.vals[k]
          let moved (q : Pair) (h : Nat) : Pair :=
            let p := 4096 * h * r / len % 4096
            { re := q.re + y * cosTable p, im := q.im + y * sinTable p }
          b.sums[k].fund = moved a.sums[k].fund 1 ∧
          (∀ n o, cfg.orders[n]? = some o →
            pairAt b.sums[k] n = if o.kind = kind then moved (pairAt a.sums[k] n) o.h else pairAt a.sums[k] n) ∧
          (kind = .ac →
            b.sums[k].sum = a.sums[k].sum ∧ b.sums[k].sumSq = a.sums[k].sumSq ∧ b.sums[k].min = a.sums[k].min ∧
              b.sums[k].max = a.sums[k].max) ∧
          (kind = .dc →
            b.sums[k].sum = a.sums[k].sum + y ∧ (b.sums[k].sumSq : Int) = a.sums[k].sumSq + y * y ∧
              b.sums[k].min = some (min y (a.sums[k].min.getD y)) ∧
              b.sums[k].max = some (max y (a.sums[k].max.getD y)))

/-- An acquisition that times out at the real sample of an entry without a gap: the command is the pass of the entry
(log entry 4), and the pass takes the group to HOLDOVER with no window open (R55); where no such pass stands next,
nothing happens. That the entry leaves in the same act, when this was its last pass, is the model's choice (log entry 15),
and so is that the acquisition count keeps its value on leaving ACQUIRING and in ALIGNING (log entry 34).

What any sample does in ACQUIRING and ALIGNING: one that ends an accepted cycle as the fourth locks, and a crossing in
ALIGNING, begin TRACKING with a window that opens at that sample (R54, R59, R68); a cycle too late in ALIGNING takes the
group to HOLDOVER, whose window opens at that sample (R59); one that brings the acquisition count to 64 × L0 without a lock
times out (R55); every other goes to no window. An opening takes the group's ARMED slot to FILLING, and each sample of the
open window is written at the end of the channels of its used slots (R162). That the window counts are 0 in HOLDOVER
before its window opens is the model's choice (log entry 30). -/
def Obligations.AcquisitionTimeoutsEnterHoldover : Prop :=
  (∀ (s : State) (g : GroupId),
    (happensNext timeoutAt g s = false → Does (.acquisitionTimeout g) s s) ∧
    (∀ e rest, s.queue.entries = e :: rest → unserved s e g = true →
      s.groups[g].tracker.timing = .acquiring → gapOf (contextOf s g) e s.groups[g].tracker = 0 →
      s.groups[g].tracker.acqCount + 1 = 64 * nominalLength (contextOf s g).rate s.groups[g].config.freq →
      (let verdict := sampleVerdict (contextOf s g) s.groups[g] (realSample e s.groups[g])
       locks verdict (nextLock verdict s.groups[g].tracker.lockCount) = false) →
        Does (.acquisitionTimeout g) s (leaveIfDone e (passGroup e g s)) ∧
        let w := passEntry (contextOf s g) e (viewGroup s g)
        w.grp.tracker.timing = .holdover ∧ w.grp.tracker.winSamples = 0 ∧ w.grp.sets = s.groups[g].sets ∧
          w.grp.counter = s.groups[g].counter ∧ w.captures = s.captures ∧ w.waitList = s.waitList ∧
          w.events = createEvent s.timer (.timing g .holdover) none s.events)) ∧
  (∀ (c : GroupContext) (seq : Nat) (x : Sample) (v : GroupView),
    let t := v.grp.tracker
    let u := (trackSample c x v.grp).tracker
    let nominal : Nat := c.rate.samples / v.grp.config.freq.hertz
    let locking : Prop := 3 ≤ t.lockCount ∧ ∃ len, EndsAccepted c v.grp x len
    let inTiming (t : Timing) : GroupView := { v with events := createEvent c.stamp (.timing c.group t) none v.events }
    (t.timing = .acquiring →
      (∀ i, locking → TakesSet v.grp.sets i →
        handleSample c seq x v =
          trackingOpened c seq x i { u with timing := .tracking, lockCount := 0, acqCount := t.acqCount + 1 }
            (inTiming .tracking)) ∧
      (¬locking → 64 * nominal ≤ t.acqCount + 1 →
        handleSample c seq x v =
          { inTiming .holdover with
              grp := { v.grp with
                tracker := { u with timing := .holdover, acqCount := t.acqCount + 1, winCycles := 0,
                                    winSamples := 0 } } }) ∧
      (¬locking → t.acqCount + 1 < 64 * nominal →
        handleSample c seq x v =
          { v with grp := { v.grp with tracker := { u with acqCount := t.acqCount + 1 } } })) ∧
    (t.timing = .aligning →
      (∀ i, CrossesAt v.grp x → TakesSet v.grp.sets i →
        handleSample c seq x v =
          trackingOpened c seq x i { u with timing := .tracking, lockCount := 0 } (inTiming .tracking)) ∧
      (∀ i, EndsLate c v.grp x → TakesSet v.grp.sets i → 1 < v.grp.config.cycles * nominal →
        handleSample c seq x v =
          holdoverOpened c seq x i { u with timing := .holdover, winCycles := 0 } (inTiming .holdover)) ∧
      (¬CrossesAt v.grp x → ¬EndsLate c v.grp x →
        handleSample c seq x v = { v with grp := { v.grp with tracker := u } }))) ∧
  ∀ (c : GroupContext) (u : Captures), OwnsOne c u →
    let owns (j : CaptureIx) (t : CaptureState) : Prop := u.slots[j].owner = some c.group ∧ u.slots[j].state = t
    (∀ (number : BitVec 32) (seq : Nat) (kind : WindowKind) (map : Vector SlotUse 4),
      ((∀ j, ¬owns j .armed) → captureOpen c.group number seq kind map u = u) ∧
      ∀ j, owns j .armed →
        let begun : CaptureSlot :=
          { u.slots[j] with
              state := .filling, number := number, startSeq := seq, kind := kind, count := 0, map := map,
              channels := Vector.replicate 4 [] }
        captureOpen c.group number seq kind map u = { u with slots := upd u.slots j begun }) ∧
    ∀ vals : Vector Int 4,
      ((∀ j, ¬owns j .filling) → captureWrite c.group vals u = u) ∧
      ∀ j, owns j .filling →
        ∃ channels : Vector (List Int) 4,
          (let written : CaptureSlot := { u.slots[j] with count := u.slots[j].count + 1, channels := channels }
           captureWrite c.group vals u = { u with slots := upd u.slots j written }) ∧
          ∀ k : SlotIx, channels[k] =
            if u.slots[j].map[k] = .unused then u.slots[j].channels[k] else u.slots[j].channels[k] ++ [vals[k]]

/-- A holdover window that closes at the real sample of an entry without a gap, with the other set IDLE: the command is
the pass of the entry (log entry 4); the set becomes WAITING, the group joins the wait list, the counter increases, and
the group goes to ALIGNING if its lock count stands at 4 or more after the sample, otherwise the other set takes the
next window (R58, R59, R67, R75, R79). That the entry leaves in the same act, when this was its last pass, is the model's
choice (log entry 15), and so is that the acquisition count keeps its value in HOLDOVER, ALIGNING and TRACKING (log entry
34).

What any sample does in HOLDOVER: it opens the window if none is open, is added to it at its place in the nominal cycle
(R58, R70, R73), and closes it as the C × L0-th; and in TRACKING a sample that ends the C-th accepted cycle closes the
window and opens the next (R56, R74). A close hands the window on when the other set is IDLE (R75) and discards it with
OVERRUN otherwise (R76); either way the counter increases, a pending commit is taken (R115), and a FILLING capture is HELD
with CAPTURE READY (R163). That the window sample count is 0 between a close of a holdover window and the next opening is
the model's choice (log entry 30). -/
def Obligations.HoldoverClosesHandOnTheWindow : Prop :=
  (∀ (s : State) (g : GroupId),
    (happensNext holdoverCloseAt g s = false → Does (.holdoverWindowClose g) s s) ∧
    (∀ e rest i, s.queue.entries = e :: rest → unserved s e g = true →
      s.groups[g].tracker.timing = .holdover → gapOf (contextOf s g) e s.groups[g].tracker = 0 →
      s.groups[g].tracker.winSamples + 1 =
        s.groups[g].config.cycles * nominalLength (contextOf s g).rate s.groups[g].config.freq →
      setIn .accumulating s.groups[g].sets = some i → s.groups[g].sets[other i].state = .idle →
        Does (.holdoverWindowClose g) s (leaveIfDone e (passGroup e g s)) ∧
        let w := passEntry (contextOf s g) e (viewGroup s g)
        let x := realSample e s.groups[g]
        let locked := 4 ≤ nextLock (sampleVerdict (contextOf s g) s.groups[g] x) s.groups[g].tracker.lockCount
        w.grp.sets[i].state = .waiting ∧ w.grp.sets[i].m = s.groups[g].sets[i].m + 1 ∧
          w.grp.sets[i].number = s.groups[g].sets[i].number ∧ w.waitList = s.waitList ++ [g] ∧
          w.grp.counter = s.groups[g].counter + 1 ∧ w.grp.tracker.winSamples = 0 ∧
          (locked → w.grp.tracker.timing = .aligning ∧ w.grp.sets[other i].state = .idle) ∧
          (¬locked → w.grp.tracker.timing = .holdover ∧ w.grp.sets[other i].state = .accumulating))) ∧
  (∀ (c : GroupContext) (seq : Nat) (x : Sample) (v : GroupView),
    let t := v.grp.tracker
    let u := (trackSample c x v.grp).tracker
    let nominal : Nat := c.rate.samples / v.grp.config.freq.hertz
    let length : Nat := v.grp.config.cycles * nominal
    (t.timing = .holdover →
      (∀ i, t.winSamples = 0 → TakesSet v.grp.sets i → 1 < length →
        handleSample c seq x v = holdoverOpened c seq x i u v) ∧
      ∀ i, t.winSamples ≠ 0 → setIn .accumulating v.grp.sets = some i →
        let added : GroupView :=
          { v with
              grp := { v.grp with
                tracker := { u with winSamples := t.winSamples + 1 }
                sets := upd v.grp.sets i
                  (addSample v.grp.config (t.winSamples % nominal) nominal x v.grp.sets[i]) }
              captures := captureWrite c.group x.vals v.captures }
        (t.winSamples + 1 < length → handleSample c seq x v = added) ∧
        (t.winSamples + 1 = length → u.lockCount < 4 →
          handleSample c seq x v =
            { closeWindow c true added with
                grp := { (closeWindow c true added).grp with tracker := { u with winSamples := 0 } } }) ∧
        (t.winSamples + 1 = length → 4 ≤ u.lockCount →
          handleSample c seq x v =
            { closeWindow c false added with
                grp := { (closeWindow c false added).grp with
                  tracker := { u with timing := .aligning, winSamples := 0 } }
                events := createEvent c.stamp (.timing c.group .aligning) none (closeWindow c false added).events })) ∧
    (t.timing = .tracking →
      ∀ len i j, EndsAccepted c v.grp x len → v.grp.config.cycles ≤ t.winCycles + 1 →
        setIn .accumulating v.grp.sets = some i →
          let w := closeWindow c true
            { v with grp := { v.grp with
                tracker := u
                sets := upd v.grp.sets i (addCycle v.grp.config len v.grp.buffer 0 v.grp.sets[i])
                buffer := [] } }
          TakesSet w.grp.sets j → handleSample c seq x v = trackingOpened c seq x j u w)) ∧
  ∀ (c : GroupContext) (i : SetIx) (follows : Bool) (v : GroupView), setIn .accumulating v.grp.sets = some i →
    OwnsOne c v.captures →
      let a := v.grp.sets[i]
      let b := v.grp.sets[other i]
      let pending : Bool := v.grp.commitPending
      let next : SetState := if follows then .accumulating else .idle
      let e1 := if b.state = .idle then v.events
        else createEvent c.stamp (.overrun c.group) (some (low16 a.number)) v.events
      let e2 := if pending then
          createEvent c.stamp (.limitsCommitted c.group (v.grp.generation + 1)) (some (low16 a.number)) e1
        else e1
      let closed : GroupView :=
        { v with
            grp := { v.grp with
              sets := if b.state = .idle then
                  upd (upd v.grp.sets i { a with state := .waiting }) (other i)
                    (if follows then clearSet .accumulating b else b)
                else upd v.grp.sets i (clearSet next a)
              counter := v.grp.counter + 1
              nowBank := if pending then v.grp.nextBank else v.grp.nowBank
              generation := if pending then v.grp.generation + 1 else v.grp.generation
              commitPending := false }
            events := e2
            waitList := if b.state = .idle then v.waitList ++ [c.group] else v.waitList }
      let fills (j : CaptureIx) : Prop :=
        v.captures.slots[j].owner = some c.group ∧ v.captures.slots[j].state = .filling
      ((∀ j, ¬fills j) → closeWindow c follows v = closed) ∧
      ∀ j, fills j →
        closeWindow c follows v =
          { closed with
              captures := { v.captures with slots := upd v.captures.slots j { v.captures.slots[j] with state := .held } }
              events := createEvent c.stamp (.captureReady c.group j) (some (low16 v.captures.slots[j].number)) e2 }

/-- A completion replaces the group's result record by that of its EVALUATING set, evaluated under the NOW bank as it
stands, frees the set with its sums kept, and hands the window to the Level Unit and the Exceedance Records (R81, R100,
R120, R123); the engine then takes the next head of its wait list, whose WAITING set becomes EVALUATING (R80). What the
record holds is what FiguresStayInTheirRanges says of `evaluateSet`. A change of level raises LEVEL, and one to TRIPPED
with the auto capture enable on claims a capture slot, or raises CAPTURE MISS (R128, R129, R158, R160). The cells at
ALERT or above latch an absent first-exceedance record on the highest level, then the lowest row and slot, with the
other rows in the next-row set (R141), and repeat a present one (R142). A report is offered when the report enable is on
(R182, R183); that it is built after the Level Unit and the Exceedance Records have acted is the model's reading (log
entry 26). LEAK is the completion in which the leak counter reaches Lk: the counter returns to 0 and the bucket, with
the window's weight added, falls by 1 if it is above 0 (R125; log entry 4). That both commands have no effect while the
engine is idle, and LEAK none where no leak is due, is the model's choice (log entry 1). An ARMED slot has no content:
its content fields read as 0 or unused (R156). -/
def Obligations.CompletionsReplaceTheResultRecord : Prop :=
  ∀ s : State,
    (s.engine = none → Does .evaluationCompletion s s ∧ Does .leak s s) ∧
    (∀ h : Group,
      ((∀ k : SetIx, h.sets[k].state ≠ .waiting) → beginEvaluation h = h) ∧
      ∀ k : SetIx, h.sets[k].state = .waiting → (k = 1 → h.sets[0].state ≠ .waiting) →
        beginEvaluation h = { h with sets := upd h.sets k { h.sets[k] with state := .evaluating } }) ∧
    (∀ (g : GroupId) (i : SetIx), s.engine = some g → setIn .evaluating s.groups[g].sets = some i →
      let grp := s.groups[g]
      let cfg := grp.config
      let r := evaluateSet (contextOf s g).rate cfg grp.nowBank grp.generation grp.sets[i]
      let u := handleLevels cfg r.level r.degraded r.idle grp.levelUnit
      (leakDue cfg grp.levelUnit = false → Does .leak s s) ∧
      (leakDue cfg grp.levelUnit = true → exec .leak s = exec .evaluationCompletion s ∧
        ∃ t, exec .leak s = .next t ∧ t.groups[g].levelUnit.leakCounter = 0 ∧
          t.groups[g].levelUnit.bucket =
            min 255 (grp.levelUnit.bucket + weightOf cfg r.level r.degraded) - 1) ∧
      ∃ t, exec .evaluationCompletion s = .next t ∧
        (let after : Group :=
           { grp with
               sets := upd grp.sets i { grp.sets[i] with state := .idle, limitGen := grp.generation }
               result := some r
               levelUnit := u
               first := t.groups[g].first
               nextRows := t.groups[g].nextRows }
         let before (h : GroupId) : Group := if h = g then after else s.groups[h]
         t.engine = s.waitList.head? ∧ t.waitList = s.waitList.tail ∧
           ∀ h : GroupId, t.groups[h] = if s.waitList.head? = some h then beginEvaluation (before h) else before h) ∧
        (let exceeds (p : Fin 76) (v : Nat) (l : RowLevel) : Prop :=
           r.cells[p] = .value v l ∧ (l = .alert ∨ l = .trip)
         let rowExceeds (n : Nat) : Prop := ∃ (p : Fin 76) (v : Nat) (l : RowLevel), exceeds p v l ∧ p.val / 4 = n
         ((∀ p v l, ¬exceeds p v l) → t.groups[g].first = grp.first ∧ t.groups[g].nextRows = grp.nextRows) ∧
         (∀ p v l, exceeds p v l →
           (∀ q w m, exceeds q w m → m.rank < l.rank ∨ (m = l ∧ p ≤ q)) → grp.first = none →
             t.groups[g].first =
               some { number := r.number, row := p.val / 4, slot := cellSlot p, value := v,
                      threshold := thresholdOf grp.nowBank[cellRow p] l, level := l, generation := r.generation,
                      degraded := r.degraded, repeats := 0, latest := r.number } ∧
             ∀ n : Nat, n < 19 →
               (t.groups[g].nextRows.getLsbD n = true ↔
                 grp.nextRows.getLsbD n = true ∨ (n ≠ p.val / 4 ∧ rowExceeds n))) ∧
         (∀ p v l f, exceeds p v l → grp.first = some f →
           t.groups[g].first = some { f with repeats := min 65535 (f.repeats + 1), latest := r.number } ∧
           ∀ n : Nat, n < 19 →
             (t.groups[g].nextRows.getLsbD n = true ↔ grp.nextRows.getLsbD n = true ∨ rowExceeds n))) ∧
        (let e1 := createEvent s.timer (.level g u.level .window) (some (low16 r.number)) s.events
         let missed (why : ClaimFailure) : Prop :=
           t.events = createEvent s.timer (.captureMiss g why) (some (low16 r.number)) e1 ∧ t.captures = s.captures
         let slots := s.captures.slots
         let claims : Prop :=
           u.level ≠ grp.levelUnit.level ∧ u.level = .tripped ∧ cfg.autoCapture = true ∧ CapturesLawful s.captures
         (u.level = grp.levelUnit.level → t.events = s.events ∧ t.captures = s.captures) ∧
         (u.level ≠ grp.levelUnit.level → ¬(u.level = .tripped ∧ cfg.autoCapture = true) →
           t.events = e1 ∧ t.captures = s.captures) ∧
         (∀ j : CaptureIx, claims → slots[j].owner = some g →
           (15 ≤ slots[j].holds → missed .holdLimit) ∧
           (slots[j].holds < 15 →
             t.events = e1 ∧
               t.captures =
                 { s.captures with
                     slots := upd slots j { slots[j] with holds := slots[j].holds + 1, auto := true } })) ∧
         (claims → (∀ j : CaptureIx, slots[j].owner ≠ some g) →
           ((∀ j : CaptureIx, slots[j].state ≠ .free) → missed .noSlot) ∧
           ∀ j : CaptureIx, slots[j].state = .free → (slots[other j].state = .free → s.captures.marker = j) →
             let armed : CaptureSlot :=
               { CaptureSlot.free with
                   state := .armed, owner := some g, holds := 1, auto := true, trigger := some .trip }
             t.events = e1 ∧ t.captures = { s.captures with slots := upd slots j armed })) ∧
        (cfg.reportEnable = false → t.mgmt = s.mgmt) ∧
        (cfg.reportEnable = true →
          let counted : Management := { s.mgmt with reportCounter := s.mgmt.reportCounter + 1 }
          (s.queue.suspended = true → t.mgmt = counted) ∧
          (s.queue.suspended = false → 8 ≤ s.mgmt.reports.length → t.mgmt = { counted with reportSkipped := true }) ∧
          (s.queue.suspended = false → s.mgmt.reports.length < 8 →
            ∃ w : WindowReport, t.mgmt = { counted with reports := s.mgmt.reports ++ [w] } ∧
              w.dst = s.mgmt.controller.getD 0xFFFFFFFFFFFF ∧ w.src = s.activeAddress ∧ w.summary = summaryOf t ∧
              w.number = s.mgmt.reportCounter ∧ w.group = g ∧ w.levelUnit = u ∧ w.timing = grp.tracker.timing ∧
              w.generation = grp.generation ∧ w.firstPresent = t.groups[g].first.isSome ∧ w.result = r)) ∧
        t = { s with groups := t.groups, events := t.events, captures := t.captures, engine := t.engine,
                     waitList := t.waitList, lines := t.lines, mgmt := t.mgmt })

/-- The handling of a window by the Level Unit is the add, the leak, the run and the level step, in that order (R123),
each with the outcome its rule gives: the weights (R124), the leak (R125), the run (R126) and the level (R127). -/
def Obligations.TheLevelUnitHandlesAWindowInFourSteps : Prop :=
  ∀ (cfg : GroupRecord) (w : RowLevel) (degraded idle : Bool) (u : LevelUnit),
    handleLevels cfg w degraded idle u =
        levelStep cfg (runStep w degraded idle (leakStep cfg (addStep cfg w degraded u))) ∧
      (addStep cfg .clear degraded u = { u with bucket := min 255 u.bucket } ∧
        addStep cfg .notice degraded u = { u with bucket := min 255 u.bucket } ∧
        addStep cfg .alert degraded u = { u with bucket := min 255 (u.bucket + 1) } ∧
        addStep cfg .trip false u = { u with bucket := min 255 (u.bucket + cfg.tripWeight) } ∧
        addStep cfg .trip true u = { u with bucket := min 255 (u.bucket + 1) }) ∧
      ((cfg.leakPeriod = 0 → leakStep cfg u = u) ∧
        (u.leakCounter + 1 < cfg.leakPeriod → leakStep cfg u = { u with leakCounter := u.leakCounter + 1 }) ∧
        (cfg.leakPeriod ≠ 0 → cfg.leakPeriod = u.leakCounter + 1 →
          leakStep cfg u = { u with leakCounter := 0, bucket := u.bucket - 1 })) ∧
      (runStep .trip false false u = { u with run := min 255 (u.run + 1) } ∧ runStep .trip true false u = u ∧
        runStep w degraded true u = { u with run := 0 } ∧ (w ≠ .trip → runStep w degraded idle u = { u with run := 0 })) ∧
      (cfg.tripFunction = true → u.level ≠ .tripped → cfg.tripPersistence ≤ u.run →
        levelStep cfg u = { u with level := .tripped }) ∧
      (¬(cfg.tripFunction = true ∧ u.level ≠ .tripped ∧ cfg.tripPersistence ≤ u.run) →
        (u.level = .normal → cfg.bHi ≤ u.bucket → levelStep cfg u = { u with level := .alarm }) ∧
        (u.level = .normal → u.bucket < cfg.bHi → levelStep cfg u = u) ∧
        (u.level = .alarm → u.bucket ≤ cfg.bLo → levelStep cfg u = { u with level := .normal }) ∧
        (u.level = .alarm → cfg.bLo < u.bucket → levelStep cfg u = u) ∧
        (u.level = .tripped → levelStep cfg u = u))

/-- Grading (R118, R119): a value's row level is the highest level whose threshold is nonzero and strictly less than
the value, CLEAR where none is, and the exceeded threshold is that level's; the window level is the highest row level
among the valued cells, and CLEAR where there is none. -/
def Obligations.GradingTakesTheHighestExceededLevel : Prop :=
  (∀ (row : LimitRow) (v : Nat) (l : RowLevel),
      (gradeValue row v = l →
        (l ≠ .clear → thresholdOf row l ≠ 0 ∧ thresholdOf row l < v) ∧
        ∀ h : RowLevel, l.rank < h.rank → ¬(thresholdOf row h ≠ 0 ∧ thresholdOf row h < v))) ∧
    ∀ cells : Vector Cell 76,
      (∀ (i : Fin 76) (v : Nat) (l : RowLevel), cells[i] = .value v l → l.rank ≤ (windowLevel cells).rank) ∧
      (windowLevel cells = .clear ∨ ∃ (i : Fin 76) (v : Nat), cells[i] = .value v (windowLevel cells))

/-- isqrt is the largest integer whose square does not exceed its argument (R87). -/
def Obligations.IntegerSquareRootsAreExact : Prop :=
  ∀ n : Nat, isqrt n * isqrt n ≤ n ∧ n < (isqrt n + 1) * (isqrt n + 1)

/-- The law of R95: every ratio, TD, RF and PPR of a window lies between 0 and 65535, and the variance from which the
RMS ripple is taken is never negative, for the sums of any nonempty run of samples of a DC slot (R71, R92, R93).

The record of a window, figure by figure: the frequency estimate (R64), the amplitudes (R88), the floors (R89, R94), the
ratios and TD (R90, R91), mean, pp and RMS (R92, R93), RF and PPR (R94), the three conditions of each of the 76 cells, cell
4 × row + slot (R96, R200), graded by the bank (R118), the degraded flags (R97), the idle flag (R98) and the other fields
(R99). That mean, RMS and pp are 0 in the record of a group without a DC slot is the model's choice (log entry 31). -/
def Obligations.FiguresStayInTheirRanges : Prop :=
  (∀ (rate : Rate) (cfg : GroupRecord) (bank : Vector LimitRow 19) (gen : BitVec 8) (a : AccSet) (i : Fin 76)
      (v : Nat) (l : RowLevel), (evaluateSet rate cfg bank gen a).cells[i] = .value v l → v ≤ 65535) ∧
    (∀ (orders : List Order) (xs : List (Int × Nat × Nat)), xs ≠ [] →
      0 ≤ varianceOf xs.length
        (xs.foldl (fun sums x => addToSlot .dc orders x.1 x.2.1 x.2.2 sums) SlotSums.zero)) ∧
    ∀ (rate : Rate) (cfg : GroupRecord) (bank : Vector LimitRow 19) (gen : BitVec 8) (a : AccSet),
      let r := evaluateSet rate cfg bank gen a
      let isAc (k : SlotIx) : Prop := ∃ v, cfg.slots[k] = .used .ac v
      let isDc (k : SlotIx) : Prop := ∃ v, cfg.slots[k] = .used .dc v
      let amplitudeOf (p : Pair) : Nat := 2 * isqrt (p.re * p.re + p.im * p.im).toNat / (a.m * 16384)
      let positionOf (k : SlotIx) (n : Nat) : Nat := amplitudeOf (a.sums[k].pairs.getD n { re := 0, im := 0 })
      let ratio (x base : Nat) : Nat := min 65535 (x * 10000 / base)
      let fund (k : SlotIx) : Nat := amplitudeOf a.sums[k].fund
      let distortion (k : SlotIx) : Nat :=
        let ac := cfg.orders.zipIdx.filter (fun p => decide (p.1.kind = .ac))
        min 65535 (isqrt (ac.map (fun p => ratio (positionOf k p.2) (fund k) ^ 2)).sum)
      let mean (k : SlotIx) : Int := a.sums[k].sum.tdiv a.m
      let rms (k : SlotIx) : Nat := isqrt (((a.sums[k].sumSq / a.m : Nat) : Int) - mean k * mean k).toNat
      let spread (k : SlotIx) : Nat := match a.sums[k].min, a.sums[k].max with
        | some lo, some hi => (hi - lo).toNat
        | _, _ => 0
      (∀ (p : Fin 76) (row : Fin 19) (k : SlotIx), p.val = 4 * row.val + k.val →
        let marked (kind : Kind) : Prop := ∃ o, row.val < 16 ∧ cfg.orders[row.val]? = some o ∧ o.kind = kind
        let filled (below : Prop) (v : Nat) : Prop :=
          (below → r.cells[p] = .notEvaluated) ∧ (¬below → r.cells[p] = .value v (gradeValue bank[row] v))
        (cfg.slots[k] = .unused → r.cells[p] = .absent) ∧
        (isAc k →
          let below : Prop := fund k = 0 ∨ fund k < cfg.fundFloor
          (marked .ac → filled below (ratio (positionOf k row.val) (fund k))) ∧
          (row.val = 16 → filled below (distortion k)) ∧
          (¬marked .ac → row.val ≠ 16 → r.cells[p] = .absent)) ∧
        (isDc k →
          let below : Prop := mean k = 0 ∨ (mean k).natAbs < cfg.dcFloor
          (marked .dc → filled below (ratio (positionOf k row.val) (mean k).natAbs)) ∧
          (row.val = 17 → filled below (ratio (rms k) (mean k).natAbs)) ∧
          (row.val = 18 → filled below (ratio (spread k) (mean k).natAbs)) ∧
          (¬marked .dc → row.val < 17 → r.cells[p] = .absent))) ∧
      r = { number := a.number, startSeq := a.startSeq, kind := a.kind, cycles := a.cycles, m := a.m,
            frequency := r.frequency,
            held := a.held, clamped := a.clamped, degHoldover := decide (a.kind = .holdover),
            degHeld := decide (cfg.heldLimit < a.held), degClamped := decide (0 < a.clamped), degSuspect := a.suspect,
            idle := r.idle, generation := gen, fundamentals := r.fundamentals, mean := r.mean, rms := r.rms,
            spread := r.spread, cells := r.cells, level := windowLevel r.cells } ∧
      (a.kind = .tracking → r.frequency = a.cycles * rate.samples * 1000 / a.m) ∧
      (a.kind = .holdover → r.frequency = cfg.freq.hertz * 1000) ∧
      (r.idle = true ↔ ∀ (p : Fin 76) (v : Nat) (l : RowLevel), r.cells[p] ≠ .value v l) ∧
      (∀ k : SlotIx, (isAc k → r.fundamentals[k] = fund k) ∧ (¬isAc k → r.fundamentals[k] = 0)) ∧
      (∀ k : SlotIx, isDc k → (∀ j : SlotIx, j < k → ¬isDc j) →
        r.mean = mean k ∧ r.rms = rms k ∧ r.spread = spread k) ∧
      ((∀ k : SlotIx, ¬isDc k) → r.mean = 0 ∧ r.rms = 0 ∧ r.spread = 0)

/-! ## The Configuration Store and the pending reset -/

/-- A store ends by its completion, or by a fault, at the read-back or 400 ms after its taking (R190); with no store in
progress none of the three is an event (log entry 1). A completed store leaves the snapshot in the region with the CRC-32
computed over it (R187): PRESUMED that of IEEE 802.3, as for a frame (log entry 9), over bytes that are a free value (log
entry 14). That they enter the region in the act of the completion is DEDUCED (log entry
14). -/
def Obligations.StoresEndInACompletionOrAFault : Prop :=
  ∀ s : State,
    let faulted : State :=
      { s with store := { s.store with snapshot := none, faultLatch := true, image := .blank },
               events := createEvent s.timer .storeFault none s.events }
    (∀ x : ImageContents, imageCrc x = frameCheck (Config.imageBytes x)) ∧
    (∀ x, s.store.snapshot = some x →
      Does .storeCompletion s
        { s with store := { s.store with snapshot := none, faultLatch := false,
                                         image := .written x (imageCrc x), defaulted := false },
                 events := createEvent s.timer .storeDone none s.events } ∧
      Does .storeReadBackFault s faulted ∧
      (s.timer - s.store.taken = 400 → Does .storeTimeLimit s faulted)) ∧
    (s.store.snapshot = none → Does .storeCompletion s s ∧ Does .storeReadBackFault s s) ∧
    (s.store.snapshot = none ∨ s.timer - s.store.taken ≠ 400 → Does .storeTimeLimit s s)

/-- RESET PART is refused while a store is in progress; otherwise it makes the Management Unit RESET-PENDING, with its
answer DONE marked as the one that R186 waits for; and 500 ms after its taking the part reset is asserted. What the
number, start sequence and timing kind of a FREE capture slot stand at is the model's choice (log entry 7), and so is that
the commands which wait stay through the part reset (log entry 28). -/
def Obligations.ResetPartIsTakenAndTimesOut : Prop :=
  ∀ s : State,
    (∀ r rest, HeadAsks s r rest .resetPart 0 →
      (s.store.snapshot ≠ none → Refuses .resetPart s r rest .storeBusy) ∧
      (s.store.snapshot = none →
        let s1 : State := { taken r rest s with mgmt := { (taken r rest s).mgmt with resetTaken := some s.timer } }
        Does .resetPart s (withAnswer { plainAnswer r .done .empty s1 with acceptsReset := true } s1))) ∧
    (s.mgmt.resetTaken = none → Does .resetPartTimeLimit s s) ∧
    (∀ u, s.mgmt.resetTaken = some u →
      (s.timer - u ≠ 500 → Does .resetPartTimeLimit s s) ∧
      (s.timer - u = 500 → ∃ t, exec .resetPartTimeLimit s = .next t ∧ IsReset s t ∧ t.power = .released))

/-! ## The request path -/

/-- While the Management Unit is RESET-PENDING or its answer queue holds 4, it takes no request, whichever the command;
nor does it where no request waits (R174, R186). A command whose request does not stand at the head of the queue does
nothing either (the model's choice, log entry 2). -/
def Obligations.RequestsAreTakenFromTheHeadWithRoom : Prop :=
  (∀ (s : State) (c : Instr), c ∈ requestCommands →
    (s.mgmt.resetTaken ≠ none ∨ 4 ≤ s.mgmt.answers.length ∨ s.mgmt.requests = []) → Does c s s) ∧
  ∀ (s : State) (r : Request) (rest : List Request), s.mgmt.requests = r :: rest →
    (requestCode r.code ≠ none → Does .unsupported s s) ∧
    (∀ x ∈ plainRequests, requestCode r.code ≠ some x.2.1 → Does x.1 s s) ∧
    (∀ x ∈ entryRequests,
      (requestCode r.code ≠ some x.2.1 → Does x.1 s s) ∧
      (∀ t, tableOf r = some t → t ≠ x.2.2.1 → Does x.1 s s))

/-- The checks that every request meets (R174, R179): a code that names no request is UNSUPPORTED; arguments that do
not cover the fixed ones are BAD-LENGTH; a table selector that names no table, and a group above 7, are BAD-FIELD. The
codes 0x01 to 0x13 and the selectors 0 to 3 name what R199 gives, in its order, and no other does. An argument byte names
the member of its own number: a group, a stream, a slot, a set or a capture slot; the two members of a bank, 0 for NOW and
1 for NEXT; and a READ ARRAY selector names its order-list position, 0xFF the fundamental (R85, R199). -/
def Obligations.RequestsAreCheckedBeforeTheyAreServed : Prop :=
  (let named : List RequestCode :=
     [.identify, .readStatus, .readEntry, .writeEntry, .commitLimits, .groupEnable, .groupDisable, .readResult,
      .readEvents, .clearFirst, .releaseTrip, .snap, .holdCapture, .releaseCapture, .readCapture, .readArray,
      .storeConfig, .restartAnalysis, .resetPart]
   ∀ c : Byte, requestCode c = if c = 0 then none else named[c.toNat - 1]?) ∧
  (∀ n : Nat, tableSelector n = ([.stream, .group, .limits, .settings] : List TableSelector)[n]?) ∧
  (∀ (r : Request) (n : Nat),
    (covers r n = true ↔ n ≤ r.argLen ∧ r.argLen ≤ r.body.length) ∧
    tableOf r = if covers r 2 then tableSelector (argOf r 0) else none) ∧
  (∀ n : Nat,
    (∀ g : GroupId, groupArg n = some g ↔ g.val = n) ∧ (∀ i : StreamId, streamArg n = some i ↔ i.val = n) ∧
      (∀ k : SlotIx, slotArg n = some k ↔ k.val = n) ∧ (∀ i : Fin 2, twoArg n = some i ↔ i.val = n) ∧
      (∀ b : Bool, flagArg n = some b ↔ n = if b then 1 else 0) ∧
      (selectorArg n = some .fundamental ↔ n = 0xFF) ∧
      ∀ p : Fin 16, selectorArg n = some (.position p) ↔ p.val = n) ∧
  ∀ (s : State) (r : Request) (rest : List Request), HeadIs s r rest →
    (requestCode r.code = none → Refuses .unsupported s r rest .unsupported) ∧
    (∀ x ∈ plainRequests, requestCode r.code = some x.2.1 → covers r x.2.2 = false →
      Refuses x.1 s r rest .badLength) ∧
    (∀ x ∈ entryRequests, requestCode r.code = some x.2.1 →
      (covers r 2 = false → Refuses x.1 s r rest .badLength) ∧
      (covers r 2 = true → tableSelector (argOf r 0) = none → Refuses x.1 s r rest .badField) ∧
      (tableOf r = some x.2.2.1 → covers r x.2.2.2 = false → Refuses x.1 s r rest .badLength)) ∧
    (∀ x ∈ groupRequests, requestCode r.code = some x.2 → covers r 1 = true → 8 ≤ argOf r 0 →
      Refuses x.1 s r rest .badField)

/-! ## The requests -/

/-- IDENTIFY answers the names, the revision, the capacities and the three addresses (R177). -/
def Obligations.IdentifyAnswersTheNamesAndAddresses : Prop :=
  ∀ (s : State) (r : Request) (rest : List Request), HeadAsks s r rest .identify 0 →
    Serves .identify s r .done
      (.identity "Omplava" "Pervila" "PX-816" s.ident.revision 8 16 2 64 s.ident.factory s.activeAddress
        s.pendingAddress) (taken r rest s)

/-- READ STATUS answers the running state, the links, the lines, the timer, the queues and every group and capture slot
as they stand (R172, R178); with the clear option set both sticky flags are cleared and the answer shows each as it
stood; an option coded as neither is BAD-FIELD (R13, R178). The depths shown leave the request itself and its answer out
(log entry 11).

The summary of every answer and of every window report: the sets of the groups that are TRIPPED and in ALARM, the number
of event records pending, the store state by activity and latch, and the defaulted and sticky flags (R129, R154, R175,
R188). -/
def Obligations.ReadStatusShowsAndClearsTheStickyFlags : Prop :=
  (∀ s : State,
    let m := summaryOf s
    (∀ g : GroupId,
      (m.tripped.getLsbD g.val = true ↔ s.groups[g].levelUnit.level = .tripped) ∧
      (m.alarmed.getLsbD g.val = true ↔ s.groups[g].levelUnit.level = .alarm)) ∧
    m.eventsPending = s.events.records.length ∧ m.defaulted = s.store.defaulted ∧
    m.forwardDrop = s.path.forwardDrop ∧ m.reportSkipped = s.mgmt.reportSkipped ∧
    (s.store.snapshot = none → m.store = if s.store.faultLatch then .fault else .idle) ∧
    (s.store.snapshot ≠ none → m.store = if s.store.faultLatch then .faultBusy else .busy)) ∧
  ∀ (s : State) (r : Request) (rest : List Request), HeadAsks s r rest .readStatus 1 →
    let s1 := taken r rest s
    let group (g : GroupId) : GroupStatus :=
      { enabled := s.groups[g].enabled, timing := s.groups[g].tracker.timing, levelUnit := s.groups[g].levelUnit,
        generation := s.groups[g].generation, commitPending := s.groups[g].commitPending }
    let slot (i : CaptureIx) : SlotStatus :=
      let x := s.captures.slots[i]
      { state := x.state, owner := x.owner, holds := x.holds, auto := x.auto,
        number := if x.state = .held then some x.number else none }
    let status : PartStatus :=
      { linkA := s.path.portA.link, linkB := s.path.portB.link, inLine := decide (s.switch = .inLine), lines := s.lines,
        timer := s.timer, queueDepth := s.queue.entries.length, suspended := s.queue.suspended,
        starvation := s.path.starvation, reportCounter := s.mgmt.reportCounter, forwardDrop := s.path.forwardDrop,
        reportSkipped := s.mgmt.reportSkipped,
        groups := [group 0, group 1, group 2, group 3, group 4, group 5, group 6, group 7],
        slots := [slot 0, slot 1], requestDepth := rest.length, answerDepth := s.mgmt.answers.length,
        reportDepth := s.mgmt.reports.length }
    let a := plainAnswer r .done (.status status) s1
    (argOf r 0 = 0 → Does .readStatus s (withAnswer a s1)) ∧
    (argOf r 0 = 1 →
      Does .readStatus s
        (withAnswer a { s1 with path := { s.path with forwardDrop := false },
                                mgmt := { s1.mgmt with reportSkipped := false } })) ∧
    (2 ≤ argOf r 0 → Refuses .readStatus s r rest .badField) ∧
    a.summary.forwardDrop = s.path.forwardDrop ∧ a.summary.reportSkipped = s.mgmt.reportSkipped

/-- READ ENTRY returns the named entry as it stands and changes nothing; an index, a bank or rows out of range are
BAD-FIELD (R23, R43, R111, R180). Rows are in range when the first is at most 18, the count 1 to 19, and the first plus the
count at most 19 (R111). That the index byte of the part settings is not checked is the model's reading (log entry 27). -/
def Obligations.ReadEntryReturnsTheTables : Prop :=
  (∀ first count : Nat,
    rowsInRange first count = true ↔ first ≤ 18 ∧ 1 ≤ count ∧ count ≤ 19 ∧ first + count ≤ 19) ∧
  ∀ (s : State) (r : Request) (rest : List Request),
    let s1 := taken r rest s
    (HeadNames s r rest .readEntry .stream 2 →
      (∀ i, streamArg (argOf r 1) = some i →
        Serves .readEntryStream s r .done
          (.streamEntry s.streams[i] s.supervision[i].activity s.supervision[i].expected s.supervision[i].suspect
            s.supervision[i].count s.supervision[i].lastSync) s1) ∧
      (16 ≤ argOf r 1 → Refuses .readEntryStream s r rest .badField)) ∧
    (HeadNames s r rest .readEntry .group 2 →
      (∀ g, groupArg (argOf r 1) = some g →
        let t := s.groups[g].tracker
        Serves .readEntryGroup s r .done
          (.groupEntry s.groups[g].config s.groups[g].enabled
            { timing := t.timing, armed := t.armed, cycleCount := t.cycleCount, lockCount := t.lockCount,
              acqCount := t.acqCount, winCycles := t.winCycles, expected := t.expected, last := t.last }) s1) ∧
      (8 ≤ argOf r 1 → Refuses .readEntryGroup s r rest .badField)) ∧
    (HeadNames s r rest .readEntry .limits 5 →
      (∀ g next, groupArg (argOf r 1) = some g → flagArg (argOf r 2) = some next →
        rowsInRange (argOf r 3) (argOf r 4) = true →
        Serves .readEntryLimitBank s r .done
          (.limitRows
            (((if next then s.groups[g].nextBank else s.groups[g].nowBank).toList.drop (argOf r 3)).take (argOf r 4))
            s.groups[g].generation s.groups[g].commitPending) s1) ∧
      (8 ≤ argOf r 1 ∨ 2 ≤ argOf r 2 ∨ rowsInRange (argOf r 3) (argOf r 4) = false →
        Refuses .readEntryLimitBank s r rest .badField)) ∧
    (HeadNames s r rest .readEntry .settings 2 →
      Serves .readEntryPartSettings s r .done (.settings s.settings s.pendingAddress s.activeAddress) s1)

/-- WRITE ENTRY of a stream entry: BAD-FIELD, then STREAM-IN-USE; otherwise the clamped entry is stored, the supervision
record returns to its reset state, and the stream's entries leave the Analysis Queue with the head's application and the
notice that waits for it, the depth falling with them (R22, R39). Where the table after R40 says that a stream write
leaves the queue as it is, the model follows R22's own words (log entry 29). The entry's fields stand in argument bytes 2
to 13 with the codes of R199, and a byte outside its field's set makes the entry none. -/
def Obligations.WriteEntryStoresAStreamEntry : Prop :=
  (∀ (b : List Byte) (e : StreamEntry),
    parseStreamEntry b = some e ↔
      numberAt b 2 1 = (if e.valid then 1 else 0) ∧ e.matchId.toNat = numberAt b 3 2 ∧
        e.ignoreMask.toNat = numberAt b 5 2 ∧ e.rate.samples = numberAt b 7 2 ∧ e.valueCount = numberAt b 9 1 ∧
        numberAt b 10 1 = (if e.byteOrder = .big then 0 else 1) ∧
        numberAt b 11 1 = (if e.annexMode = .none then 0 else 1) ∧ e.annexGroup.val = numberAt b 12 1 ∧
        e.silence = numberAt b 13 1) ∧
  ∀ (s : State) (r : Request) (rest : List Request), HeadNames s r rest .writeEntry .stream 14 →
    (16 ≤ argOf r 1 ∨ parseStreamEntry r.body = none → Refuses .writeEntryStream s r rest .badField) ∧
    (∀ i e, streamArg (argOf r 1) = some i → parseStreamEntry r.body = some e →
      ((∃ g : GroupId, s.groups[g].enabled = true ∧ s.groups[g].config.stream = i) →
        Refuses .writeEntryStream s r rest .streamInUse) ∧
      ((∀ g : GroupId, ¬(s.groups[g].enabled = true ∧ s.groups[g].config.stream = i)) →
        (let stored := { e with valueCount := min 8 (max 1 e.valueCount), silence := min 100 (max 1 e.silence) }
         Serves .writeEntryStream s r (if stored = e then .done else .doneClamped) .empty
          { taken r rest s with streams := upd s.streams i stored,
                                supervision := upd s.supervision i Supervision.fresh,
                                queue := discardStream s.settings i s.queue }) ∧
        (let kept := s.queue.entries.filter (fun x => decide (x.stream ≠ i))
         let headGone : Bool := (s.queue.entries.head?.map (fun x => decide (x.stream = i))).getD false
         discardStream s.settings i s.queue =
           { entries := kept
             served := if headGone then [] else s.queue.served
             noticeAtLeave := s.queue.noticeAtLeave && !headGone
             suspended := if kept.length < s.queue.entries.length ∧ kept.length ≤ s.settings.low then false
               else s.queue.suspended })))

/-- WRITE ENTRY of a group configuration record: BAD-FIELD, then GROUP-ACTIVE; otherwise the record that the request
carries is stored with its clamped fields clamped, B_lo below B_hi as stored, every other field as carried, and nothing
else changes (R41, R42, R121). The record's fields stand in argument bytes 2 to 71 in the order of R41 with the widths and
codes of R199, and a byte outside its field's set makes the record none. -/
def Obligations.WriteEntryStoresAGroupRecord : Prop :=
  (∀ (b : List Byte) (c : GroupRecord),
    let on (x : Bool) : Nat := if x then 1 else 0
    parseGroupRecord b = some c ↔
      c.stream.val = numberAt b 2 1 ∧ c.freq.hertz = numberAt b 3 1 ∧ c.cycles = numberAt b 4 1 ∧
        (∀ k : SlotIx, match c.slots[k] with
          | .unused => numberAt b (5 + 2 * k.val) 1 = 0
          | .used kind v =>
            numberAt b (5 + 2 * k.val) 1 = (if kind = .ac then 1 else 2) ∧ numberAt b (6 + 2 * k.val) 1 = v.val) ∧
        c.refSlot.val = numberAt b 13 1 ∧ c.deadband = numberAt b 14 4 ∧ c.fundFloor = numberAt b 18 4 ∧
        c.dcFloor = numberAt b 22 4 ∧ c.orders.length = numberAt b 26 1 ∧ c.orders.length ≤ 16 ∧
        (∀ (n : Nat) (o : Order), c.orders[n]? = some o →
          o.h = numberAt b (27 + 2 * n) 1 ∧ numberAt b (28 + 2 * n) 1 = if o.kind = .ac then 1 else 2) ∧
        c.gapLimit = numberAt b 59 1 ∧ c.heldLimit = numberAt b 60 1 ∧ c.bHi = numberAt b 61 1 ∧
        c.bLo = numberAt b 62 1 ∧ c.tripWeight = numberAt b 63 1 ∧ c.leakPeriod = numberAt b 64 1 ∧
        c.tripPersistence = numberAt b 65 1 ∧ on c.reportEnable = numberAt b 66 1 ∧
        on c.alertLine = numberAt b 67 1 ∧ on c.tripLine = numberAt b 68 1 ∧ on c.tripFunction = numberAt b 69 1 ∧
        on c.autoCapture = numberAt b 70 1 ∧ on c.enableAtStart = numberAt b 71 1) ∧
  ∀ (s : State) (r : Request) (rest : List Request), HeadNames s r rest .writeEntry .group 72 →
    (8 ≤ argOf r 1 ∨ parseGroupRecord r.body = none → Refuses .writeEntryGroup s r rest .badField) ∧
    (∀ g c, groupArg (argOf r 1) = some g → parseGroupRecord r.body = some c →
      (s.groups[g].enabled = true → Refuses .writeEntryGroup s r rest .groupActive) ∧
      (s.groups[g].enabled = false →
        let bHi := min 255 (max 1 c.bHi)
        let stored : GroupRecord :=
          { c with
              cycles := min 16 (max 1 c.cycles)
              gapLimit := min 16 (max 1 c.gapLimit)
              deadband := min 8388607 c.deadband
              fundFloor := min 8388607 c.fundFloor
              dcFloor := min 8388607 c.dcFloor
              bHi := bHi
              bLo := if bHi ≤ c.bLo then bHi - 1 else c.bLo
              tripWeight := min 8 (max 1 c.tripWeight)
              tripPersistence := min 16 (max 1 c.tripPersistence) }
        Serves .writeEntryGroup s r (if stored = c then .done else .doneClamped) .empty
          { taken r rest s with groups := upd s.groups g { s.groups[g] with config := stored } }))

/-- WRITE ENTRY of the limit bank: BAD-FIELD, then BAD-LENGTH, then COMMIT-PENDING; otherwise the named rows of NEXT take
the thresholds carried, put in rising order, no other row and no other bank changes, and DONE-CLAMPED carries the set of
the rows that were clamped (R109, R110). Rows are in range when the first is at most 18, the count 1 to 19, and the first
plus the count at most 19 (R109). That BAD-FIELD comes before BAD-LENGTH is the model's choice (log entry 19). -/
def Obligations.LimitWritesGoToNextAlone : Prop :=
  (∀ first count : Nat,
    rowsInRange first count = true ↔ first ≤ 18 ∧ 1 ≤ count ∧ count ≤ 19 ∧ first + count ≤ 19) ∧
  ∀ (s : State) (r : Request) (rest : List Request), HeadNames s r rest .writeEntry .limits 4 →
    (8 ≤ argOf r 1 ∨ rowsInRange (argOf r 2) (argOf r 3) = false →
      Refuses .writeEntryLimitBank s r rest .badField) ∧
    (∀ g, groupArg (argOf r 1) = some g → rowsInRange (argOf r 2) (argOf r 3) = true →
      (r.argLen < 4 + 6 * argOf r 3 → Refuses .writeEntryLimitBank s r rest .badLength) ∧
      (4 + 6 * argOf r 3 ≤ r.argLen →
        (s.groups[g].commitPending = true → Refuses .writeEntryLimitBank s r rest .commitPending) ∧
        (s.groups[g].commitPending = false →
          let named (k : Fin 19) : Prop := argOf r 2 ≤ k.val ∧ k.val < argOf r 2 + argOf r 3
          let carried (k : Fin 19) : LimitRow :=
            let i := 4 + 6 * (k.val - argOf r 2)
            { notice := numberAt r.body i 2, alert := numberAt r.body (i + 2) 2, trip := numberAt r.body (i + 4) 2 }
          ∃ (bank : Vector LimitRow 19) (status : Status) (payload : Payload),
            Serves .writeEntryLimitBank s r status payload
              { taken r rest s with groups := upd s.groups g { s.groups[g] with nextBank := bank } } ∧
            (∀ k : Fin 19,
              let alert := if (carried k).alert ≠ 0 ∧ (carried k).alert < (carried k).notice then (carried k).notice
                else (carried k).alert
              let top := max (carried k).notice alert
              (named k → bank[k] =
                { notice := (carried k).notice, alert := alert,
                  trip := if (carried k).trip ≠ 0 ∧ (carried k).trip < top then top else (carried k).trip }) ∧
              (¬named k → bank[k] = s.groups[g].nextBank[k])) ∧
            ((∀ k, named k → bank[k] = carried k) → status = .done ∧ payload = .empty) ∧
            ((∃ k, named k ∧ bank[k] ≠ carried k) →
              status = .doneClamped ∧
                ∃ rows : BitVec 19, payload = .clampedRows rows ∧
                  ∀ k : Fin 19, rows.getLsbD k.val = true ↔ named k ∧ bank[k] ≠ carried k))))

/-- WRITE ENTRY of the part settings: an address with its group bit set is BAD-FIELD; otherwise the clamped settings are
stored, the address becomes the pending one alone, and the suspension state follows the new watermarks (R38, R39,
R180, R181). The address stands in argument bytes 2 to 7, its group bit bit 0 of the first, and the high watermark, the low
one and K in bytes 8, 9 and 10 (R199). That the index byte is not checked is the model's reading (log entry 27). -/
def Obligations.PartSettingsAreWrittenTogether : Prop :=
  (∀ b : List Byte,
    (be48 b 2).toNat = numberAt b 2 6 ∧ (be48 b 2).getLsbD 40 = (byteAt b 2).getLsbD 0 ∧
      parseSettings b =
        { high := numberAt b 8 1, low := numberAt b 9 1, starvationLimit := numberAt b 10 1 }) ∧
  ∀ (s : State) (r : Request) (rest : List Request), HeadNames s r rest .writeEntry .settings 11 →
    let a : Addr := be48 r.body 2
    let p := parseSettings r.body
    let high := min 48 (max 1 p.high)
    let stored : PartSettings :=
      { high := high, low := if high ≤ p.low then high - 1 else p.low, starvationLimit := max 1 p.starvationLimit }
    (a.getLsbD 40 = true → Refuses .writeEntryPartSettings s r rest .badField) ∧
    (a.getLsbD 40 = false →
      Serves .writeEntryPartSettings s r (if stored = p then .done else .doneClamped) .empty
        { taken r rest s with
            settings := stored, pendingAddress := a,
            queue := { s.queue with suspended :=
              if stored.high ≤ s.queue.entries.length then true
              else if s.queue.entries.length ≤ stored.low then false
              else s.queue.suspended } })

/-- COMMIT LIMITS: a group above 7 is BAD-FIELD; for an enabled group the flag is set and the banks stay; for a disabled
one the commit is taken at once, with its event (R112, R113, R115, R117). -/
def Obligations.CommitLimitsIsTakenOrPends : Prop :=
  ∀ (s : State) (r : Request) (rest : List Request), HeadAsks s r rest .commitLimits 1 →
    (8 ≤ argOf r 0 → Refuses .commitLimits s r rest .badField) ∧
    ∀ g, groupArg (argOf r 0) = some g →
      (s.groups[g].enabled = true →
        Serves .commitLimits s r .done (.commit s.groups[g].generation true)
          { taken r rest s with groups := upd s.groups g { s.groups[g] with commitPending := true } }) ∧
      (s.groups[g].enabled = false →
        Serves .commitLimits s r .done (.commit (s.groups[g].generation + 1) false)
          { taken r rest s with
              groups := upd s.groups g
                { s.groups[g] with nowBank := s.groups[g].nextBank, generation := s.groups[g].generation + 1,
                                   commitPending := false }
              events := createEvent s.timer (.limitsCommitted g (s.groups[g].generation + 1)) none s.events })

/-- GROUP ENABLE: GROUP-ACTIVE, then BAD-CONFIG with the first failing check of R44's six and its place; otherwise the
group's analysis state is set as R45 gives, ACQUIRING or NO-SIGNAL by its stream's activity, with GROUP ENABLED and TIMING
(R44, R45), and both sets are IDLE and cleared, each keeping its number, start sequence, kind, C and limit generation (R65,
R78). Check 4 never fails first: a record that passes check 3 passes it. That check 6 names a DC entry of a group
without a DC slot as its place is the model's reading (log entry 12). -/
def Obligations.GroupEnableStartsAnalysis : Prop :=
  (∀ (e : StreamEntry) (cfg : GroupRecord),
    (validate e cfg = none ↔ ∀ n : Nat, 1 ≤ n → n ≤ 6 → RecordPasses e cfg n) ∧
    ∀ n : Nat, 1 ≤ n → n ≤ 6 → (∀ m : Nat, 1 ≤ m → m < n → RecordPasses e cfg m) → ¬RecordPasses e cfg n →
      ∃ place, validate e cfg = some { code := n, place := place } ∧ FailsAt e cfg n place) ∧
  ∀ (s : State) (r : Request) (rest : List Request) (g : GroupId), HeadAsks s r rest .groupEnable 1 →
    groupArg (argOf r 0) = some g →
    let cfg := s.groups[g].config
    let timing : Timing := if s.supervision[cfg.stream].activity = .active then .acquiring else .noSignal
    (s.groups[g].enabled = true → Refuses .groupEnable s r rest .groupActive) ∧
    (s.groups[g].enabled = false → ∀ f, validate s.streams[cfg.stream] cfg = some f →
      Serves .groupEnable s r .badConfig (.badConfig f.code f.place) (taken r rest s)) ∧
    (s.groups[g].enabled = false → validate s.streams[cfg.stream] cfg = none →
      ∃ grp : Group,
        Serves .groupEnable s r .done .empty
          { taken r rest s with
              groups := upd s.groups g grp
              events := createEvent s.timer (.timing g timing) none
                (createEvent s.timer (.groupEnabled g) none s.events) } ∧
        grp.config = cfg ∧ grp.counter = 0 ∧ grp.buffer = [] ∧
        grp.tracker =
          { timing := timing, armed := false, cycleCount := none, lockCount := 0, acqCount := 0, winCycles := 0,
            winSamples := 0, expected := none, last := Vector.replicate 4 0 } ∧
        grp.result = none ∧ grp.first = none ∧ grp.nextRows = 0 ∧
        grp.levelUnit = { bucket := 0, leakCounter := 0, run := 0, level := .normal } ∧
        (∀ i : SetIx, grp.sets[i] =
          { s.groups[g].sets[i] with
              state := .idle, m := 0, held := 0, clamped := 0, suspect := false,
              sums := Vector.replicate 4 SlotSums.zero }) ∧
        grp.nowBank = s.groups[g].nowBank ∧ grp.nextBank = s.groups[g].nextBank ∧
        grp.generation = s.groups[g].generation ∧ grp.commitPending = s.groups[g].commitPending)

/-- GROUP DISABLE: GROUP-INACTIVE for a disabled group; otherwise the window and the evaluation are ended, a pending
commit is taken, the level returns to NORMAL, an ARMED or FILLING capture is freed, the group is DISABLED with E_g
unset, its records keep their contents, and LIMITS COMMITTED (of a commit taken), GROUP DISABLED and TIMING are raised
in that order (R46, R78, R82, R114, R115, R117, R133, R168). The entries behind the group's in the wait list keep their
order, and an engine that is idle, or was busy with the group, takes the next head; an evaluation of another group goes
on (R79, R80, R82). Of the slot that the group owns, an ARMED or FILLING one becomes FREE, with the marker at the other
slot, and a HELD one keeps all but its auto mark (R168). The answer is DONE with the summary of the state after the disable
(R175). What a FREE slot's number, start sequence and timing kind stand at is the model's choice (log entry 7). -/
def Obligations.GroupDisableEndsAnalysis : Prop :=
  ∀ (s : State) (r : Request) (rest : List Request) (g : GroupId), HeadAsks s r rest .groupDisable 1 →
    groupArg (argOf r 0) = some g →
    (s.groups[g].enabled = false → Refuses .groupDisable s r rest .groupInactive) ∧
    (s.groups[g].enabled = true →
      ∃ t, Serves .groupDisable s r .done .empty t ∧ t.groups[g].tracker.timing = .disabled ∧
        t.groups[g].tracker.expected = none ∧ t.groups[g].buffer = [] ∧
        (∀ i : SetIx, t.groups[g].sets[i] =
          { s.groups[g].sets[i] with
              state := .idle, m := 0, held := 0, clamped := 0, suspect := false,
              sums := Vector.replicate 4 SlotSums.zero }) ∧
        t.groups[g].levelUnit = { bucket := 0, leakCounter := 0, run := 0, level := .normal } ∧
        t.groups[g].result = s.groups[g].result ∧ t.groups[g].first = s.groups[g].first ∧
        t.groups[g].nextRows = s.groups[g].nextRows ∧ t.groups[g].counter = s.groups[g].counter ∧
        t.groups[g].config = s.groups[g].config ∧ t.groups[g].commitPending = false ∧
        t.groups[g].nowBank = (if s.groups[g].commitPending then s.groups[g].nextBank else s.groups[g].nowBank) ∧
        t.groups[g].nextBank = s.groups[g].nextBank ∧
        t.groups[g].generation =
          (if s.groups[g].commitPending then s.groups[g].generation + 1 else s.groups[g].generation) ∧
        t.groups[g].tracker = { s.groups[g].tracker with timing := .disabled, expected := none } ∧
        t.events = createEvent s.timer (.timing g .disabled) none (createEvent s.timer (.groupDisabled g) none
          (if s.groups[g].commitPending then
            createEvent s.timer (.limitsCommitted g (s.groups[g].generation + 1)) none s.events
          else s.events)) ∧
        (let others := s.waitList.filter (fun h => decide (h ≠ g))
         (s.engine = none ∨ s.engine = some g →
           t.engine = others.head? ∧ t.waitList = others.tail ∧
             ∀ h : GroupId, h ≠ g →
               t.groups[h] = if others.head? = some h then beginEvaluation s.groups[h] else s.groups[h]) ∧
         (s.engine ≠ none → s.engine ≠ some g →
           t.engine = s.engine ∧ t.waitList = others ∧ ∀ h : GroupId, h ≠ g → t.groups[h] = s.groups[h])) ∧
        (let slots := s.captures.slots
         ((∀ j : CaptureIx, slots[j].owner ≠ some g) → t.captures = s.captures) ∧
         ∀ j : CaptureIx, slots[j].owner = some g → slots[other j].owner ≠ some g →
           (slots[j].state = .armed ∨ slots[j].state = .filling →
             t.captures = { slots := upd slots j CaptureSlot.free, marker := other j }) ∧
           (slots[j].state = .held →
             t.captures = { s.captures with slots := upd slots j { slots[j] with auto := false } }) ∧
           (slots[j].state = .free → t.captures = s.captures)) ∧
        t.captures = endGroupSlot g s.captures ∧ t.engine ≠ some g ∧ g ∉ t.waitList ∧
        t = { taken r rest s with
                groups := t.groups, events := t.events, captures := t.captures, engine := t.engine,
                waitList := t.waitList })

/-- READ RESULT and CLEAR FIRST answer the group's records; CLEAR FIRST empties the first-exceedance record and the
next-row set in the same act (R102, R144, R146). READ ARRAY answers the selected pair of sums of a set with the set's
state around it, by the table of R85, and changes nothing; an argument out of its range is BAD-FIELD (R85). -/
def Obligations.RecordsAreReadAndCleared : Prop :=
  ∀ (s : State) (r : Request) (rest : List Request),
    (HeadAsks s r rest .readResult 1 → 8 ≤ argOf r 0 → Refuses .readResult s r rest .badField) ∧
    (∀ g, HeadAsks s r rest .readResult 1 → groupArg (argOf r 0) = some g →
      Serves .readResult s r .done (.result s.groups[g].result s.groups[g].first s.groups[g].nextRows)
        (taken r rest s)) ∧
    (HeadAsks s r rest .clearFirst 1 → 8 ≤ argOf r 0 → Refuses .clearFirst s r rest .badField) ∧
    (∀ g, HeadAsks s r rest .clearFirst 1 → groupArg (argOf r 0) = some g →
      Serves .clearFirst s r .done (.first s.groups[g].first s.groups[g].nextRows)
        { taken r rest s with groups := upd s.groups g { s.groups[g] with first := none, nextRows := 0 } }) ∧
    (HeadAsks s r rest .readArray 4 →
      (8 ≤ argOf r 0 ∨ 2 ≤ argOf r 1 ∨ 4 ≤ argOf r 2 ∨ (16 ≤ argOf r 3 ∧ argOf r 3 ≠ 255) →
        Refuses .readArray s r rest .badField) ∧
      (∀ g i k sel, groupArg (argOf r 0) = some g → twoArg (argOf r 1) = some i → slotArg (argOf r 2) = some k →
        selectorArg (argOf r 3) = some sel →
        let grp := s.groups[g]
        let a := grp.sets[i]
        let sums := a.sums[k]
        let kept : Prop := ∃ kind value, grp.config.slots[k] = .used kind value ∧
          (sel = .fundamental ∨ ∃ n o, sel = .position n ∧ grp.config.orders[n.val]? = some o ∧ o.kind = kind)
        let isDc : Prop := ∃ value, grp.config.slots[k] = .used .dc value
        ∃ v : ArrayView, Serves .readArray s r .done (.array v) (taken r rest s) ∧
          v = { state := a.state, number := a.number, kind := a.kind, startSeq := a.startSeq, m := a.m, held := a.held,
                clamped := a.clamped, suspect := a.suspect, limitGen := a.limitGen, kept := v.kept, pair := v.pair,
                sum := v.sum, sumSq := v.sumSq, min := v.min, max := v.max, buffered := v.buffered } ∧
          (v.kept = true ↔ kept) ∧ (¬kept → v.pair = { re := 0, im := 0 }) ∧
          (kept → sel = .fundamental → v.pair = sums.fund) ∧
          (∀ n, kept → sel = .position n → v.pair = sums.pairs.getD n.val { re := 0, im := 0 }) ∧
          (isDc → v.sum = sums.sum ∧ v.sumSq = sums.sumSq ∧ v.min = sums.min ∧ v.max = sums.max) ∧
          (¬isDc → v.sum = 0 ∧ v.sumSq = 0 ∧ v.min = none ∧ v.max = none) ∧
          v.buffered =
            if grp.tracker.timing = .tracking ∧ a.state = .accumulating then grp.buffer.length else 0))

/-- RELEASE TRIP: BAD-FIELD, then NOT-TRIPPED, then STILL-TRIPPED; otherwise the run becomes 0, the level ALARM or
NORMAL by the bucket, the trip's hold is released, and a LEVEL event with cause RELEASE is raised (R130, R131, R167).
The trip's hold is that of the slot which the group owns with the auto mark: the mark is cleared and one hold released,
and at 0 the slot is FREE with the marker at the other; without such a slot the Capture Unit is not changed. What a FREE
slot's number, start sequence and timing kind stand at is the model's choice (log entry 7). -/
def Obligations.ReleaseTripReturnsTheLevel : Prop :=
  ∀ (s : State) (r : Request) (rest : List Request), HeadAsks s r rest .releaseTrip 1 →
    (8 ≤ argOf r 0 → Refuses .releaseTrip s r rest .badField) ∧
    ∀ g, groupArg (argOf r 0) = some g →
      let u := s.groups[g].levelUnit
      let level : Level := if s.groups[g].config.bLo < u.bucket then .alarm else .normal
      (u.level ≠ .tripped → Refuses .releaseTrip s r rest .notTripped) ∧
      (u.level = .tripped → (∃ w, s.groups[g].result = some w ∧ w.level = .trip) →
        Refuses .releaseTrip s r rest .stillTripped) ∧
      (u.level = .tripped → (∀ w, s.groups[g].result = some w → w.level ≠ .trip) →
        Serves .releaseTrip s r .done .empty
          { taken r rest s with
              groups := upd s.groups g { s.groups[g] with levelUnit := { u with run := 0, level := level } }
              captures := releaseTripHold g s.captures
              events := createEvent s.timer (.level g level .release) none s.events }) ∧
      let slots := s.captures.slots
      ((∀ j : CaptureIx, slots[j].owner = some g → slots[j].auto = false) → releaseTripHold g s.captures = s.captures) ∧
      ∀ j : CaptureIx, slots[j].owner = some g → slots[other j].owner ≠ some g → slots[j].auto = true →
        (2 ≤ slots[j].holds →
          releaseTripHold g s.captures =
            { s.captures with slots := upd slots j { slots[j] with holds := slots[j].holds - 1, auto := false } }) ∧
        (slots[j].holds ≤ 1 →
          releaseTripHold g s.captures = { slots := upd slots j CaptureSlot.free, marker := other j })

/-- SNAP: BAD-FIELD for a group above 7; GROUP-INACTIVE for a disabled one; a group that owns a slot adds a hold to it
below 15, and is HOLD-LIMIT at 15; a group that owns none takes a FREE slot, the marked one of two, and is NO-SLOT
without one (R158, R159). An ARMED slot has no content: its content fields read as 0 or unused (R156). -/
def Obligations.SnapClaimsOneSlot : Prop :=
  ∀ (s : State) (r : Request) (rest : List Request), CapturesLawful s.captures → HeadAsks s r rest .snap 1 →
    (8 ≤ argOf r 0 → Refuses .snap s r rest .badField) ∧
    ∀ g, groupArg (argOf r 0) = some g →
      let c := s.captures
      let armed : CaptureSlot :=
        { CaptureSlot.free with state := .armed, owner := some g, holds := 1, trigger := some .snap }
      (s.groups[g].enabled = false → Refuses .snap s r rest .groupInactive) ∧
      (s.groups[g].enabled = true →
        (∀ i : CaptureIx, c.slots[i].owner = some g →
          (c.slots[i].holds = 15 → Refuses .snap s r rest .holdLimit) ∧
          (c.slots[i].holds < 15 →
            Serves .snap s r .done (.snap i c.slots[i].state (c.slots[i].holds + 1) false)
              { taken r rest s with captures :=
                  { c with slots := upd c.slots i { c.slots[i] with holds := c.slots[i].holds + 1 } } })) ∧
        ((∀ i : CaptureIx, c.slots[i].owner ≠ some g) →
          ((∀ i : CaptureIx, c.slots[i].state ≠ .free) → Refuses .snap s r rest .noSlot) ∧
          (∀ i : CaptureIx, c.slots[i].state = .free → (c.slots[other i].state = .free → c.marker = i) →
            Serves .snap s r .done (.snap i .armed 1 true)
              { taken r rest s with captures := { c with slots := upd c.slots i armed } })))

/-- HOLD CAPTURE adds a hold to a slot that is not FREE, below 15; RELEASE CAPTURE removes one, and at 0 the slot is
FREE and the marker names the other; READ CAPTURE returns up to 256 values of one channel of a HELD slot. A slot above 1
is BAD-FIELD, and each refusal is that of its rule (R165, R166, R170). Each answer DONE carries the slot it concerns
(R172). What a FREE slot's number, start sequence and timing kind stand at is the model's choice (log entry 7).

The answer to READ CAPTURE carries the descriptor of R170, and as many values as remain from the start on, up to 256, of a
used slot's channel, none of an unused one's. Its bytes are 28 and then three for each value (R196); that the 28 are free
is log entry 13, and that the three hold a negative value in two's complement is the model's choice (log entry 33). -/
def Obligations.CaptureSlotsAreHeldReleasedAndRead : Prop :=
  (∀ (slot : CaptureIx) (d : CaptureDescriptor) (channel start : Nat) (values : List Int),
    ∃ head : List Byte, head.length = 28 ∧
      payloadBytes (.capture slot d channel start values) =
        head ++ values.flatMap (fun v => fieldOf 3 (v % 16777216).toNat)) ∧
  ∀ (s : State) (r : Request) (rest : List Request),
    (HeadAsks s r rest .holdCapture 1 →
      (2 ≤ argOf r 0 → Refuses .holdCapture s r rest .badField) ∧
      ∀ i : CaptureIx, twoArg (argOf r 0) = some i →
        let x := s.captures.slots[i]
        (x.state = .free → Refuses .holdCapture s r rest .notHeld) ∧
        (x.state ≠ .free → 15 ≤ x.holds → Refuses .holdCapture s r rest .holdLimit) ∧
        (x.state ≠ .free → x.holds < 15 →
          Serves .holdCapture s r .done (.hold i x.state x.owner (x.holds + 1))
            { taken r rest s with captures :=
                { s.captures with slots := upd s.captures.slots i { x with holds := x.holds + 1 } } })) ∧
    (HeadAsks s r rest .releaseCapture 1 →
      (2 ≤ argOf r 0 → Refuses .releaseCapture s r rest .badField) ∧
      ∀ i : CaptureIx, twoArg (argOf r 0) = some i →
        let x := s.captures.slots[i]
        (x.state = .free → Refuses .releaseCapture s r rest .notHeld) ∧
        (x.state ≠ .free → 2 ≤ x.holds →
          Serves .releaseCapture s r .done (.release i x.state (x.holds - 1))
            { taken r rest s with captures :=
                { s.captures with slots := upd s.captures.slots i { x with holds := x.holds - 1 } } }) ∧
        (x.state ≠ .free → x.holds ≤ 1 →
          Serves .releaseCapture s r .done (.release i .free 0)
            { taken r rest s with captures :=
                { slots := upd s.captures.slots i CaptureSlot.free, marker := other i } })) ∧
    (HeadAsks s r rest .readCapture 4 →
      (2 ≤ argOf r 0 ∨ 4 ≤ argOf r 1 → Refuses .readCapture s r rest .badField) ∧
      ∀ (i : CaptureIx) (k : SlotIx), twoArg (argOf r 0) = some i → slotArg (argOf r 1) = some k →
        let x := s.captures.slots[i]
        let start := beNat r.body 2 2
        (x.state ≠ .held → Refuses .readCapture s r rest .notReady) ∧
        (x.state = .held → x.count ≤ start → Refuses .readCapture s r rest .badField) ∧
        (x.state = .held → start < x.count →
          let d : CaptureDescriptor :=
            { owner := x.owner, holds := x.holds, auto := x.auto, trigger := x.trigger, number := x.number,
              startSeq := x.startSeq, kind := x.kind, count := x.count, map := x.map }
          let values := (x.channels[k].drop start).take 256
          Serves .readCapture s r .done (.capture i d k.val start values) (taken r rest s) ∧
            (CapturesLawful s.captures →
              values.length = if x.map[k] = .unused then 0 else min 256 (x.count - start))))

/-- READ EVENTS removes the oldest records, as many as asked and as the queue holds, and answers them with the number
that remain; 0 is taken as 1 and above 16 as 16, which makes the answer DONE-CLAMPED (R153). That a clamped n at an empty
queue is answered DONE-CLAMPED, where R153's words give DONE as well, is the model's choice (log entry 32). The payload is
the count returned, the count remaining and the records, 16 bytes each, by R201, with the kinds of R151. -/
def Obligations.ReadEventsRemovesTheOldestRecords : Prop :=
  (∀ (records : List EventRecord) (remaining : Nat),
    let group (g : GroupId) : Nat := 64 + g.val
    let stream (i : StreamId) : Nat := 128 + i.val
    let parts (e : Event) : Nat × Nat × Nat × Nat := match e with
      | .groupEnabled g => (1, group g, 0, 0)
      | .groupDisabled g => (2, group g, 0, 0)
      | .timing g .disabled => (3, group g, 0, 0)
      | .timing g .noSignal => (3, group g, 1, 0)
      | .timing g .acquiring => (3, group g, 2, 0)
      | .timing g .tracking => (3, group g, 3, 0)
      | .timing g .holdover => (3, group g, 4, 0)
      | .timing g .aligning => (3, group g, 5, 0)
      | .level g .normal cause => (4, group g, 0, if cause = .window then 0 else 1)
      | .level g .alarm cause => (4, group g, 1, if cause = .window then 0 else 1)
      | .level g .tripped cause => (4, group g, 2, if cause = .window then 0 else 1)
      | .windowAborted g .timingLoss => (5, group g, 0, 0)
      | .windowAborted g .gap => (5, group g, 1, 0)
      | .windowAborted g .silence => (5, group g, 2, 0)
      | .overrun g => (6, group g, 0, 0)
      | .streamActive i => (7, stream i, 0, 0)
      | .streamSilent i => (8, stream i, 0, 0)
      | .rateSuspect i => (9, stream i, 0, 0)
      | .rateOk i => (10, stream i, 0, 0)
      | .sequenceRange i => (11, stream i, 0, 0)
      | .captureReady g slot => (12, group g, slot.val, 0)
      | .captureMiss g reason => (13, group g, 1, if reason = .noSlot then 0 else 1)
      | .limitsCommitted g generation => (14, group g, generation.toNat, 0)
      | .storeDone => (15, 0, 0, 0)
      | .storeFault => (16, 0, 0, 0)
    let bytes (r : EventRecord) : List Byte :=
      let p := parts r.event
      fieldOf 2 r.seq.toNat ++ fieldOf 4 r.stamp.toNat ++ fieldOf 1 p.1 ++ fieldOf 1 p.2.1 ++ fieldOf 1 p.2.2.1 ++
        fieldOf 1 p.2.2.2 ++ fieldOf 2 (r.detail2.getD 0).toNat ++
        fieldOf 1 ((if r.detail2.isSome then 1 else 0) + (if r.lostAfter then 2 else 0)) ++ [0, 0, 0]
    payloadBytes (.events records remaining) =
      fieldOf 1 records.length ++ fieldOf 1 remaining ++ records.flatMap bytes) ∧
  ∀ (s : State) (r : Request) (rest : List Request), HeadAsks s r rest .readEvents 1 →
    let n := min 16 (max 1 (argOf r 0))
    Serves .readEvents s r (if n = argOf r 0 then .done else .doneClamped)
      (.events (s.events.records.take n) (s.events.records.length - n))
      { taken r rest s with events := { s.events with records := s.events.records.drop n } }

/-- STORE CONFIG is refused while a store is in progress; otherwise the working tables are copied, the activity is BUSY
from the timer value at the taking, and the existing image is invalidated (R187, R189, R190). -/
def Obligations.StoreConfigTakesASnapshot : Prop :=
  ∀ (s : State) (r : Request) (rest : List Request), HeadAsks s r rest .storeConfig 0 →
    (s.store.snapshot ≠ none → Refuses .storeConfig s r rest .storeBusy) ∧
    (s.store.snapshot = none →
      ∃ x : ImageContents,
        Serves .storeConfig s r .done .empty
          { taken r rest s with
              store := { s.store with snapshot := some x, taken := s.timer, image := .blank } } ∧
        x.streams = s.streams ∧ x.settings = s.settings ∧ x.address = s.pendingAddress ∧
        ∀ g : GroupId, x.records[g] = s.groups[g].config ∧ x.nowBanks[g] = s.groups[g].nowBank)

/-- RESTART ANALYSIS returns every enabled group to its starting point in NO-SIGNAL, taking a pending commit, leaves a
disabled one as it is, ends the captures that are not complete, and empties the Analysis Queue and the supervision
records; the frame path, the tables and the store stay (R20, R40, R47, R168, R185). In order of group number LIMITS
COMMITTED of a commit taken, then TIMING unless the group was in NO-SIGNAL, are raised (R47, R114, R115). An ARMED or
FILLING slot becomes FREE, slot 0 before slot 1, with the marker at the other slot of the last one freed, a HELD one
keeps all but its auto mark, and a FREE one stays (R168). The answer is DONE with the summary of the state after the restart
(R175). That a rate check which has fallen due is withdrawn, `rateDue` clear, is the model's reading (log entry 24). What
a FREE slot's number, start sequence and timing kind stand at is the model's choice (log entry 7). -/
def Obligations.RestartReturnsTheAnalysis : Prop :=
  ∀ (s : State) (r : Request) (rest : List Request), AnalysisLawful s →
    HeadAsks s r rest .restartAnalysis 0 →
    ∃ t, Serves .restartAnalysis s r .done .empty t ∧
      (∀ g : GroupId,
        (s.groups[g].enabled = false → t.groups[g] = s.groups[g]) ∧
        (s.groups[g].enabled = true →
          t.groups[g].tracker =
              { timing := .noSignal, armed := false, cycleCount := none, lockCount := 0, acqCount := 0, winCycles := 0,
                winSamples := 0, expected := none, last := Vector.replicate 4 0 } ∧
            t.groups[g].counter = 0 ∧ t.groups[g].buffer = [] ∧
            t.groups[g].result = none ∧ t.groups[g].first = none ∧ t.groups[g].nextRows = 0 ∧
            t.groups[g].levelUnit = { bucket := 0, leakCounter := 0, run := 0, level := .normal } ∧
            (∀ i : SetIx, t.groups[g].sets[i].state = .idle) ∧ t.groups[g].config = s.groups[g].config ∧
            t.groups[g].commitPending = false ∧ t.groups[g].nextBank = s.groups[g].nextBank ∧
            t.groups[g].nowBank =
              (if s.groups[g].commitPending then s.groups[g].nextBank else s.groups[g].nowBank) ∧
            t.groups[g].generation =
              (if s.groups[g].commitPending then s.groups[g].generation + 1 else s.groups[g].generation) ∧
            ∀ i : SetIx, t.groups[g].sets[i] =
              { s.groups[g].sets[i] with
                  state := .idle, m := 0, held := 0, clamped := 0, suspect := false,
                  sums := Vector.replicate 4 SlotSums.zero })) ∧
      t.events = groupIxs.foldl (fun q g =>
        if s.groups[g].enabled then
          let q1 := if s.groups[g].commitPending then
              createEvent s.timer (.limitsCommitted g (s.groups[g].generation + 1)) none q
            else q
          if s.groups[g].tracker.timing = .noSignal then q1 else createEvent s.timer (.timing g .noSignal) none q1
        else q) s.events ∧
      (let slots := s.captures.slots
       let freed (j : CaptureIx) : Prop := slots[j].state = .armed ∨ slots[j].state = .filling
       (∀ j : CaptureIx,
         (freed j → t.captures.slots[j] = CaptureSlot.free) ∧
         (slots[j].state = .held → t.captures.slots[j] = { slots[j] with auto := false }) ∧
         (slots[j].state = .free → t.captures.slots[j] = slots[j])) ∧
       (freed 1 → t.captures.marker = 0) ∧ (freed 0 → ¬freed 1 → t.captures.marker = 1) ∧
       (¬freed 0 → ¬freed 1 → t.captures.marker = s.captures.marker)) ∧
      t.engine = none ∧ t.waitList = [] ∧
      t.queue = { entries := [], served := [], noticeAtLeave := false, suspended := false } ∧
      (∀ i : StreamId, t.supervision[i] =
        { activity := .unseen, expected := 0, deadline := none, count := 0, fullInterval := false, suspect := false,
          rangeMark := false, lastSync := false }) ∧
      t.rateClock = 0 ∧ t.rateDue = false ∧
      (summaryOf t).tripped = 0 ∧ (summaryOf t).alarmed = 0 ∧
      t = { taken r rest s with
              groups := t.groups, events := t.events, captures := t.captures, engine := t.engine,
              waitList := t.waitList, queue := t.queue, supervision := t.supervision, rateClock := t.rateClock,
              rateDue := t.rateDue }
end

