-- ==== Sys2Proof/Laws/State.lean ====
section
/-! SUPPORT. One lemma per field per named update of the state, each true by unfolding, so that no proof about a field
unfolds an update. -/

namespace Sys2Proof.Machine

@[simp] theorem withPending_pending (s : State) (l : List Instr) : (withPending l s).pending = l := rfl
@[simp] theorem withPending_power (s : State) (l : List Instr) : (withPending l s).power = s.power := rfl
@[simp] theorem withPending_switch (s : State) (l : List Instr) : (withPending l s).switch = s.switch := rfl
@[simp] theorem withPending_timer (s : State) (l : List Instr) : (withPending l s).timer = s.timer := rfl
@[simp] theorem withPending_ident (s : State) (l : List Instr) : (withPending l s).ident = s.ident := rfl
@[simp] theorem withPending_path (s : State) (l : List Instr) : (withPending l s).path = s.path := rfl
@[simp] theorem withPending_streams (s : State) (l : List Instr) : (withPending l s).streams = s.streams := rfl
@[simp] theorem withPending_supervision (s : State) (l : List Instr) : (withPending l s).supervision = s.supervision := rfl
@[simp] theorem withPending_rateClock (s : State) (l : List Instr) : (withPending l s).rateClock = s.rateClock := rfl
@[simp] theorem withPending_rateDue (s : State) (l : List Instr) : (withPending l s).rateDue = s.rateDue := rfl
@[simp] theorem withPending_queue (s : State) (l : List Instr) : (withPending l s).queue = s.queue := rfl
@[simp] theorem withPending_settings (s : State) (l : List Instr) : (withPending l s).settings = s.settings := rfl
@[simp] theorem withPending_activeAddress (s : State) (l : List Instr) : (withPending l s).activeAddress = s.activeAddress := rfl
@[simp] theorem withPending_pendingAddress (s : State) (l : List Instr) : (withPending l s).pendingAddress = s.pendingAddress := rfl
@[simp] theorem withPending_groups (s : State) (l : List Instr) : (withPending l s).groups = s.groups := rfl
@[simp] theorem withPending_engine (s : State) (l : List Instr) : (withPending l s).engine = s.engine := rfl
@[simp] theorem withPending_waitList (s : State) (l : List Instr) : (withPending l s).waitList = s.waitList := rfl
@[simp] theorem withPending_events (s : State) (l : List Instr) : (withPending l s).events = s.events := rfl
@[simp] theorem withPending_captures (s : State) (l : List Instr) : (withPending l s).captures = s.captures := rfl
@[simp] theorem withPending_mgmt (s : State) (l : List Instr) : (withPending l s).mgmt = s.mgmt := rfl
@[simp] theorem withPending_store (s : State) (l : List Instr) : (withPending l s).store = s.store := rfl
@[simp] theorem withPending_lines (s : State) (l : List Instr) : (withPending l s).lines = s.lines := rfl
@[simp] theorem withPending_freeCount (s : State) (l : List Instr) : (withPending l s).freeCount = s.freeCount := rfl

@[simp] theorem driveLines_pending (s : State) : (driveLines s).pending = s.pending := rfl
@[simp] theorem driveLines_power (s : State) : (driveLines s).power = s.power := rfl
@[simp] theorem driveLines_switch (s : State) : (driveLines s).switch = s.switch := rfl
@[simp] theorem driveLines_timer (s : State) : (driveLines s).timer = s.timer := rfl
@[simp] theorem driveLines_ident (s : State) : (driveLines s).ident = s.ident := rfl
@[simp] theorem driveLines_path (s : State) : (driveLines s).path = s.path := rfl
@[simp] theorem driveLines_streams (s : State) : (driveLines s).streams = s.streams := rfl
@[simp] theorem driveLines_supervision (s : State) : (driveLines s).supervision = s.supervision := rfl
@[simp] theorem driveLines_rateClock (s : State) : (driveLines s).rateClock = s.rateClock := rfl
@[simp] theorem driveLines_rateDue (s : State) : (driveLines s).rateDue = s.rateDue := rfl
@[simp] theorem driveLines_queue (s : State) : (driveLines s).queue = s.queue := rfl
@[simp] theorem driveLines_settings (s : State) : (driveLines s).settings = s.settings := rfl
@[simp] theorem driveLines_activeAddress (s : State) : (driveLines s).activeAddress = s.activeAddress := rfl
@[simp] theorem driveLines_pendingAddress (s : State) : (driveLines s).pendingAddress = s.pendingAddress := rfl
@[simp] theorem driveLines_groups (s : State) : (driveLines s).groups = s.groups := rfl
@[simp] theorem driveLines_engine (s : State) : (driveLines s).engine = s.engine := rfl
@[simp] theorem driveLines_waitList (s : State) : (driveLines s).waitList = s.waitList := rfl
@[simp] theorem driveLines_events (s : State) : (driveLines s).events = s.events := rfl
@[simp] theorem driveLines_captures (s : State) : (driveLines s).captures = s.captures := rfl
@[simp] theorem driveLines_mgmt (s : State) : (driveLines s).mgmt = s.mgmt := rfl
@[simp] theorem driveLines_store (s : State) : (driveLines s).store = s.store := rfl
@[simp] theorem driveLines_lines (s : State) : (driveLines s).lines = lineConditions s := rfl
@[simp] theorem driveLines_freeCount (s : State) : (driveLines s).freeCount = s.freeCount := rfl

@[simp] theorem putGroup_pending (s : State) (g : GroupId) (v : GroupView) : (putGroup s g v).pending = s.pending := rfl
@[simp] theorem putGroup_power (s : State) (g : GroupId) (v : GroupView) : (putGroup s g v).power = s.power := rfl
@[simp] theorem putGroup_switch (s : State) (g : GroupId) (v : GroupView) : (putGroup s g v).switch = s.switch := rfl
@[simp] theorem putGroup_timer (s : State) (g : GroupId) (v : GroupView) : (putGroup s g v).timer = s.timer := rfl
@[simp] theorem putGroup_ident (s : State) (g : GroupId) (v : GroupView) : (putGroup s g v).ident = s.ident := rfl
@[simp] theorem putGroup_path (s : State) (g : GroupId) (v : GroupView) : (putGroup s g v).path = s.path := rfl
@[simp] theorem putGroup_streams (s : State) (g : GroupId) (v : GroupView) : (putGroup s g v).streams = s.streams := rfl
@[simp] theorem putGroup_supervision (s : State) (g : GroupId) (v : GroupView) : (putGroup s g v).supervision = s.supervision := rfl
@[simp] theorem putGroup_rateClock (s : State) (g : GroupId) (v : GroupView) : (putGroup s g v).rateClock = s.rateClock := rfl
@[simp] theorem putGroup_rateDue (s : State) (g : GroupId) (v : GroupView) : (putGroup s g v).rateDue = s.rateDue := rfl
@[simp] theorem putGroup_queue (s : State) (g : GroupId) (v : GroupView) : (putGroup s g v).queue = s.queue := rfl
@[simp] theorem putGroup_settings (s : State) (g : GroupId) (v : GroupView) : (putGroup s g v).settings = s.settings := rfl
@[simp] theorem putGroup_activeAddress (s : State) (g : GroupId) (v : GroupView) : (putGroup s g v).activeAddress = s.activeAddress := rfl
@[simp] theorem putGroup_pendingAddress (s : State) (g : GroupId) (v : GroupView) : (putGroup s g v).pendingAddress = s.pendingAddress := rfl
@[simp] theorem putGroup_groups (s : State) (g : GroupId) (v : GroupView) : (putGroup s g v).groups = upd s.groups g v.grp := rfl
@[simp] theorem putGroup_engine (s : State) (g : GroupId) (v : GroupView) : (putGroup s g v).engine = s.engine := rfl
@[simp] theorem putGroup_waitList (s : State) (g : GroupId) (v : GroupView) : (putGroup s g v).waitList = v.waitList := rfl
@[simp] theorem putGroup_events (s : State) (g : GroupId) (v : GroupView) : (putGroup s g v).events = v.events := rfl
@[simp] theorem putGroup_captures (s : State) (g : GroupId) (v : GroupView) : (putGroup s g v).captures = v.captures := rfl
@[simp] theorem putGroup_mgmt (s : State) (g : GroupId) (v : GroupView) : (putGroup s g v).mgmt = s.mgmt := rfl
@[simp] theorem putGroup_store (s : State) (g : GroupId) (v : GroupView) : (putGroup s g v).store = s.store := rfl
@[simp] theorem putGroup_lines (s : State) (g : GroupId) (v : GroupView) : (putGroup s g v).lines = s.lines := rfl
@[simp] theorem putGroup_freeCount (s : State) (g : GroupId) (v : GroupView) : (putGroup s g v).freeCount = s.freeCount := rfl

@[simp] theorem raiseAt_pending (s : State) (e : Event) : (raiseAt e s).pending = s.pending := rfl
@[simp] theorem raiseAt_power (s : State) (e : Event) : (raiseAt e s).power = s.power := rfl
@[simp] theorem raiseAt_switch (s : State) (e : Event) : (raiseAt e s).switch = s.switch := rfl
@[simp] theorem raiseAt_timer (s : State) (e : Event) : (raiseAt e s).timer = s.timer := rfl
@[simp] theorem raiseAt_ident (s : State) (e : Event) : (raiseAt e s).ident = s.ident := rfl
@[simp] theorem raiseAt_path (s : State) (e : Event) : (raiseAt e s).path = s.path := rfl
@[simp] theorem raiseAt_streams (s : State) (e : Event) : (raiseAt e s).streams = s.streams := rfl
@[simp] theorem raiseAt_supervision (s : State) (e : Event) : (raiseAt e s).supervision = s.supervision := rfl
@[simp] theorem raiseAt_rateClock (s : State) (e : Event) : (raiseAt e s).rateClock = s.rateClock := rfl
@[simp] theorem raiseAt_rateDue (s : State) (e : Event) : (raiseAt e s).rateDue = s.rateDue := rfl
@[simp] theorem raiseAt_queue (s : State) (e : Event) : (raiseAt e s).queue = s.queue := rfl
@[simp] theorem raiseAt_settings (s : State) (e : Event) : (raiseAt e s).settings = s.settings := rfl
@[simp] theorem raiseAt_activeAddress (s : State) (e : Event) : (raiseAt e s).activeAddress = s.activeAddress := rfl
@[simp] theorem raiseAt_pendingAddress (s : State) (e : Event) : (raiseAt e s).pendingAddress = s.pendingAddress := rfl
@[simp] theorem raiseAt_groups (s : State) (e : Event) : (raiseAt e s).groups = s.groups := rfl
@[simp] theorem raiseAt_engine (s : State) (e : Event) : (raiseAt e s).engine = s.engine := rfl
@[simp] theorem raiseAt_waitList (s : State) (e : Event) : (raiseAt e s).waitList = s.waitList := rfl
@[simp] theorem raiseAt_events (s : State) (e : Event) : (raiseAt e s).events = createEvent s.timer e none s.events := rfl
@[simp] theorem raiseAt_captures (s : State) (e : Event) : (raiseAt e s).captures = s.captures := rfl
@[simp] theorem raiseAt_mgmt (s : State) (e : Event) : (raiseAt e s).mgmt = s.mgmt := rfl
@[simp] theorem raiseAt_store (s : State) (e : Event) : (raiseAt e s).store = s.store := rfl
@[simp] theorem raiseAt_lines (s : State) (e : Event) : (raiseAt e s).lines = s.lines := rfl
@[simp] theorem raiseAt_freeCount (s : State) (e : Event) : (raiseAt e s).freeCount = s.freeCount := rfl

@[simp] theorem setSupervision_pending (s : State) (i : StreamId) (r : Supervision) : (setSupervision i r s).pending = s.pending := rfl
@[simp] theorem setSupervision_power (s : State) (i : StreamId) (r : Supervision) : (setSupervision i r s).power = s.power := rfl
@[simp] theorem setSupervision_switch (s : State) (i : StreamId) (r : Supervision) : (setSupervision i r s).switch = s.switch := rfl
@[simp] theorem setSupervision_timer (s : State) (i : StreamId) (r : Supervision) : (setSupervision i r s).timer = s.timer := rfl
@[simp] theorem setSupervision_ident (s : State) (i : StreamId) (r : Supervision) : (setSupervision i r s).ident = s.ident := rfl
@[simp] theorem setSupervision_path (s : State) (i : StreamId) (r : Supervision) : (setSupervision i r s).path = s.path := rfl
@[simp] theorem setSupervision_streams (s : State) (i : StreamId) (r : Supervision) : (setSupervision i r s).streams = s.streams := rfl
@[simp] theorem setSupervision_supervision (s : State) (i : StreamId) (r : Supervision) : (setSupervision i r s).supervision = upd s.supervision i r := rfl
@[simp] theorem setSupervision_rateClock (s : State) (i : StreamId) (r : Supervision) : (setSupervision i r s).rateClock = s.rateClock := rfl
@[simp] theorem setSupervision_rateDue (s : State) (i : StreamId) (r : Supervision) : (setSupervision i r s).rateDue = s.rateDue := rfl
@[simp] theorem setSupervision_queue (s : State) (i : StreamId) (r : Supervision) : (setSupervision i r s).queue = s.queue := rfl
@[simp] theorem setSupervision_settings (s : State) (i : StreamId) (r : Supervision) : (setSupervision i r s).settings = s.settings := rfl
@[simp] theorem setSupervision_activeAddress (s : State) (i : StreamId) (r : Supervision) : (setSupervision i r s).activeAddress = s.activeAddress := rfl
@[simp] theorem setSupervision_pendingAddress (s : State) (i : StreamId) (r : Supervision) : (setSupervision i r s).pendingAddress = s.pendingAddress := rfl
@[simp] theorem setSupervision_groups (s : State) (i : StreamId) (r : Supervision) : (setSupervision i r s).groups = s.groups := rfl
@[simp] theorem setSupervision_engine (s : State) (i : StreamId) (r : Supervision) : (setSupervision i r s).engine = s.engine := rfl
@[simp] theorem setSupervision_waitList (s : State) (i : StreamId) (r : Supervision) : (setSupervision i r s).waitList = s.waitList := rfl
@[simp] theorem setSupervision_events (s : State) (i : StreamId) (r : Supervision) : (setSupervision i r s).events = s.events := rfl
@[simp] theorem setSupervision_captures (s : State) (i : StreamId) (r : Supervision) : (setSupervision i r s).captures = s.captures := rfl
@[simp] theorem setSupervision_mgmt (s : State) (i : StreamId) (r : Supervision) : (setSupervision i r s).mgmt = s.mgmt := rfl
@[simp] theorem setSupervision_store (s : State) (i : StreamId) (r : Supervision) : (setSupervision i r s).store = s.store := rfl
@[simp] theorem setSupervision_lines (s : State) (i : StreamId) (r : Supervision) : (setSupervision i r s).lines = s.lines := rfl
@[simp] theorem setSupervision_freeCount (s : State) (i : StreamId) (r : Supervision) : (setSupervision i r s).freeCount = s.freeCount := rfl

@[simp] theorem setForwardDrop_pending (s : State) : (setForwardDrop s).pending = s.pending := rfl
@[simp] theorem setForwardDrop_power (s : State) : (setForwardDrop s).power = s.power := rfl
@[simp] theorem setForwardDrop_switch (s : State) : (setForwardDrop s).switch = s.switch := rfl
@[simp] theorem setForwardDrop_timer (s : State) : (setForwardDrop s).timer = s.timer := rfl
@[simp] theorem setForwardDrop_ident (s : State) : (setForwardDrop s).ident = s.ident := rfl
@[simp] theorem setForwardDrop_path (s : State) : (setForwardDrop s).path = { s.path with forwardDrop := true } := rfl
@[simp] theorem setForwardDrop_streams (s : State) : (setForwardDrop s).streams = s.streams := rfl
@[simp] theorem setForwardDrop_supervision (s : State) : (setForwardDrop s).supervision = s.supervision := rfl
@[simp] theorem setForwardDrop_rateClock (s : State) : (setForwardDrop s).rateClock = s.rateClock := rfl
@[simp] theorem setForwardDrop_rateDue (s : State) : (setForwardDrop s).rateDue = s.rateDue := rfl
@[simp] theorem setForwardDrop_queue (s : State) : (setForwardDrop s).queue = s.queue := rfl
@[simp] theorem setForwardDrop_settings (s : State) : (setForwardDrop s).settings = s.settings := rfl
@[simp] theorem setForwardDrop_activeAddress (s : State) : (setForwardDrop s).activeAddress = s.activeAddress := rfl
@[simp] theorem setForwardDrop_pendingAddress (s : State) : (setForwardDrop s).pendingAddress = s.pendingAddress := rfl
@[simp] theorem setForwardDrop_groups (s : State) : (setForwardDrop s).groups = s.groups := rfl
@[simp] theorem setForwardDrop_engine (s : State) : (setForwardDrop s).engine = s.engine := rfl
@[simp] theorem setForwardDrop_waitList (s : State) : (setForwardDrop s).waitList = s.waitList := rfl
@[simp] theorem setForwardDrop_events (s : State) : (setForwardDrop s).events = s.events := rfl
@[simp] theorem setForwardDrop_captures (s : State) : (setForwardDrop s).captures = s.captures := rfl
@[simp] theorem setForwardDrop_mgmt (s : State) : (setForwardDrop s).mgmt = s.mgmt := rfl
@[simp] theorem setForwardDrop_store (s : State) : (setForwardDrop s).store = s.store := rfl
@[simp] theorem setForwardDrop_lines (s : State) : (setForwardDrop s).lines = s.lines := rfl
@[simp] theorem setForwardDrop_freeCount (s : State) : (setForwardDrop s).freeCount = s.freeCount := rfl

@[simp] theorem sendB_pending (s : State) (t : Transmission) (n : Nat) : (sendB t n s).pending = s.pending := rfl
@[simp] theorem sendB_power (s : State) (t : Transmission) (n : Nat) : (sendB t n s).power = s.power := rfl
@[simp] theorem sendB_switch (s : State) (t : Transmission) (n : Nat) : (sendB t n s).switch = s.switch := rfl
@[simp] theorem sendB_timer (s : State) (t : Transmission) (n : Nat) : (sendB t n s).timer = s.timer := rfl
@[simp] theorem sendB_ident (s : State) (t : Transmission) (n : Nat) : (sendB t n s).ident = s.ident := rfl
@[simp] theorem sendB_path (s : State) (t : Transmission) (n : Nat) : (sendB t n s).path = { s.path with portB := { s.path.portB with sending := some t }, starvation := n } := rfl
@[simp] theorem sendB_streams (s : State) (t : Transmission) (n : Nat) : (sendB t n s).streams = s.streams := rfl
@[simp] theorem sendB_supervision (s : State) (t : Transmission) (n : Nat) : (sendB t n s).supervision = s.supervision := rfl
@[simp] theorem sendB_rateClock (s : State) (t : Transmission) (n : Nat) : (sendB t n s).rateClock = s.rateClock := rfl
@[simp] theorem sendB_rateDue (s : State) (t : Transmission) (n : Nat) : (sendB t n s).rateDue = s.rateDue := rfl
@[simp] theorem sendB_queue (s : State) (t : Transmission) (n : Nat) : (sendB t n s).queue = s.queue := rfl
@[simp] theorem sendB_settings (s : State) (t : Transmission) (n : Nat) : (sendB t n s).settings = s.settings := rfl
@[simp] theorem sendB_activeAddress (s : State) (t : Transmission) (n : Nat) : (sendB t n s).activeAddress = s.activeAddress := rfl
@[simp] theorem sendB_pendingAddress (s : State) (t : Transmission) (n : Nat) : (sendB t n s).pendingAddress = s.pendingAddress := rfl
@[simp] theorem sendB_groups (s : State) (t : Transmission) (n : Nat) : (sendB t n s).groups = s.groups := rfl
@[simp] theorem sendB_engine (s : State) (t : Transmission) (n : Nat) : (sendB t n s).engine = s.engine := rfl
@[simp] theorem sendB_waitList (s : State) (t : Transmission) (n : Nat) : (sendB t n s).waitList = s.waitList := rfl
@[simp] theorem sendB_events (s : State) (t : Transmission) (n : Nat) : (sendB t n s).events = s.events := rfl
@[simp] theorem sendB_captures (s : State) (t : Transmission) (n : Nat) : (sendB t n s).captures = s.captures := rfl
@[simp] theorem sendB_mgmt (s : State) (t : Transmission) (n : Nat) : (sendB t n s).mgmt = s.mgmt := rfl
@[simp] theorem sendB_store (s : State) (t : Transmission) (n : Nat) : (sendB t n s).store = s.store := rfl
@[simp] theorem sendB_lines (s : State) (t : Transmission) (n : Nat) : (sendB t n s).lines = s.lines := rfl
@[simp] theorem sendB_freeCount (s : State) (t : Transmission) (n : Nat) : (sendB t n s).freeCount = s.freeCount := rfl

@[simp] theorem countTimer_pending (s : State) : (countTimer s).pending = s.pending := rfl
@[simp] theorem countTimer_power (s : State) : (countTimer s).power = s.power := rfl
@[simp] theorem countTimer_switch (s : State) : (countTimer s).switch = s.switch := rfl
@[simp] theorem countTimer_timer (s : State) : (countTimer s).timer = s.timer + 1 := rfl
@[simp] theorem countTimer_ident (s : State) : (countTimer s).ident = s.ident := rfl
@[simp] theorem countTimer_path (s : State) : (countTimer s).path = s.path := rfl
@[simp] theorem countTimer_streams (s : State) : (countTimer s).streams = s.streams := rfl
@[simp] theorem countTimer_supervision (s : State) : (countTimer s).supervision = s.supervision := rfl
@[simp] theorem countTimer_rateClock (s : State) : (countTimer s).rateClock = s.rateClock := rfl
@[simp] theorem countTimer_rateDue (s : State) : (countTimer s).rateDue = s.rateDue := rfl
@[simp] theorem countTimer_queue (s : State) : (countTimer s).queue = s.queue := rfl
@[simp] theorem countTimer_settings (s : State) : (countTimer s).settings = s.settings := rfl
@[simp] theorem countTimer_activeAddress (s : State) : (countTimer s).activeAddress = s.activeAddress := rfl
@[simp] theorem countTimer_pendingAddress (s : State) : (countTimer s).pendingAddress = s.pendingAddress := rfl
@[simp] theorem countTimer_groups (s : State) : (countTimer s).groups = s.groups := rfl
@[simp] theorem countTimer_engine (s : State) : (countTimer s).engine = s.engine := rfl
@[simp] theorem countTimer_waitList (s : State) : (countTimer s).waitList = s.waitList := rfl
@[simp] theorem countTimer_events (s : State) : (countTimer s).events = s.events := rfl
@[simp] theorem countTimer_captures (s : State) : (countTimer s).captures = s.captures := rfl
@[simp] theorem countTimer_mgmt (s : State) : (countTimer s).mgmt = s.mgmt := rfl
@[simp] theorem countTimer_store (s : State) : (countTimer s).store = s.store := rfl
@[simp] theorem countTimer_lines (s : State) : (countTimer s).lines = s.lines := rfl
@[simp] theorem countTimer_freeCount (s : State) : (countTimer s).freeCount = s.freeCount := rfl

@[simp] theorem leaveQueue_pending (s : State) (r : Request) (rest : List Request) : (leaveQueue r rest s).pending = s.pending := rfl
@[simp] theorem leaveQueue_power (s : State) (r : Request) (rest : List Request) : (leaveQueue r rest s).power = s.power := rfl
@[simp] theorem leaveQueue_switch (s : State) (r : Request) (rest : List Request) : (leaveQueue r rest s).switch = s.switch := rfl
@[simp] theorem leaveQueue_timer (s : State) (r : Request) (rest : List Request) : (leaveQueue r rest s).timer = s.timer := rfl
@[simp] theorem leaveQueue_ident (s : State) (r : Request) (rest : List Request) : (leaveQueue r rest s).ident = s.ident := rfl
@[simp] theorem leaveQueue_path (s : State) (r : Request) (rest : List Request) : (leaveQueue r rest s).path = s.path := rfl
@[simp] theorem leaveQueue_streams (s : State) (r : Request) (rest : List Request) : (leaveQueue r rest s).streams = s.streams := rfl
@[simp] theorem leaveQueue_supervision (s : State) (r : Request) (rest : List Request) : (leaveQueue r rest s).supervision = s.supervision := rfl
@[simp] theorem leaveQueue_rateClock (s : State) (r : Request) (rest : List Request) : (leaveQueue r rest s).rateClock = s.rateClock := rfl
@[simp] theorem leaveQueue_rateDue (s : State) (r : Request) (rest : List Request) : (leaveQueue r rest s).rateDue = s.rateDue := rfl
@[simp] theorem leaveQueue_queue (s : State) (r : Request) (rest : List Request) : (leaveQueue r rest s).queue = s.queue := rfl
@[simp] theorem leaveQueue_settings (s : State) (r : Request) (rest : List Request) : (leaveQueue r rest s).settings = s.settings := rfl
@[simp] theorem leaveQueue_activeAddress (s : State) (r : Request) (rest : List Request) : (leaveQueue r rest s).activeAddress = s.activeAddress := rfl
@[simp] theorem leaveQueue_pendingAddress (s : State) (r : Request) (rest : List Request) : (leaveQueue r rest s).pendingAddress = s.pendingAddress := rfl
@[simp] theorem leaveQueue_groups (s : State) (r : Request) (rest : List Request) : (leaveQueue r rest s).groups = s.groups := rfl
@[simp] theorem leaveQueue_engine (s : State) (r : Request) (rest : List Request) : (leaveQueue r rest s).engine = s.engine := rfl
@[simp] theorem leaveQueue_waitList (s : State) (r : Request) (rest : List Request) : (leaveQueue r rest s).waitList = s.waitList := rfl
@[simp] theorem leaveQueue_events (s : State) (r : Request) (rest : List Request) : (leaveQueue r rest s).events = s.events := rfl
@[simp] theorem leaveQueue_captures (s : State) (r : Request) (rest : List Request) : (leaveQueue r rest s).captures = s.captures := rfl
@[simp] theorem leaveQueue_mgmt (s : State) (r : Request) (rest : List Request) : (leaveQueue r rest s).mgmt = { s.mgmt with requests := rest, controller := some r.src } := rfl
@[simp] theorem leaveQueue_store (s : State) (r : Request) (rest : List Request) : (leaveQueue r rest s).store = s.store := rfl
@[simp] theorem leaveQueue_lines (s : State) (r : Request) (rest : List Request) : (leaveQueue r rest s).lines = s.lines := rfl
@[simp] theorem leaveQueue_freeCount (s : State) (r : Request) (rest : List Request) : (leaveQueue r rest s).freeCount = s.freeCount := rfl

@[simp] theorem clearFlags_pending (s : State) : (clearFlags s).pending = s.pending := rfl
@[simp] theorem clearFlags_power (s : State) : (clearFlags s).power = s.power := rfl
@[simp] theorem clearFlags_switch (s : State) : (clearFlags s).switch = s.switch := rfl
@[simp] theorem clearFlags_timer (s : State) : (clearFlags s).timer = s.timer := rfl
@[simp] theorem clearFlags_ident (s : State) : (clearFlags s).ident = s.ident := rfl
@[simp] theorem clearFlags_path (s : State) : (clearFlags s).path = { s.path with forwardDrop := false } := rfl
@[simp] theorem clearFlags_streams (s : State) : (clearFlags s).streams = s.streams := rfl
@[simp] theorem clearFlags_supervision (s : State) : (clearFlags s).supervision = s.supervision := rfl
@[simp] theorem clearFlags_rateClock (s : State) : (clearFlags s).rateClock = s.rateClock := rfl
@[simp] theorem clearFlags_rateDue (s : State) : (clearFlags s).rateDue = s.rateDue := rfl
@[simp] theorem clearFlags_queue (s : State) : (clearFlags s).queue = s.queue := rfl
@[simp] theorem clearFlags_settings (s : State) : (clearFlags s).settings = s.settings := rfl
@[simp] theorem clearFlags_activeAddress (s : State) : (clearFlags s).activeAddress = s.activeAddress := rfl
@[simp] theorem clearFlags_pendingAddress (s : State) : (clearFlags s).pendingAddress = s.pendingAddress := rfl
@[simp] theorem clearFlags_groups (s : State) : (clearFlags s).groups = s.groups := rfl
@[simp] theorem clearFlags_engine (s : State) : (clearFlags s).engine = s.engine := rfl
@[simp] theorem clearFlags_waitList (s : State) : (clearFlags s).waitList = s.waitList := rfl
@[simp] theorem clearFlags_events (s : State) : (clearFlags s).events = s.events := rfl
@[simp] theorem clearFlags_captures (s : State) : (clearFlags s).captures = s.captures := rfl
@[simp] theorem clearFlags_mgmt (s : State) : (clearFlags s).mgmt = { s.mgmt with reportSkipped := false } := rfl
@[simp] theorem clearFlags_store (s : State) : (clearFlags s).store = s.store := rfl
@[simp] theorem clearFlags_lines (s : State) : (clearFlags s).lines = s.lines := rfl
@[simp] theorem clearFlags_freeCount (s : State) : (clearFlags s).freeCount = s.freeCount := rfl

@[simp] theorem setCaptures_pending (s : State) (c : Captures) : (setCaptures c s).pending = s.pending := rfl
@[simp] theorem setCaptures_power (s : State) (c : Captures) : (setCaptures c s).power = s.power := rfl
@[simp] theorem setCaptures_switch (s : State) (c : Captures) : (setCaptures c s).switch = s.switch := rfl
@[simp] theorem setCaptures_timer (s : State) (c : Captures) : (setCaptures c s).timer = s.timer := rfl
@[simp] theorem setCaptures_ident (s : State) (c : Captures) : (setCaptures c s).ident = s.ident := rfl
@[simp] theorem setCaptures_path (s : State) (c : Captures) : (setCaptures c s).path = s.path := rfl
@[simp] theorem setCaptures_streams (s : State) (c : Captures) : (setCaptures c s).streams = s.streams := rfl
@[simp] theorem setCaptures_supervision (s : State) (c : Captures) : (setCaptures c s).supervision = s.supervision := rfl
@[simp] theorem setCaptures_rateClock (s : State) (c : Captures) : (setCaptures c s).rateClock = s.rateClock := rfl
@[simp] theorem setCaptures_rateDue (s : State) (c : Captures) : (setCaptures c s).rateDue = s.rateDue := rfl
@[simp] theorem setCaptures_queue (s : State) (c : Captures) : (setCaptures c s).queue = s.queue := rfl
@[simp] theorem setCaptures_settings (s : State) (c : Captures) : (setCaptures c s).settings = s.settings := rfl
@[simp] theorem setCaptures_activeAddress (s : State) (c : Captures) : (setCaptures c s).activeAddress = s.activeAddress := rfl
@[simp] theorem setCaptures_pendingAddress (s : State) (c : Captures) : (setCaptures c s).pendingAddress = s.pendingAddress := rfl
@[simp] theorem setCaptures_groups (s : State) (c : Captures) : (setCaptures c s).groups = s.groups := rfl
@[simp] theorem setCaptures_engine (s : State) (c : Captures) : (setCaptures c s).engine = s.engine := rfl
@[simp] theorem setCaptures_waitList (s : State) (c : Captures) : (setCaptures c s).waitList = s.waitList := rfl
@[simp] theorem setCaptures_events (s : State) (c : Captures) : (setCaptures c s).events = s.events := rfl
@[simp] theorem setCaptures_captures (s : State) (c : Captures) : (setCaptures c s).captures = c := rfl
@[simp] theorem setCaptures_mgmt (s : State) (c : Captures) : (setCaptures c s).mgmt = s.mgmt := rfl
@[simp] theorem setCaptures_store (s : State) (c : Captures) : (setCaptures c s).store = s.store := rfl
@[simp] theorem setCaptures_lines (s : State) (c : Captures) : (setCaptures c s).lines = s.lines := rfl
@[simp] theorem setCaptures_freeCount (s : State) (c : Captures) : (setCaptures c s).freeCount = s.freeCount := rfl

@[simp] theorem writeSettings_pending (s : State) (a : Addr) (p : PartSettings) : (writeSettings a p s).pending = s.pending := rfl
@[simp] theorem writeSettings_power (s : State) (a : Addr) (p : PartSettings) : (writeSettings a p s).power = s.power := rfl
@[simp] theorem writeSettings_switch (s : State) (a : Addr) (p : PartSettings) : (writeSettings a p s).switch = s.switch := rfl
@[simp] theorem writeSettings_timer (s : State) (a : Addr) (p : PartSettings) : (writeSettings a p s).timer = s.timer := rfl
@[simp] theorem writeSettings_ident (s : State) (a : Addr) (p : PartSettings) : (writeSettings a p s).ident = s.ident := rfl
@[simp] theorem writeSettings_path (s : State) (a : Addr) (p : PartSettings) : (writeSettings a p s).path = s.path := rfl
@[simp] theorem writeSettings_streams (s : State) (a : Addr) (p : PartSettings) : (writeSettings a p s).streams = s.streams := rfl
@[simp] theorem writeSettings_supervision (s : State) (a : Addr) (p : PartSettings) : (writeSettings a p s).supervision = s.supervision := rfl
@[simp] theorem writeSettings_rateClock (s : State) (a : Addr) (p : PartSettings) : (writeSettings a p s).rateClock = s.rateClock := rfl
@[simp] theorem writeSettings_rateDue (s : State) (a : Addr) (p : PartSettings) : (writeSettings a p s).rateDue = s.rateDue := rfl
@[simp] theorem writeSettings_queue (s : State) (a : Addr) (p : PartSettings) : (writeSettings a p s).queue = watermarksWritten p s.queue := rfl
@[simp] theorem writeSettings_settings (s : State) (a : Addr) (p : PartSettings) : (writeSettings a p s).settings = p := rfl
@[simp] theorem writeSettings_activeAddress (s : State) (a : Addr) (p : PartSettings) : (writeSettings a p s).activeAddress = s.activeAddress := rfl
@[simp] theorem writeSettings_pendingAddress (s : State) (a : Addr) (p : PartSettings) : (writeSettings a p s).pendingAddress = a := rfl
@[simp] theorem writeSettings_groups (s : State) (a : Addr) (p : PartSettings) : (writeSettings a p s).groups = s.groups := rfl
@[simp] theorem writeSettings_engine (s : State) (a : Addr) (p : PartSettings) : (writeSettings a p s).engine = s.engine := rfl
@[simp] theorem writeSettings_waitList (s : State) (a : Addr) (p : PartSettings) : (writeSettings a p s).waitList = s.waitList := rfl
@[simp] theorem writeSettings_events (s : State) (a : Addr) (p : PartSettings) : (writeSettings a p s).events = s.events := rfl
@[simp] theorem writeSettings_captures (s : State) (a : Addr) (p : PartSettings) : (writeSettings a p s).captures = s.captures := rfl
@[simp] theorem writeSettings_mgmt (s : State) (a : Addr) (p : PartSettings) : (writeSettings a p s).mgmt = s.mgmt := rfl
@[simp] theorem writeSettings_store (s : State) (a : Addr) (p : PartSettings) : (writeSettings a p s).store = s.store := rfl
@[simp] theorem writeSettings_lines (s : State) (a : Addr) (p : PartSettings) : (writeSettings a p s).lines = s.lines := rfl
@[simp] theorem writeSettings_freeCount (s : State) (a : Addr) (p : PartSettings) : (writeSettings a p s).freeCount = s.freeCount := rfl

@[simp] theorem writeStream_pending (s : State) (i : StreamId) (e : StreamEntry) : (writeStream i e s).pending = s.pending := rfl
@[simp] theorem writeStream_power (s : State) (i : StreamId) (e : StreamEntry) : (writeStream i e s).power = s.power := rfl
@[simp] theorem writeStream_switch (s : State) (i : StreamId) (e : StreamEntry) : (writeStream i e s).switch = s.switch := rfl
@[simp] theorem writeStream_timer (s : State) (i : StreamId) (e : StreamEntry) : (writeStream i e s).timer = s.timer := rfl
@[simp] theorem writeStream_ident (s : State) (i : StreamId) (e : StreamEntry) : (writeStream i e s).ident = s.ident := rfl
@[simp] theorem writeStream_path (s : State) (i : StreamId) (e : StreamEntry) : (writeStream i e s).path = s.path := rfl
@[simp] theorem writeStream_streams (s : State) (i : StreamId) (e : StreamEntry) : (writeStream i e s).streams = upd s.streams i e := rfl
@[simp] theorem writeStream_supervision (s : State) (i : StreamId) (e : StreamEntry) : (writeStream i e s).supervision = upd s.supervision i Supervision.fresh := rfl
@[simp] theorem writeStream_rateClock (s : State) (i : StreamId) (e : StreamEntry) : (writeStream i e s).rateClock = s.rateClock := rfl
@[simp] theorem writeStream_rateDue (s : State) (i : StreamId) (e : StreamEntry) : (writeStream i e s).rateDue = s.rateDue := rfl
@[simp] theorem writeStream_queue (s : State) (i : StreamId) (e : StreamEntry) : (writeStream i e s).queue = discardStream s.settings i s.queue := rfl
@[simp] theorem writeStream_settings (s : State) (i : StreamId) (e : StreamEntry) : (writeStream i e s).settings = s.settings := rfl
@[simp] theorem writeStream_activeAddress (s : State) (i : StreamId) (e : StreamEntry) : (writeStream i e s).activeAddress = s.activeAddress := rfl
@[simp] theorem writeStream_pendingAddress (s : State) (i : StreamId) (e : StreamEntry) : (writeStream i e s).pendingAddress = s.pendingAddress := rfl
@[simp] theorem writeStream_groups (s : State) (i : StreamId) (e : StreamEntry) : (writeStream i e s).groups = s.groups := rfl
@[simp] theorem writeStream_engine (s : State) (i : StreamId) (e : StreamEntry) : (writeStream i e s).engine = s.engine := rfl
@[simp] theorem writeStream_waitList (s : State) (i : StreamId) (e : StreamEntry) : (writeStream i e s).waitList = s.waitList := rfl
@[simp] theorem writeStream_events (s : State) (i : StreamId) (e : StreamEntry) : (writeStream i e s).events = s.events := rfl
@[simp] theorem writeStream_captures (s : State) (i : StreamId) (e : StreamEntry) : (writeStream i e s).captures = s.captures := rfl
@[simp] theorem writeStream_mgmt (s : State) (i : StreamId) (e : StreamEntry) : (writeStream i e s).mgmt = s.mgmt := rfl
@[simp] theorem writeStream_store (s : State) (i : StreamId) (e : StreamEntry) : (writeStream i e s).store = s.store := rfl
@[simp] theorem writeStream_lines (s : State) (i : StreamId) (e : StreamEntry) : (writeStream i e s).lines = s.lines := rfl
@[simp] theorem writeStream_freeCount (s : State) (i : StreamId) (e : StreamEntry) : (writeStream i e s).freeCount = s.freeCount := rfl

@[simp] theorem endStartUp_pending (s : State) : (endStartUp s).pending = s.pending := rfl
@[simp] theorem endStartUp_power (s : State) : (endStartUp s).power = s.power := rfl
@[simp] theorem endStartUp_switch (s : State) : (endStartUp s).switch = .inLine := rfl
@[simp] theorem endStartUp_timer (s : State) : (endStartUp s).timer = s.timer := rfl
@[simp] theorem endStartUp_ident (s : State) : (endStartUp s).ident = s.ident := rfl
@[simp] theorem endStartUp_path (s : State) : (endStartUp s).path = s.path := rfl
@[simp] theorem endStartUp_streams (s : State) : (endStartUp s).streams = s.streams := rfl
@[simp] theorem endStartUp_supervision (s : State) : (endStartUp s).supervision = s.supervision := rfl
@[simp] theorem endStartUp_rateClock (s : State) : (endStartUp s).rateClock = 0 := rfl
@[simp] theorem endStartUp_rateDue (s : State) : (endStartUp s).rateDue = false := rfl
@[simp] theorem endStartUp_queue (s : State) : (endStartUp s).queue = s.queue := rfl
@[simp] theorem endStartUp_settings (s : State) : (endStartUp s).settings = s.settings := rfl
@[simp] theorem endStartUp_activeAddress (s : State) : (endStartUp s).activeAddress = s.activeAddress := rfl
@[simp] theorem endStartUp_pendingAddress (s : State) : (endStartUp s).pendingAddress = s.pendingAddress := rfl
@[simp] theorem endStartUp_groups (s : State) : (endStartUp s).groups = s.groups := rfl
@[simp] theorem endStartUp_engine (s : State) : (endStartUp s).engine = s.engine := rfl
@[simp] theorem endStartUp_waitList (s : State) : (endStartUp s).waitList = s.waitList := rfl
@[simp] theorem endStartUp_events (s : State) : (endStartUp s).events = s.events := rfl
@[simp] theorem endStartUp_captures (s : State) : (endStartUp s).captures = s.captures := rfl
@[simp] theorem endStartUp_mgmt (s : State) : (endStartUp s).mgmt = s.mgmt := rfl
@[simp] theorem endStartUp_store (s : State) : (endStartUp s).store = s.store := rfl
@[simp] theorem endStartUp_lines (s : State) : (endStartUp s).lines = s.lines := rfl
@[simp] theorem endStartUp_freeCount (s : State) : (endStartUp s).freeCount = s.freeCount := rfl

@[simp] theorem withAnswer_pending (s : State) (a : Answer) : (withAnswer a s).pending = s.pending := rfl
@[simp] theorem withAnswer_power (s : State) (a : Answer) : (withAnswer a s).power = s.power := rfl
@[simp] theorem withAnswer_switch (s : State) (a : Answer) : (withAnswer a s).switch = s.switch := rfl
@[simp] theorem withAnswer_timer (s : State) (a : Answer) : (withAnswer a s).timer = s.timer := rfl
@[simp] theorem withAnswer_ident (s : State) (a : Answer) : (withAnswer a s).ident = s.ident := rfl
@[simp] theorem withAnswer_path (s : State) (a : Answer) : (withAnswer a s).path = s.path := rfl
@[simp] theorem withAnswer_streams (s : State) (a : Answer) : (withAnswer a s).streams = s.streams := rfl
@[simp] theorem withAnswer_supervision (s : State) (a : Answer) : (withAnswer a s).supervision = s.supervision := rfl
@[simp] theorem withAnswer_rateClock (s : State) (a : Answer) : (withAnswer a s).rateClock = s.rateClock := rfl
@[simp] theorem withAnswer_rateDue (s : State) (a : Answer) : (withAnswer a s).rateDue = s.rateDue := rfl
@[simp] theorem withAnswer_queue (s : State) (a : Answer) : (withAnswer a s).queue = s.queue := rfl
@[simp] theorem withAnswer_settings (s : State) (a : Answer) : (withAnswer a s).settings = s.settings := rfl
@[simp] theorem withAnswer_activeAddress (s : State) (a : Answer) : (withAnswer a s).activeAddress = s.activeAddress := rfl
@[simp] theorem withAnswer_pendingAddress (s : State) (a : Answer) : (withAnswer a s).pendingAddress = s.pendingAddress := rfl
@[simp] theorem withAnswer_groups (s : State) (a : Answer) : (withAnswer a s).groups = s.groups := rfl
@[simp] theorem withAnswer_engine (s : State) (a : Answer) : (withAnswer a s).engine = s.engine := rfl
@[simp] theorem withAnswer_waitList (s : State) (a : Answer) : (withAnswer a s).waitList = s.waitList := rfl
@[simp] theorem withAnswer_events (s : State) (a : Answer) : (withAnswer a s).events = s.events := rfl
@[simp] theorem withAnswer_captures (s : State) (a : Answer) : (withAnswer a s).captures = s.captures := rfl
@[simp] theorem withAnswer_mgmt (s : State) (a : Answer) : (withAnswer a s).mgmt = { s.mgmt with answers := s.mgmt.answers ++ [a] } := rfl
@[simp] theorem withAnswer_store (s : State) (a : Answer) : (withAnswer a s).store = s.store := rfl
@[simp] theorem withAnswer_lines (s : State) (a : Answer) : (withAnswer a s).lines = s.lines := rfl
@[simp] theorem withAnswer_freeCount (s : State) (a : Answer) : (withAnswer a s).freeCount = s.freeCount := rfl

@[simp] theorem partReset_pending (s : State) (p : Power) : (partReset p s).pending = s.pending := rfl
@[simp] theorem partReset_power (s : State) (p : Power) : (partReset p s).power = p := rfl
@[simp] theorem partReset_switch (s : State) (p : Power) : (partReset p s).switch = State.reset.switch := rfl
@[simp] theorem partReset_timer (s : State) (p : Power) : (partReset p s).timer = State.reset.timer := rfl
@[simp] theorem partReset_ident (s : State) (p : Power) : (partReset p s).ident = s.ident := rfl
@[simp] theorem partReset_path (s : State) (p : Power) : (partReset p s).path = State.reset.path := rfl
@[simp] theorem partReset_streams (s : State) (p : Power) : (partReset p s).streams = State.reset.streams := rfl
@[simp] theorem partReset_supervision (s : State) (p : Power) : (partReset p s).supervision = State.reset.supervision := rfl
@[simp] theorem partReset_rateClock (s : State) (p : Power) : (partReset p s).rateClock = State.reset.rateClock := rfl
@[simp] theorem partReset_rateDue (s : State) (p : Power) : (partReset p s).rateDue = State.reset.rateDue := rfl
@[simp] theorem partReset_queue (s : State) (p : Power) : (partReset p s).queue = State.reset.queue := rfl
@[simp] theorem partReset_settings (s : State) (p : Power) : (partReset p s).settings = State.reset.settings := rfl
@[simp] theorem partReset_activeAddress (s : State) (p : Power) : (partReset p s).activeAddress = State.reset.activeAddress := rfl
@[simp] theorem partReset_pendingAddress (s : State) (p : Power) : (partReset p s).pendingAddress = State.reset.pendingAddress := rfl
@[simp] theorem partReset_groups (s : State) (p : Power) : (partReset p s).groups = State.reset.groups := rfl
@[simp] theorem partReset_engine (s : State) (p : Power) : (partReset p s).engine = State.reset.engine := rfl
@[simp] theorem partReset_waitList (s : State) (p : Power) : (partReset p s).waitList = State.reset.waitList := rfl
@[simp] theorem partReset_events (s : State) (p : Power) : (partReset p s).events = State.reset.events := rfl
@[simp] theorem partReset_captures (s : State) (p : Power) : (partReset p s).captures = State.reset.captures := rfl
@[simp] theorem partReset_mgmt (s : State) (p : Power) : (partReset p s).mgmt = State.reset.mgmt := rfl
@[simp] theorem partReset_store (s : State) (p : Power) : (partReset p s).store = { State.reset.store with image := imageAfterReset s } := rfl
@[simp] theorem partReset_lines (s : State) (p : Power) : (partReset p s).lines = State.reset.lines := rfl
@[simp] theorem partReset_freeCount (s : State) (p : Power) : (partReset p s).freeCount = if s.store.busy then s.freeCount + 1 else s.freeCount := rfl

end Sys2Proof.Machine
end

