-- ==== Sys2Proof/Laws/Ops.lean ====
section
/-! SUPPORT. For each shared operation, once, everything it can do: the cases of its outcome, or the sizes it keeps. -/

namespace Sys2Proof.Machine

/-! ## The Event Queue -/

@[simp] theorem markTail_length (l : List EventRecord) : (markTail l).length = l.length := by
  induction l using markTail.induct with
  | case1 => rfl
  | case2 r => rfl
  | case3 r s l ih => simpa [markTail] using ih

theorem markTail_bare (l : List EventRecord) : (markTail l).map bareRecord = l.map bareRecord := by
  induction l using markTail.induct with
  | case1 => rfl
  | case2 r => rfl
  | case3 r s l ih => simpa [markTail] using ih

@[simp] theorem createEvent_counter (n : BitVec 32) (e : Event) (d : Option (BitVec 16)) (q : EventQueue) :
    (createEvent n e d q).counter = q.counter + 1 := rfl

/-- A created record is appended to a queue with room, and only marks the tail of a full one. -/
theorem createEvent_cases (n : BitVec 32) (e : Event) (d : Option (BitVec 16)) (q : EventQueue) :
    (q.records.length < 64 ∧ (createEvent n e d q).records = q.records ++ [recordOf q n e d]) ∨
      (64 ≤ q.records.length ∧ (createEvent n e d q).records = markTail q.records) := by
  by_cases h : q.records.length < 64
  · exact .inl ⟨h, by simp [createEvent, h]⟩
  · exact .inr ⟨by omega, by simp [createEvent, h]⟩

theorem createEvent_length_le (n : BitVec 32) (e : Event) (d : Option (BitVec 16)) (q : EventQueue)
    (h : q.records.length ≤ 64) : (createEvent n e d q).records.length ≤ 64 := by
  rcases createEvent_cases n e d q with ⟨hl, he⟩ | ⟨_, he⟩ <;> simp [he] <;> omega

/-- The queue without marks only grows at its tail. -/
theorem createEvent_bare (n : BitVec 32) (e : Event) (d : Option (BitVec 16)) (q : EventQueue) :
    ∃ new, (createEvent n e d q).records.map bareRecord = q.records.map bareRecord ++ new := by
  rcases createEvent_cases n e d q with ⟨_, he⟩ | ⟨_, he⟩
  · exact ⟨[bareRecord (recordOf q n e d)], by simp [he]⟩
  · exact ⟨[], by simp [he, markTail_bare]⟩

/-! ## Capture slots -/

theorem ownedSlot_some {c : Captures} {g : GroupId} {i : CaptureIx} (h : ownedSlot c g = some i) :
    c.slots[i].owner = some g := by
  unfold ownedSlot at h
  split at h
  · cases h; assumption
  · split at h
    · cases h; assumption
    · cases h

theorem ownedSlot_none {c : Captures} {g : GroupId} (h : ownedSlot c g = none) (i : CaptureIx) :
    c.slots[i].owner ≠ some g := by
  unfold ownedSlot at h
  split at h
  · cases h
  · split at h
    · cases h
    · match i with
      | 0 => assumption
      | 1 => assumption

theorem slotToTake_some {c : Captures} {i : CaptureIx} (h : slotToTake c = some i) : c.slots[i].state = .free := by
  unfold slotToTake at h
  split at h
  · rename_i hf
    cases h
    revert hf
    generalize c.marker = m
    match m with
    | 0 => exact fun hf => hf.1
    | 1 => exact fun hf => hf.2
  · split at h
    · cases h; assumption
    · split at h
      · cases h; assumption
      · cases h

theorem slotToTake_none {c : Captures} (h : slotToTake c = none) (i : CaptureIx) : c.slots[i].state ≠ .free := by
  unfold slotToTake at h
  split at h
  · cases h
  · split at h
    · cases h
    · split at h
      · cases h
      · match i with
        | 0 => assumption
        | 1 => assumption

/-- A claim that succeeds adds a hold to the group's slot or takes a FREE one. -/
theorem claimSlot_ok {g : GroupId} {t : Trigger} {c c' : Captures} {i : CaptureIx} {new : Bool}
    (h : claimSlot g t c = .ok (i, new, c')) :
    (c.slots[i].owner = some g ∧ c.slots[i].holds < 15 ∧ new = false ∧
        c' = setSlot i { c.slots[i] with holds := c.slots[i].holds + 1,
                                         auto := c.slots[i].auto || decide (t = .trip) } c) ∨
      ((∀ k : CaptureIx, c.slots[k].owner ≠ some g) ∧ c.slots[i].state = .free ∧ new = true ∧
        c' = setSlot i (armedSlot g t) c) := by
  unfold claimSlot at h
  split at h
  · rename_i k hk
    split at h
    · rename_i hlt
      cases h
      exact .inl ⟨ownedSlot_some hk, hlt, rfl, rfl⟩
    · cases h
  · rename_i hk
    split at h
    · rename_i k hf
      cases h
      exact .inr ⟨ownedSlot_none hk, slotToTake_some hf, rfl, rfl⟩
    · cases h

/-- A claim fails on the hold limit of the group's slot, or because the group owns none and none is FREE. -/
theorem claimSlot_error {g : GroupId} {t : Trigger} {c : Captures} {f : ClaimFailure}
    (h : claimSlot g t c = .error f) :
    (f = .holdLimit ∧ ∃ i : CaptureIx, c.slots[i].owner = some g ∧ 15 ≤ c.slots[i].holds) ∨
      (f = .noSlot ∧ ∀ i : CaptureIx, c.slots[i].owner ≠ some g ∧ c.slots[i].state ≠ .free) := by
  unfold claimSlot at h
  split at h
  · rename_i k hk
    split at h
    · cases h
    · rename_i hlt
      cases h
      exact .inl ⟨rfl, k, ownedSlot_some hk, Nat.le_of_not_lt hlt⟩
  · rename_i hk
    split at h
    · cases h
    · rename_i hf
      cases h
      exact .inr ⟨rfl, fun i => ⟨ownedSlot_none hk i, slotToTake_none hf i⟩⟩

/-- A release frees the slot at its last hold, and otherwise takes one hold. -/
theorem releaseHold_cases (i : CaptureIx) (c : Captures) :
    (c.slots[i].holds ≤ 1 ∧ releaseHold i c = freeSlot i c) ∨
      (2 ≤ c.slots[i].holds ∧
        releaseHold i c = setSlot i { c.slots[i] with holds := c.slots[i].holds - 1 } c) := by
  unfold releaseHold
  split
  · exact .inl ⟨by assumption, rfl⟩
  · exact .inr ⟨by omega, rfl⟩

/-- A disable or a restart leaves a FREE slot, frees an ARMED or FILLING one, and clears a HELD one's auto mark. -/
theorem endSlot_cases (i : CaptureIx) (c : Captures) :
    (c.slots[i].state = .free ∧ endSlot i c = c) ∨
      ((c.slots[i].state = .armed ∨ c.slots[i].state = .filling) ∧ endSlot i c = freeSlot i c) ∨
      (c.slots[i].state = .held ∧ endSlot i c = setSlot i { c.slots[i] with auto := false } c) := by
  unfold endSlot
  split <;> simp_all

/-! ## Accumulator sets -/

theorem setIn_some {t : SetState} {v : Vector AccSet 2} {i : SetIx} (h : setIn t v = some i) : v[i].state = t := by
  unfold setIn at h
  split at h
  · cases h; assumption
  · split at h
    · cases h; assumption
    · cases h

theorem setIn_none {t : SetState} {v : Vector AccSet 2} (h : setIn t v = none) (i : SetIx) : v[i].state ≠ t := by
  unfold setIn at h
  split at h
  · cases h
  · split at h
    · cases h
    · match i with
      | 0 => assumption
      | 1 => assumption

@[simp] theorem clearSet_state (t : SetState) (a : AccSet) : (clearSet t a).state = t := rfl

@[simp] theorem clearSet_m (t : SetState) (a : AccSet) : (clearSet t a).m = 0 := rfl

/-- The close of a window: without an open one nothing; otherwise the sets and the wait list, the counter, a pending
commit and the capture, in that order. -/
theorem closeWindow_cases (c : GroupContext) (follows : Bool) (v : GroupView) :
    (setIn .accumulating v.grp.sets = none ∧ closeWindow c follows v = v) ∨
      ∃ i, setIn .accumulating v.grp.sets = some i ∧
        let v1 := closeSets c i follows v
        closeWindow c follows v =
          captureClose c (takePending c (some v.grp.sets[i].number)
            { v1 with grp := { v1.grp with counter := v1.grp.counter + 1 } }) := by
  unfold closeWindow
  cases h : setIn .accumulating v.grp.sets with
  | none => exact .inl ⟨rfl, rfl⟩
  | some i => exact .inr ⟨i, rfl, rfl⟩

/-! ## The Result Engine -/

/-- The engine takes the head of the wait list exactly when it is idle and the list is not empty. -/
theorem engineTake_cases (s : State) :
    (engineTake s = s ∧ (s.engine ≠ none ∨ s.waitList = [])) ∨
      ∃ g l, s.engine = none ∧ s.waitList = g :: l ∧
        engineTake s =
          { s with engine := some g, waitList := l, groups := upd s.groups g (beginEvaluation s.groups[g]) } := by
  unfold engineTake
  split
  · rename_i g l he hl
    exact .inr ⟨g, l, he, hl, rfl⟩
  · rename_i hno
    refine .inl ⟨rfl, ?_⟩
    cases he : s.engine with
    | some g => simp
    | none =>
      cases hl : s.waitList with
      | nil => simp
      | cons g l => exact absurd hl (hno g l he)

/-- The engine's taking leaves every block but the engine, the wait list and the groups as it is. -/
theorem engineTake_frame (s : State) :
    (engineTake s).path = s.path ∧ (engineTake s).mgmt = s.mgmt ∧ (engineTake s).queue = s.queue ∧
      (engineTake s).supervision = s.supervision ∧ (engineTake s).streams = s.streams ∧
      (engineTake s).events = s.events ∧ (engineTake s).captures = s.captures ∧ (engineTake s).store = s.store ∧
      (engineTake s).switch = s.switch ∧ (engineTake s).settings = s.settings ∧ (engineTake s).timer = s.timer := by
  rcases engineTake_cases s with ⟨h, _⟩ | ⟨g, l, _, _, h⟩ <;> rw [h] <;> simp

/-- A group's evaluation begins on its sets alone. -/
theorem beginEvaluation_frame (g : Group) : ∃ v, beginEvaluation g = { g with sets := v } := by
  unfold beginEvaluation
  split
  · exact ⟨_, rfl⟩
  · exact ⟨g.sets, rfl⟩

/-! ## The Analysis Queue -/

theorem offerEntry_length_le (p : PartSettings) (e : QueueEntry) (q : AnalysisQueue) (h : q.entries.length ≤ 48) :
    (offerEntry p e q).entries.length ≤ 48 := by
  unfold offerEntry suspendOnAdd
  split
  · split <;> simp at * <;> omega
  · exact h

@[simp] theorem removeHead_entries (p : PartSettings) (q : AnalysisQueue) :
    (removeHead p q).entries = q.entries.tail := by
  unfold removeHead resumeOnLeave
  split <;> rfl

@[simp] theorem discardStream_entries (p : PartSettings) (i : StreamId) (q : AnalysisQueue) :
    (discardStream p i q).entries = q.entries.filter (fun e => decide (e.stream ≠ i)) := by
  unfold discardStream resumeOnLeave
  dsimp only
  split
  · split <;> rfl
  · rfl

@[simp] theorem watermarksWritten_entries (p : PartSettings) (q : AnalysisQueue) :
    (watermarksWritten p q).entries = q.entries := by
  unfold watermarksWritten
  split
  · rfl
  · split <;> rfl

@[simp] theorem markNewest_length (i : StreamId) (l : List QueueEntry) : (markNewest i l).length = l.length := by
  induction l with
  | nil => rfl
  | cons e l ih =>
    unfold markNewest
    split
    · simp [ih]
    · split <;> simp

/-! ## Bytes

The sizes of what the part builds (R196, R199, R200). -/

@[simp] theorem beBytes_length (n v : Nat) : (beBytes n v).length = n := by
  induction n generalizing v with
  | zero => rfl
  | succ n ih => simp [beBytes, ih]

@[simp] theorem signedBytes_length (n : Nat) (v : Int) : (signedBytes n v).length = n := beBytes_length ..

@[simp] theorem summaryBytes_length (m : Summary) : (summaryBytes m).length = 5 := by simp [summaryBytes]

@[simp] theorem freeBytes_length (nums : List Nat) (n : Nat) : (freeBytes nums n).length = n := by simp [freeBytes]

theorem freePayload_length_le (nums : List Nat) : (freePayload nums).length ≤ 796 := by
  simp only [freePayload, freeBytes_length]
  exact Nat.min_le_left ..

/-- Padding extends a frame to 60 bytes and leaves a longer one as it is. -/
@[simp] theorem padFrame_length (l : List Byte) : (padFrame l).length = max 60 l.length := by
  simp only [padFrame, List.length_append, List.length_replicate]
  omega

/-- A built frame has 25 bytes of header and summary before its payload. -/
@[simp] theorem builtFrame_length (dst src : Addr) (tag : BitVec 16) (code : Byte) (status : Status) (m : Summary)
    (payload : List Byte) :
    (builtFrame dst src tag code status m payload).length = max 60 (25 + payload.length) := by
  simp only [builtFrame, padFrame_length, List.length_append, beBytes_length, summaryBytes_length,
    List.length_singleton]

@[simp] theorem flatMap_signedBytes_length (n : Nat) (l : List Int) :
    (l.flatMap (signedBytes n)).length = l.length * n := by
  induction l with
  | nil => simp
  | cons v l ih => simp [ih, Nat.add_mul, Nat.add_comm]

/-- An answer to READ CAPTURE has 28 bytes of descriptor and three for each value (R196). -/
theorem answerBytes_capture_length (a : Answer) (i : CaptureIx) (d : CaptureDescriptor) (channel start : Nat)
    (values : List Int) :
    (answerBytes { a with payload := .capture i d channel start values }).length = max 60 (53 + 3 * values.length) := by
  simp only [answerBytes, payloadBytes, builtFrame_length, List.length_append, freeBytes_length,
    flatMap_signedBytes_length]
  omega

/-! ## Arguments

Each reader of an argument field answers a term exactly where the field holds the term's code (R199). -/

theorem flagArg_eq_some (n : Nat) (x : Bool) : flagArg n = some x ↔ n = if x then 1 else 0 := by
  unfold flagArg; split <;> cases x <;> simp_all

theorem rateArg_eq_some (n : Nat) (x : Rate) : rateArg n = some x ↔ x.samples = n := by
  unfold rateArg; split <;> cases x <;> simp_all [Rate.samples] <;> omega

theorem byteOrderArg_eq_some (n : Nat) (x : ByteOrder) : byteOrderArg n = some x ↔ n = if x = .big then 0 else 1 := by
  unfold byteOrderArg; split <;> cases x <;> simp_all

theorem annexModeArg_eq_some (n : Nat) (x : AnnexMode) : annexModeArg n = some x ↔ n = if x = .none then 0 else 1 := by
  unfold annexModeArg; split <;> cases x <;> simp_all

theorem freqArg_eq_some (n : Nat) (x : Freq) : freqArg n = some x ↔ x.hertz = n := by
  unfold freqArg; split <;> cases x <;> simp_all [Freq.hertz] <;> omega

theorem kindArg_eq_some (n : Nat) (x : Kind) : kindArg n = some x ↔ n = if x = .ac then 1 else 2 := by
  unfold kindArg; split <;> cases x <;> simp_all

theorem groupArg_eq_some (n : Nat) (x : GroupId) : groupArg n = some x ↔ x.val = n := by
  have := x.isLt
  unfold groupArg; split <;> simp [Fin.ext_iff] <;> omega

theorem streamArg_eq_some (n : Nat) (x : StreamId) : streamArg n = some x ↔ x.val = n := by
  have := x.isLt
  unfold streamArg; split <;> simp [Fin.ext_iff] <;> omega

theorem slotArg_eq_some (n : Nat) (x : SlotIx) : slotArg n = some x ↔ x.val = n := by
  have := x.isLt
  unfold slotArg; split <;> simp [Fin.ext_iff] <;> omega

theorem slotUseArg_eq_some (kind value : Nat) (x : SlotUse) :
    slotUseArg kind value = some x ↔
      match x with
      | .unused => kind = 0
      | .used k v => kind = (if k = .ac then 1 else 2) ∧ value = v.val := by
  cases x with
  | unused => unfold slotUseArg; split <;> simp_all
  | used k v =>
    have := v.isLt
    unfold slotUseArg; cases k <;> split <;> simp_all [Fin.ext_iff]

/-! ## Requests -/

/-- A request command does nothing, or takes the head request, which is one of its own. -/
theorem takeRequest_cases (mine : Request → Bool) (serve : Request → State → Reply) (s : State) :
    takeRequest mine serve s = s ∨
      ∃ r rest, s.mgmt.requests = r :: rest ∧ s.mgmt.resetTaken = none ∧ s.mgmt.answers.length < 4 ∧ mine r = true ∧
        takeRequest mine serve s = placeAnswer r (serve r (leaveQueue r rest s)) := by
  unfold takeRequest
  split
  · exact .inl rfl
  · rename_i r rest hr
    split
    · rename_i h
      simp only [takesRequests, Bool.and_eq_true, Option.isNone_iff_eq_none, decide_eq_true_eq] at h
      exact .inr ⟨r, rest, hr, h.1.1, h.1.2, h.2, rfl⟩
    · exact .inl rfl

/-- A request that the head of the queue is and that the command serves is taken. -/
theorem takeRequest_of_head {mine : Request → Bool} {serve : Request → State → Reply} {s : State} {r : Request}
    {rest : List Request} (h : HeadIs s r rest) (hm : mine r = true) :
    takeRequest mine serve s = placeAnswer r (serve r (taken r rest s)) := by
  obtain ⟨hr, ht, ha⟩ := h
  simp [takeRequest, hr, takesRequests, ht, ha, hm, leaveQueue, taken]

theorem placeAnswer_reply (r : Request) (st : Status) (p : Payload) (s : State) :
    placeAnswer r (reply st p s) = withAnswer (plainAnswer r st p s) s := rfl

/-! ## The image region -/

/-- The region is good with contents exactly when it holds them with their CRC. -/
theorem imageCondition_good_iff {i : Image} {c : ImageContents} : imageCondition i = .good c ↔ i = sealedImage c := by
  cases i with
  | blank => simp [imageCondition, sealedImage]
  | written d k =>
    simp only [imageCondition, sealedImage, Image.written.injEq]
    constructor
    · intro h
      split at h
      · rename_i hk
        cases h
        exact ⟨rfl, hk⟩
      · cases h
    · rintro ⟨rfl, rfl⟩
      exact if_pos rfl

@[simp] theorem imageCondition_sealed (c : ImageContents) : imageCondition (sealedImage c) = .good c :=
  imageCondition_good_iff.mpr rfl

/-- A CRC that disagrees with the contents makes the region bad. -/
theorem imageCondition_bad {c : ImageContents} {k : BitVec 32} (h : k ≠ imageCrc c) :
    imageCondition (.written c k) = .bad := if_neg h

/-- A CRC with every bit the other way is another CRC. -/
theorem crc_differs (k : BitVec 32) : ~~~k ≠ k := fun h => by
  have := congrArg (fun b : BitVec 32 => b.getLsbD 0) h
  simp at this

/-- The CRC that an interrupted store leaves in a bad region never agrees with the contents there. -/
theorem brokenImage_disagrees (n : Nat) : ∃ c k, brokenImage n = .written c k ∧ k ≠ imageCrc c := by
  refine ⟨_, _, rfl, ?_⟩
  split
  · exact crc_differs _
  · assumption

@[simp] theorem imageCondition_broken (n : Nat) : imageCondition (brokenImage n) = .bad := by
  obtain ⟨c, k, h, hk⟩ := brokenImage_disagrees n
  rw [h, imageCondition_bad hk]

/-- What a part reset does with the image region: it stays, or a store in progress leaves it blank or bad. -/
theorem imageAfterReset_cases (s : State) :
    (s.store.busy = false ∧ imageAfterReset s = s.store.image) ∨
      (s.store.busy = true ∧
        (imageAfterReset s = .blank ∨ ∃ c k, imageAfterReset s = .written c k ∧ k ≠ imageCrc c)) := by
  unfold imageAfterReset
  cases s.store.busy
  · exact .inl ⟨rfl, rfl⟩
  · refine .inr ⟨rfl, ?_⟩
    cases Config.interruptedImageBad s.freeCount
    · exact .inl rfl
    · exact .inr (brokenImage_disagrees _)

/-! ## The act and the step -/

/-- What a step can do: run the front command, or let a millisecond pass on an empty queue. -/
theorem step_cases (s : State) :
    (s.pending = [] ∧ step s = .next (driveLines (tick s))) ∨
      ∃ c rest, s.pending = c :: rest ∧ step s = exec c (withPending rest s) := by
  unfold step
  cases h : s.pending with
  | nil => exact .inl ⟨rfl, rfl⟩
  | cons c rest => exact .inr ⟨c, rest, rfl, rfl⟩

/-- The lines of a state whose lines were just driven. -/
theorem lineConditions_driveLines (s : State) : lineConditions (driveLines s) = lineConditions s := rfl

end Sys2Proof.Machine
end

