-- ==== Sys2Proof/Laws/PerInstr.lean ====
section
/-! SUPPORT. The per-command family `NotSpelled`: the opcode table gives its rows no bits, so no word spells a command. -/

namespace Sys2Proof.Laws.NotSpelled

/-- No word of any width spells the command `i`. -/
def Statement (i : Instr) : Prop := ∀ nbits w : Nat, decodeTableWord nbits w ≠ some i

/-- The one proof behind the family: the decoder answers none. -/
theorem of_none (i : Instr) : Statement i := fun _ _ h => nomatch h

theorem powerOn : Statement (.powerOn) := of_none _
theorem lossOfSupply : Statement (.lossOfSupply) := of_none _
theorem nresetAssertion : Statement (.nresetAssertion) := of_none _
theorem nresetRelease : Statement (.nresetRelease) := of_none _
theorem imageRead : Statement (.imageRead) := of_none _
theorem imageReadTimeLimit : Statement (.imageReadTimeLimit) := of_none _
theorem linkEstablished (p : Port) : Statement (.linkEstablished p) := of_none _
theorem linkLoss (p : Port) : Statement (.linkLoss p) := of_none _
theorem frameArrival (p : Port) (f : WireFrame) : Statement (.frameArrival p f) := of_none _
theorem portATransmissionStart : Statement (.portATransmissionStart) := of_none _
theorem transmitArbiterChoice : Statement (.transmitArbiterChoice) := of_none _
theorem transmissionComplete (p : Port) : Statement (.transmissionComplete p) := of_none _
theorem silenceDeadline (i : StreamId) : Statement (.silenceDeadline i) := of_none _
theorem rateIntervalEnd : Statement (.rateIntervalEnd) := of_none _
theorem applyEntry (g : GroupId) : Statement (.applyEntry g) := of_none _
theorem cycleTooLate (g : GroupId) : Statement (.cycleTooLate g) := of_none _
theorem acquisitionTimeout (g : GroupId) : Statement (.acquisitionTimeout g) := of_none _
theorem holdoverWindowClose (g : GroupId) : Statement (.holdoverWindowClose g) := of_none _
theorem evaluationCompletion : Statement (.evaluationCompletion) := of_none _
theorem leak : Statement (.leak) := of_none _
theorem resetPartTimeLimit : Statement (.resetPartTimeLimit) := of_none _
theorem storeCompletion : Statement (.storeCompletion) := of_none _
theorem storeReadBackFault : Statement (.storeReadBackFault) := of_none _
theorem storeTimeLimit : Statement (.storeTimeLimit) := of_none _
theorem unsupported : Statement (.unsupported) := of_none _
theorem identify : Statement (.identify) := of_none _
theorem readStatus : Statement (.readStatus) := of_none _
theorem readEntryStream : Statement (.readEntryStream) := of_none _
theorem readEntryGroup : Statement (.readEntryGroup) := of_none _
theorem readEntryLimitBank : Statement (.readEntryLimitBank) := of_none _
theorem readEntryPartSettings : Statement (.readEntryPartSettings) := of_none _
theorem writeEntryStream : Statement (.writeEntryStream) := of_none _
theorem writeEntryGroup : Statement (.writeEntryGroup) := of_none _
theorem writeEntryLimitBank : Statement (.writeEntryLimitBank) := of_none _
theorem writeEntryPartSettings : Statement (.writeEntryPartSettings) := of_none _
theorem commitLimits : Statement (.commitLimits) := of_none _
theorem groupEnable : Statement (.groupEnable) := of_none _
theorem groupDisable : Statement (.groupDisable) := of_none _
theorem readResult : Statement (.readResult) := of_none _
theorem readEvents : Statement (.readEvents) := of_none _
theorem clearFirst : Statement (.clearFirst) := of_none _
theorem releaseTrip : Statement (.releaseTrip) := of_none _
theorem snap : Statement (.snap) := of_none _
theorem holdCapture : Statement (.holdCapture) := of_none _
theorem releaseCapture : Statement (.releaseCapture) := of_none _
theorem readCapture : Statement (.readCapture) := of_none _
theorem readArray : Statement (.readArray) := of_none _
theorem storeConfig : Statement (.storeConfig) := of_none _
theorem restartAnalysis : Statement (.restartAnalysis) := of_none _
theorem resetPart : Statement (.resetPart) := of_none _

end Sys2Proof.Laws.NotSpelled
end

