-- ==== Sys2Proof/Laws/Windows.lean ====
section
/-! SUPPORT. The law of R58 at one group: each shared operation on its windows keeps the sizes of its sets, its
buffer and its capture slot, up to a whole pass and a silence notice. -/

namespace Sys2Proof.Machine

theorem upd_get_fin {α} {n} (v : Vector α n) (i j : Fin n) (x : α) : (upd v i x)[j] = if i = j then x else v[j] := by
  simp [upd, Vector.getElem_set, Fin.ext_iff]

/-! ## The capture slots at one group -/

/-- No slot exceeds 4896 samples, the group owns at most one slot, and a FILLING one of the group holds `n` samples
of a window that is open. -/
def SlotsMatch (g : GroupId) (op : Bool) (n : Nat) (c : Captures) : Prop :=
  ¬(c.slots[0].owner = some g ∧ c.slots[1].owner = some g) ∧
    ∀ j : CaptureIx, c.slots[j].count ≤ 4896 ∧
      (c.slots[j].state = .filling → c.slots[j].owner = some g → op = true ∧ c.slots[j].count = n)

/-- Every owner stays, and so does every slot that the group does not own. -/
def OtherSlotsKept (g : GroupId) (c c' : Captures) : Prop :=
  ∀ j : CaptureIx, c'.slots[j].owner = c.slots[j].owner ∧ (c.slots[j].owner ≠ some g → c'.slots[j] = c.slots[j])

theorem OtherSlotsKept.refl (g c) : OtherSlotsKept g c c := fun _ => ⟨rfl, fun _ => rfl⟩

theorem OtherSlotsKept.trans {g a b c} (h : OtherSlotsKept g a b) (k : OtherSlotsKept g b c) :
    OtherSlotsKept g a c := by
  intro j
  refine ⟨(k j).1.trans (h j).1, fun hn => ?_⟩
  rw [(k j).2 (by rw [(h j).1]; exact hn), (h j).2 hn]

theorem owner_unique {g : GroupId} {c : Captures} (h : ¬(c.slots[0].owner = some g ∧ c.slots[1].owner = some g))
    {i j : CaptureIx} (hi : c.slots[i].owner = some g) (hj : c.slots[j].owner = some g) : i = j := by
  revert i j
  intro i j hi hj
  match i, j with
  | 0, 0 => rfl
  | 1, 1 => rfl
  | 0, 1 => exact absurd ⟨hi, hj⟩ h
  | 1, 0 => exact absurd ⟨hj, hi⟩ h

theorem setSlot_kept (g : GroupId) (c : Captures) (i : CaptureIx) (x : CaptureSlot) (ho : c.slots[i].owner = some g)
    (hx : x.owner = c.slots[i].owner) : OtherSlotsKept g c (setSlot i x c) := by
  intro j
  simp only [setSlot, upd_get_fin]
  by_cases h : i = j
  · subst h; rw [if_pos rfl]; exact ⟨hx, fun k => absurd ho k⟩
  · simp [h]

theorem setSlot_match {g : GroupId} {c : Captures} {i : CaptureIx} {x : CaptureSlot} {op op' : Bool} {n n' : Nat}
    (ho : c.slots[i].owner = some g) (hx : x.owner = c.slots[i].owner) (h : SlotsMatch g op n c) (h1 : x.count ≤ 4896)
    (h2 : x.state = .filling → op' = true ∧ x.count = n') : SlotsMatch g op' n' (setSlot i x c) := by
  obtain ⟨a, b⟩ := h
  have hk := setSlot_kept g c i x ho hx
  refine ⟨?_, ?_⟩
  · rw [show (setSlot i x c).slots[0].owner = _ from (hk 0).1,
      show (setSlot i x c).slots[1].owner = _ from (hk 1).1]; exact a
  · intro j
    by_cases e : i = j
    · subst e
      simp only [setSlot, upd_get_fin, if_true]
      exact ⟨h1, fun p _ => h2 p⟩
    · refine ⟨?_, fun _ p => ?_⟩
      · simp only [setSlot, upd_get_fin, e, if_false]; exact (b j).1
      · rw [(hk j).1] at p
        exact absurd (owner_unique a ho p) e

theorem match_of_none_filling {g : GroupId} {c : Captures} {op op' : Bool} {n n' : Nat} (h : SlotsMatch g op n c)
    (k : ∀ i : CaptureIx, c.slots[i].owner = some g → c.slots[i].state ≠ .filling) : SlotsMatch g op' n' c :=
  ⟨h.1, fun j => ⟨(h.2 j).1, fun a b => absurd a (k j b)⟩⟩

theorem captureOpen_match (g : GroupId) (num seq kind map) (n' : Nat) (c : Captures) (h : SlotsMatch g false n' c) :
    SlotsMatch g true 0 (captureOpen g num seq kind map c) ∧ OtherSlotsKept g c
    (captureOpen g num seq kind map c) := by
  have nf : ∀ i : CaptureIx, c.slots[i].owner = some g → c.slots[i].state ≠ .filling := fun i a b => by
    have := ((h.2 i).2 b a).1; simp at this
  unfold captureOpen
  split
  · rename_i i hi
    have ho := ownedSlot_some hi
    split
    · exact ⟨setSlot_match ho rfl h (by simp) (by simp), setSlot_kept _ _ _ _ ho rfl⟩
    · exact ⟨match_of_none_filling h nf, .refl _ _⟩
  · exact ⟨match_of_none_filling h nf, .refl _ _⟩

theorem captureWrite_match (g : GroupId) (vals) (n : Nat) (hn : n < 4896) (c : Captures) (h : SlotsMatch g true n c) :
    SlotsMatch g true (n + 1) (captureWrite g vals c) ∧ OtherSlotsKept g c (captureWrite g vals c) := by
  unfold captureWrite
  split
  · rename_i i hi
    have ho := ownedSlot_some hi
    split
    · rename_i hf
      have e : c.slots[i].count = n := ((h.2 i).2 hf ho).2
      exact ⟨setSlot_match ho rfl h (by show c.slots[i].count + 1 ≤ 4896; omega)
          (fun _ => ⟨rfl, by show c.slots[i].count + 1 = _; omega⟩), setSlot_kept _ _ _ _ ho rfl⟩
    · rename_i hf
      refine ⟨match_of_none_filling h fun j a b => ?_, .refl _ _⟩
      obtain rfl := owner_unique h.1 ho a
      exact hf b
  · rename_i hi
    exact ⟨match_of_none_filling h fun j a b => absurd a (ownedSlot_none hi j), .refl _ _⟩

theorem fillingSlot_some {g : GroupId} {c : Captures} {i : CaptureIx} (h : fillingSlot g c = some i) :
    c.slots[i].owner = some g ∧ c.slots[i].state = .filling := by
  unfold fillingSlot at h
  split at h
  · rename_i k hk
    split at h
    · cases h; exact ⟨ownedSlot_some hk, by assumption⟩
    · cases h
  · cases h

theorem fillingSlot_none {g : GroupId} {c : Captures} (one : ¬(c.slots[0].owner = some g ∧ c.slots[1].owner = some g))
    (h : fillingSlot g c = none) (j : CaptureIx) : c.slots[j].owner = some g → c.slots[j].state ≠ .filling := by
  intro a b
  unfold fillingSlot at h
  split at h
  · rename_i k hk
    obtain rfl := owner_unique one (ownedSlot_some hk) a
    rw [if_pos b] at h; cases h
  · rename_i hk
    exact ownedSlot_none hk j a

theorem captureAbort_match (g : GroupId) (op n op' n') (c : Captures) (h : SlotsMatch g op n c) : SlotsMatch g op' n'
    (captureAbort g c) ∧ OtherSlotsKept g c (captureAbort g c) := by
  unfold captureAbort
  split
  · rename_i i hi
    have ho := (fillingSlot_some hi).1
    exact ⟨setSlot_match ho rfl h (by simp [CaptureSlot.free]) (by simp), setSlot_kept _ _ _ _ ho rfl⟩
  · rename_i hi
    exact ⟨match_of_none_filling h fun j => fillingSlot_none h.1 hi j, .refl _ _⟩

theorem captureClose_match (c : GroupContext) (op n op' n') (v : GroupView) (h : SlotsMatch c.group op n v.captures) :
    SlotsMatch c.group op' n' (captureClose c v).captures ∧ OtherSlotsKept c.group v.captures
    (captureClose c v).captures ∧ (captureClose c v).grp = v.grp := by
  unfold captureClose
  split
  · rename_i i hi
    have ho := (fillingSlot_some hi).1
    exact ⟨setSlot_match ho rfl h (h.2 i).1 (by simp), setSlot_kept _ _ _ _ ho rfl, rfl⟩
  · rename_i hi
    exact ⟨match_of_none_filling h fun j => fillingSlot_none h.1 hi j, .refl _ _, rfl⟩

/-! ## The accumulator sets of one group -/

/-- The sizes of both sets, and the size of a window that waits for its evaluation or is under it. -/
def SetsSized (rate : Rate) (cfg : GroupRecord) (sets : Vector AccSet 2) : Prop :=
  (∀ i : SetIx, sets[i].m ≤ 4896 ∧ sets[i].held ≤ sets[i].m ∧ sets[i].clamped ≤ sets[i].m) ∧
    ∀ i : SetIx, sets[i].state.isClosed → WholeWindow rate cfg sets[i]

theorem SetsSized.upd {rate cfg sets} (h : SetsSized rate cfg sets) (i : SetIx) (a : AccSet) (h1 : a.m ≤ 4896 ∧
    a.held ≤ a.m ∧ a.clamped ≤ a.m) (h2 : a.state.isClosed → WholeWindow rate cfg a) : SetsSized rate cfg
    (upd sets i a) := by
  refine ⟨fun j => ?_, fun j => ?_⟩
  · rw [upd_get_fin]; split
    · exact h1
    · exact h.1 j
  · rw [upd_get_fin]; split
    · exact h2
    · exact h.2 j

theorem clearSet_sized {t : SetState} (a : AccSet) : (clearSet t a).m ≤ 4896 ∧ (clearSet t a).held ≤
    (clearSet t a).m ∧ (clearSet t a).clamped ≤ (clearSet t a).m := by
  simp [clearSet]

theorem setIn_upd_first {sets : Vector AccSet 2} {i : SetIx} {a : AccSet} {t} (ha : a.state = t) (hi : i = 1 →
    sets[0].state ≠ t) : setIn t (upd sets i a) = some i := by
  unfold setIn
  match i, hi with
  | 0, _ => simp [ha]
  | 1, hi => simp [ha, hi rfl]

theorem setIn_first {t} {sets : Vector AccSet 2} {i : SetIx} (h : setIn t sets = some i) : i = 1 →
    sets[0].state ≠ t := by
  rintro rfl
  unfold setIn at h
  split at h
  · cases h
  · assumption

theorem setToOpen_first (sets : Vector AccSet 2) : setToOpen sets = 1 → sets[0].state ≠ .accumulating := by
  unfold setToOpen
  split
  · rename_i i h; rintro rfl; exact setIn_first h rfl
  · rename_i h; exact fun _ => setIn_none h 0

theorem openWindow_sized (c : GroupContext) (kind seq v) (rate) (h : SetsSized rate v.grp.config v.grp.sets) :
    let w := openWindow c kind seq v
    ∃ i, setIn .accumulating w.grp.sets = some i ∧ w.grp.sets[i].m = 0 ∧ w.grp.sets[i].kind = kind ∧
    w.grp.sets[i].cycles = v.grp.config.cycles ∧ w.grp = { v.grp with sets := w.grp.sets } ∧
    SetsSized rate v.grp.config w.grp.sets := by
  intro w
  refine ⟨setToOpen v.grp.sets, setIn_upd_first rfl (setToOpen_first _), ?_, ?_, ?_, rfl,
      h.upd _ _ (by simp [clearSet]) (by simp [clearSet, SetState.isClosed])⟩
  all_goals simp only [w, openWindow, upd_get_fin, if_true, clearSet]

theorem nominal_bounds (r : Rate) (f : Freq) : 80 ≤ r.samples / f.hertz ∧ r.samples / f.hertz ≤ 288 ∧
    (r.samples / f.hertz) * f.hertz = r.samples := by
  cases r <;> cases f <;> decide

/-! ## A group's windows -/

/-- The law of R58 at one group, with its capture slot. -/
def WindowsHold (c : GroupContext) (v : GroupView) : Prop :=
  GroupWindowsLawful c.rate v.grp ∧ SlotsMatch c.group (windowOpen v.grp.tracker) v.grp.tracker.winSamples v.captures

theorem windows_hold_of_none_open (c : GroupContext) (v : GroupView) (op n) (h0 : CyclesLawful v.grp.config)
    (hs : SetsSized c.rate v.grp.config v.grp.sets) (hb : v.grp.buffer = []) (ht : v.grp.tracker.timing ≠ .tracking)
    (hh : v.grp.tracker.timing = .holdover → v.grp.tracker.winSamples = 0) (hw : v.grp.tracker.winSamples ≤ 4896)
    (hc : SlotsMatch c.group op n v.captures) (ho : op = false) : WindowsHold c v := by
  subst ho
  refine ⟨⟨h0, hw, hs.1, fun _ => hb, fun h => absurd h ht, fun a b => absurd (hh a) b, hs.2⟩, ?_⟩
  refine match_of_none_filling hc fun i a b => ?_
  have := ((hc.2 i).2 b a).1
  simp at this

theorem tracking_window_size {rate : Rate} {g : Group} {a : AccSet} (h0 : CyclesLawful g.config)
    (h : TrackingWindow rate g a) : a.m + g.buffer.length ≤ 4896 ∧ g.tracker.winSamples = a.m + g.buffer.length ∧
    g.buffer.length ≤ 306 := by
  obtain ⟨-, -, h1, ⟨-, h2⟩, -, h3, h4⟩ := h
  obtain ⟨h5, h6⟩ := h0
  have : g.tracker.winCycles ≤ 15 := by omega
  refine ⟨?_, h4, ?_⟩ <;> (generalize g.config.freq = f at *) <;> cases f <;> cases rate <;> simp [Rate.samples,
      Freq.hertz] at * <;> omega

theorem openTracking_keeps (c : GroupContext) (seq x v n) (h0 : CyclesLawful v.grp.config)
    (hs : SetsSized c.rate v.grp.config v.grp.sets) (ht : v.grp.tracker.timing = .tracking)
    (hn : v.grp.tracker.cycleCount = some 1) (hc : SlotsMatch c.group false n v.captures) : WindowsHold c
    (openTracking c seq x v) ∧ OtherSlotsKept c.group v.captures (openTracking c seq x v).captures ∧
    (openTracking c seq x v).grp.config = v.grp.config := by
  obtain ⟨i, h1, h2, h3, h4, h5, h6⟩ := openWindow_sized c .tracking seq v c.rate hs
  have k1 := captureOpen_match c.group v.grp.counter seq .tracking v.grp.config.slots n v.captures hc
  have k2 := captureWrite_match c.group x.vals 0 (by omega) _ k1.1
  have hf : (openTracking c seq x v).grp =
      { v.grp with
        sets := (openWindow c .tracking seq v).grp.sets
        tracker := { v.grp.tracker with winCycles := 0, winSamples := 1 }
        buffer := [x] } := by
    unfold openTracking bufferSample writeCapture onTracker
    simp only [List.nil_append]
    rw [h5]
  refine ⟨⟨?_, ?_⟩, k1.2.trans k2.2, by rw [hf]⟩
  · rw [hf]
    refine ⟨h0, by simp, h6.1, fun h => absurd ht h, fun _ => ⟨i, h1, h3, h4, ?_, ?_, hn, ?_, ?_⟩, fun a => ?_, h6.2⟩
    · exact h0.1
    · show CyclesWorth _ _ 0 ((openWindow c WindowKind.tracking seq v).grp.sets[i].m)
      rw [h2]; simp [CyclesWorth]
    · obtain ⟨a, b, d⟩ := nominal_bounds c.rate v.grp.config.freq
      show 16 * v.grp.config.freq.hertz * 1 ≤ 17 * c.rate.samples
      cases c.rate <;> cases v.grp.config.freq <;> simp [Rate.samples, Freq.hertz]
    · show 1 = (openWindow c .tracking seq v).grp.sets[i].m + 1
      omega
    · rw [show _ = Timing.tracking from ht] at a; cases a
  · rw [hf]
    have e : windowOpen { v.grp.tracker with winCycles := 0, winSamples := 1 } = true := by simp [windowOpen, ht]
    rw [e]
    exact k2.1

theorem sized_clearSet {rate cfg} {t : SetState} (ht : ¬ t.isClosed) (sets : Vector AccSet 2) (i : SetIx)
    (h : SetsSized rate cfg sets) : SetsSized rate cfg (upd sets i (clearSet t sets[i])) :=
  h.upd i _ (clearSet_sized _) (fun k => absurd k ht)

theorem takePending_frame (c w v) : ∃ nb gen cp, (takePending c w v).grp =
    { v.grp with nowBank := nb, generation := gen, commitPending := cp } ∧
    (takePending c w v).captures = v.captures := by
  unfold takePending takeCommit raiseEvent commitBanks
  split
  · exact ⟨_, _, _, rfl, rfl⟩
  · exact ⟨_, _, _, rfl, rfl⟩

theorem closeWindow_keeps (c : GroupContext) (fo : Bool) (v : GroupView) (op n) (i : SetIx)
    (hi : setIn .accumulating v.grp.sets = some i) (hs : SetsSized c.rate v.grp.config v.grp.sets)
    (hw : WholeWindow c.rate v.grp.config v.grp.sets[i]) (hc : SlotsMatch c.group op n v.captures) :
    let w := closeWindow c fo v
    SetsSized c.rate v.grp.config w.grp.sets ∧ w.grp.config = v.grp.config ∧ w.grp.tracker = v.grp.tracker ∧
    w.grp.buffer = v.grp.buffer ∧ SlotsMatch c.group false 0 w.captures ∧
    OtherSlotsKept c.group v.captures w.captures := by
  intro w
  have hcl : ∃ sets, (closeSets c i fo v).grp = { v.grp with sets := sets } ∧ SetsSized c.rate v.grp.config sets ∧
      (closeSets c i fo v).captures = v.captures := by
    have a : SetsSized c.rate v.grp.config (upd v.grp.sets i { v.grp.sets[i] with state := .waiting }) :=
        hs.upd i _ (hs.1 i) (fun _ => hw)
    have a2 := sized_clearSet (t := .accumulating) (by simp [SetState.isClosed]) _ (other i) a
    have a3 := sized_clearSet (t := .accumulating) (by simp [SetState.isClosed]) _ i hs
    have a4 := sized_clearSet (t := .idle) (by simp [SetState.isClosed]) _ i hs
    unfold closeSets
    by_cases hid : v.grp.sets[other i].state = .idle
    · cases fo
      · exact ⟨_, if_pos hid ▸ rfl, a, if_pos hid ▸ rfl⟩
      · exact ⟨_, if_pos hid ▸ rfl, a2, if_pos hid ▸ rfl⟩
    · cases fo
      · exact ⟨_, if_neg hid ▸ rfl, a4, if_neg hid ▸ rfl⟩
      · exact ⟨_, if_neg hid ▸ rfl, a3, if_neg hid ▸ rfl⟩
  obtain ⟨sets, e1, e2, e3⟩ := hcl
  have hwe : w = captureClose c (takePending c (some v.grp.sets[i].number)
      { closeSets c i fo v with
          grp := { (closeSets c i fo v).grp with counter := (closeSets c i fo v).grp.counter + 1 } }) := by
    simp only [w, closeWindow, hi]
  obtain ⟨nb, gen, cp, f1, f2⟩ := takePending_frame c (some v.grp.sets[i].number)
      { closeSets c i fo v with
          grp := { (closeSets c i fo v).grp with counter := (closeSets c i fo v).grp.counter + 1 } }
  have k := captureClose_match c op n false 0 (takePending c (some v.grp.sets[i].number)
      { closeSets c i fo v with
          grp := { (closeSets c i fo v).grp with counter := (closeSets c i fo v).grp.counter + 1 } })
      (by rw [f2]; show SlotsMatch _ _ _ (closeSets c i fo v).captures; rw [e3]; exact hc)
  rw [← hwe] at k
  have hg : w.grp =
      { v.grp with
        sets := sets, counter := v.grp.counter + 1, nowBank := nb, generation := gen, commitPending := cp } := by
    rw [k.2.2, f1, e1]
  refine ⟨by rw [hg]; exact e2, by rw [hg], by rw [hg], by rw [hg], k.1, ?_⟩
  have := k.2.1
  rw [f2] at this
  rw [← e3]; exact this

theorem abortWindow_keeps (c : GroupContext) (r fo) (v : GroupView) (op n) (i : SetIx)
    (hi : setIn .accumulating v.grp.sets = some i) (hs : SetsSized c.rate v.grp.config v.grp.sets)
    (hc : SlotsMatch c.group op n v.captures) :
    let w := abortWindow c r fo v
    SetsSized c.rate v.grp.config w.grp.sets ∧ w.grp.config = v.grp.config ∧ w.grp.tracker = v.grp.tracker ∧
    w.grp.buffer = [] ∧ SlotsMatch c.group false 0 w.captures ∧ OtherSlotsKept c.group v.captures w.captures := by
  intro w
  simp only [w, abortWindow, hi, raiseEvent]
  have k := captureAbort_match c.group op n false 0 _ hc
  exact ⟨sized_clearSet (by cases fo <;> simp [SetState.isClosed]) _ _ hs, by trivial, by trivial, by trivial, k.1,
      k.2⟩

theorem addCycle_counts (cfg len) (l : List Sample) : ∀ (r a),
    let b := addCycle cfg len l r a
    b.m = a.m + l.length ∧ b.held ≤ a.held + l.length ∧ b.clamped ≤ a.clamped + l.length ∧ b.state = a.state ∧
    b.kind = a.kind ∧ b.cycles = a.cycles := by
  induction l with
  | nil => intro r a; simp [addCycle]
  | cons x l ih =>
    intro r a
    obtain ⟨h1, h2, h3, h4, h5, h6⟩ := ih (r + 1) (addSample cfg r len x a)
    refine ⟨?_, ?_, ?_, h4, h5, h6⟩
    · simp only [addCycle] at *; rw [h1]; simp only [addSample, List.length_cons]; omega
    · simp only [addCycle] at *; refine h2.trans ?_; simp only [addSample, List.length_cons]; split <;> omega
    · simp only [addCycle] at *; refine h3.trans ?_; simp only [addSample, List.length_cons]; split <;> omega

theorem holdoverSample_keeps (c : GroupContext) (seq x v) (op n) (h0 : CyclesLawful v.grp.config)
    (hs : SetsSized c.rate v.grp.config v.grp.sets) (ht : v.grp.tracker.timing = .holdover) (hb : v.grp.buffer = [])
    (hw : v.grp.tracker.winSamples ≠ 0 → ∃ i : SetIx, setIn .accumulating v.grp.sets = some i ∧
    HoldoverWindow c.rate v.grp v.grp.sets[i]) (hc : SlotsMatch c.group op n v.captures)
    (hop : op = decide (v.grp.tracker.winSamples ≠ 0)) (hn : op = true → n = v.grp.tracker.winSamples) : WindowsHold c
    (holdoverSample c seq x v) ∧ OtherSlotsKept c.group v.captures (holdoverSample c seq x v).captures ∧
    (holdoverSample c seq x v).grp.config = v.grp.config := by
  obtain ⟨l1, l2, l3⟩ := nominal_bounds c.rate v.grp.config.freq
  obtain ⟨v1, hv1⟩ : ∃ v1, v1 = if v.grp.tracker.winSamples = 0 then openWindow c .holdover seq v else v := ⟨_, rfl⟩
  have key : ∃ i : SetIx, setIn .accumulating v1.grp.sets = some i ∧ v1.grp.sets[i].m = v1.grp.tracker.winSamples ∧
      v1.grp.sets[i].kind = .holdover ∧
      v1.grp.sets[i].cycles = v.grp.config.cycles ∧ v1.grp.config = v.grp.config ∧ v1.grp.tracker = v.grp.tracker ∧
          v1.grp.buffer = [] ∧ SetsSized c.rate v.grp.config v1.grp.sets ∧
      SlotsMatch c.group true v1.grp.tracker.winSamples v1.captures ∧ OtherSlotsKept c.group v.captures v1.captures ∧
      v.grp.tracker.winSamples < v.grp.config.cycles * (c.rate.samples / v.grp.config.freq.hertz) := by
    by_cases hz : v.grp.tracker.winSamples = 0
    · obtain ⟨i, h1, h2, h3, h4, h5, h6⟩ := openWindow_sized c .holdover seq v c.rate hs
      have k1 := captureOpen_match c.group v.grp.counter seq .holdover v.grp.config.slots n v.captures (by
        have : op = false := by rw [hop, hz]; rfl
        rw [← this]; exact hc)
      rw [if_pos hz] at hv1
      subst hv1
      refine ⟨i, h1, by rw [h2, h5]; exact hz.symm, h3, h4, by rw [h5], by rw [h5], by rw [h5]; exact hb, h6, ?_,
          k1.2, ?_⟩
      · have : (openWindow c .holdover seq v).grp.tracker.winSamples = 0 := by rw [h5]; exact hz
        rw [this]; exact k1.1
      · rw [hz]; exact Nat.mul_pos h0.1 (by omega)
    · obtain ⟨i, h1, h2, h3, h4, h5⟩ := hw hz
      rw [if_neg hz] at hv1
      subst hv1
      have o : op = true := by rw [hop]; simp [hz]
      refine ⟨i, h1, h4, h2, h3, rfl, rfl, hb, hs, ?_, .refl _ _, h5⟩
      rw [← hn o, ← o]; exact hc
  obtain ⟨i, h1, h2, h3, h4, h5, h6, h7, h8, h9, h10, h11⟩ := key
  obtain ⟨b, hbdef⟩ : ∃ b, b = addSample v1.grp.config
      (v1.grp.tracker.winSamples % nominalLength c.rate v1.grp.config.freq) (nominalLength c.rate v1.grp.config.freq) x
      v1.grp.sets[i] := ⟨_, rfl⟩
  have hb1 : b.m = v1.grp.tracker.winSamples + 1 ∧ b.kind = .holdover ∧ b.cycles = v.grp.config.cycles ∧
      b.state = .accumulating ∧ b.held ≤ b.m ∧ b.clamped ≤ b.m := by
    have := h8.1 i
    have st := setIn_some h1
    subst hbdef
    refine ⟨by show v1.grp.sets[i].m + 1 = _; rw [h2], h3, h4, st, ?_, ?_⟩
        <;> (simp only [addSample]; split <;> omega)
  have bound : v.grp.config.cycles * (c.rate.samples / v.grp.config.freq.hertz) ≤ 4608 := by
    calc _ ≤ 16 * 288 := Nat.mul_le_mul h0.2 l2
      _ = _ := rfl
  have hg : onOpenSet (addSample v1.grp.config (v1.grp.tracker.winSamples % nominalLength c.rate v1.grp.config.freq)
      (nominalLength c.rate v1.grp.config.freq) x) v1.grp = { v1.grp with sets := upd v1.grp.sets i b } := by
    unfold onOpenSet; rw [h1, hbdef]
  obtain ⟨v2, hv2⟩ : ∃ v2 : GroupView,
      v2 =
      { v1 with
        grp := { v1.grp with
          sets := upd v1.grp.sets i b
          tracker := { v1.grp.tracker with winSamples := v1.grp.tracker.winSamples + 1 } }
        captures := captureWrite c.group x.vals v1.captures } := ⟨_, rfl⟩
  have hwhole : holdoverSample c seq x v =
      if holdoverLength c v2.grp ≤ v2.grp.tracker.winSamples then closeHoldover c v2 else v2 := by
    unfold holdoverSample
    simp only []
    rw [← hv1, hg, hv2]
    rfl
  have k2 := captureWrite_match c.group x.vals _ (by rw [h6]; omega) _ h9
  have s2 : SetsSized c.rate v.grp.config (upd v1.grp.sets i b) := by
    refine h8.upd i b ⟨by rw [hb1.1, h6]; omega, hb1.2.2.2.2⟩ (fun k => ?_)
    rw [hb1.2.2.2.1] at k; simp [SetState.isClosed] at k
  have a2 : setIn .accumulating (upd v1.grp.sets i b) = some i := setIn_upd_first hb1.2.2.2.1 (setIn_first h1)
  have cfg2 : v2.grp.config = v.grp.config := by rw [hv2]; exact h5
  have ok2 : OtherSlotsKept c.group v.captures v2.captures := by rw [hv2]; exact h10.trans k2.2
  have t2 : v2.grp.tracker = { v.grp.tracker with winSamples := v.grp.tracker.winSamples + 1 } := by rw [hv2, h6]
  have ss2 : v2.grp.sets = upd v1.grp.sets i b := by rw [hv2]
  have bb2 : v2.grp.buffer = [] := by rw [hv2]; exact h7
  have cc2 : SlotsMatch c.group true (v.grp.tracker.winSamples + 1) v2.captures := by rw [hv2, ← h6]; exact k2.1
  have len : holdoverLength c v2.grp = v.grp.config.cycles * (c.rate.samples / v.grp.config.freq.hertz) := by
    simp only [holdoverLength, cfg2, nominalLength]
  rw [hwhole, len, t2]
  clear hwhole hv2 hv1
  split
  · rename_i hge
    have hge : v.grp.config.cycles * (c.rate.samples / v.grp.config.freq.hertz) ≤ v.grp.tracker.winSamples + 1 := hge
    have wh : WholeWindow c.rate v2.grp.config v2.grp.sets[i] := by
      rw [cfg2, ss2, upd_get_fin, if_pos rfl]
      refine ⟨hb1.2.2.1, .inr ⟨hb1.2.1, ?_⟩⟩
      rw [hb1.1, h6]; omega
    have kk (fo : Bool) := closeWindow_keeps c fo v2 true _ i (by rw [ss2]; exact a2)
        (by rw [cfg2, ss2]; exact s2) wh cc2
    simp only [closeHoldover]
    split
    · obtain ⟨p1, p2, p3, p4, p5, p6⟩ := kk false
      refine ⟨windows_hold_of_none_open c _ false 0 ?_ ?_ ?_ ?_ ?_ ?_ p5 rfl, ok2.trans p6, ?_⟩
      · show CyclesLawful (closeWindow c false v2).grp.config
        rw [p2, cfg2]; exact h0
      · show SetsSized _ (closeWindow c false v2).grp.config (closeWindow c false v2).grp.sets
        rw [p2]; exact p1
      · exact p4.trans bb2
      · show Timing.aligning ≠ _; decide
      · exact fun h => (nomatch h)
      · show 0 ≤ 4896; omega
      · exact p2.trans cfg2
    · obtain ⟨p1, p2, p3, p4, p5, p6⟩ := kk true
      refine ⟨windows_hold_of_none_open c _ false 0 ?_ ?_ ?_ ?_ ?_ ?_ p5 rfl, ok2.trans p6, ?_⟩
      · show CyclesLawful (closeWindow c true v2).grp.config
        rw [p2, cfg2]; exact h0
      · show SetsSized _ (closeWindow c true v2).grp.config (closeWindow c true v2).grp.sets
        rw [p2]; exact p1
      · exact p4.trans bb2
      · show (closeWindow c true v2).grp.tracker.timing ≠ _
        rw [p3, t2]; show v.grp.tracker.timing ≠ _
        rw [ht]; decide
      · exact fun _ => rfl
      · show 0 ≤ 4896; omega
      · exact p2.trans cfg2
  · rename_i hlt
    have hlt : ¬ v.grp.config.cycles * (c.rate.samples / v.grp.config.freq.hertz) ≤ v.grp.tracker.winSamples + 1 :=
        hlt
    refine ⟨⟨⟨by rw [cfg2]; exact h0, by rw [t2]; show v.grp.tracker.winSamples + 1 ≤ 4896; omega,
        by rw [ss2]; exact s2.1, fun _ => bb2, fun h => ?_,
        fun _ _ => ⟨i, by rw [ss2]; exact a2, ?_⟩, by rw [cfg2, ss2]; exact s2.2⟩, ?_⟩, ok2, cfg2⟩
    · rw [t2] at h
      rw [show v.grp.tracker.timing = Timing.tracking from h] at ht; cases ht
    · rw [ss2, upd_get_fin, if_pos rfl]
      refine ⟨hb1.2.1, by rw [cfg2]; exact hb1.2.2.1, ?_, ?_⟩
      · rw [hb1.1, t2, h6]
      · rw [t2, cfg2]; show v.grp.tracker.winSamples + 1 < _; omega
    · rw [t2]
      have : windowOpen { v.grp.tracker with winSamples := v.grp.tracker.winSamples + 1 } = true :=
          by simp [windowOpen, ht]
      rw [this]; exact cc2

/-- An act at a group keeps the law of R58, every capture slot of another owner, and the configuration. -/
def KeepsWindows (c : GroupContext) (v w : GroupView) : Prop :=
  WindowsHold c w ∧ OtherSlotsKept c.group v.captures w.captures ∧ w.grp.config = v.grp.config

theorem length_of_lt_longest {r : Rate} {f : Freq} {n : Nat} : n < longestCycle r f → 16 * f.hertz *
    (n + 1) ≤ 17 * r.samples := by
  unfold longestCycle
  cases r <;> cases f <;> simp [Rate.samples, Freq.hertz] <;> omega

theorem accepted_verdict {c : GroupContext} {g : Group} {x len} (hv : sampleVerdict c g x = .accepted len) :
    g.tracker.cycleCount = some len ∧ isCrossing g.tracker (refValue g x) = true ∧
    15 * c.rate.samples ≤ 16 * len * g.config.freq.hertz ∧ 16 * len * g.config.freq.hertz ≤ 17 * c.rate.samples := by
  unfold sampleVerdict verdictOf at hv
  split at hv
  · split at hv
    · rename_i h; simp [cycleAccepted] at h; cases hv; exact ⟨by assumption, by assumption, h⟩
    · cases hv
  · split at hv <;> cases hv
  · cases hv

theorem abort_to_holdover_keeps (c : GroupContext) (v : GroupView) (u : Tracker) (op n i)
    (hi : setIn .accumulating v.grp.sets = some i) (h0 : CyclesLawful v.grp.config)
    (hs : SetsSized c.rate v.grp.config v.grp.sets) (hc : SlotsMatch c.group op n v.captures) : KeepsWindows c v
    (enterHoldover c (abortWindow c .timingLoss true { v with grp := { v.grp with tracker := u } })) := by
  obtain ⟨p1, p2, p3, p4, p5, p6⟩ :=
      abortWindow_keeps c .timingLoss true { v with grp := { v.grp with tracker := u } } op n i hi hs hc
  refine ⟨windows_hold_of_none_open c _ false 0 ?_ ?_ p4 (by show Timing.holdover ≠ _; decide) (fun _ => rfl)
      (by show 0 ≤ 4896; omega) p5 rfl, p6, p2⟩
  · show CyclesLawful (abortWindow c _ true _).grp.config
    rw [p2]; exact h0
  · show SetsSized _ (abortWindow c _ true _).grp.config _
    rw [p2]; exact p1

theorem handleSample_keeps (c : GroupContext) (seq x v) (h : WindowsHold c v) : KeepsWindows c v
    (handleSample c seq x v) := by
  obtain ⟨⟨h0, h1, h2, h3, h4, h5, h6⟩, hc⟩ := h
  have hs : SetsSized c.rate v.grp.config v.grp.sets := ⟨h2, h6⟩
  obtain ⟨u, hu⟩ : ∃ u, u = (trackSample c x v.grp).tracker := ⟨_, rfl⟩
  have ut : u.timing = v.grp.tracker.timing := by rw [hu]; rfl
  have uw : u.winSamples = v.grp.tracker.winSamples := by rw [hu]; rfl
  have uc : u.winCycles = v.grp.tracker.winCycles := by rw [hu]; rfl
  have un : u.cycleCount =
      nextCount c.rate v.grp.config.freq (isCrossing v.grp.tracker (refValue v.grp x)) v.grp.tracker.cycleCount := by
    rw [hu]; rfl
  have htr : trackSample c x v.grp = { v.grp with tracker := u } := by rw [hu]; rfl
  unfold handleSample
  simp only [htr]
  simp only [ut]
  cases ht : v.grp.tracker.timing with
  | disabled =>
    simp only [windowOpen, ht] at hc
    exact ⟨windows_hold_of_none_open c _ _ _ h0 hs (h3 (by rw [ht]; decide))
        (by show u.timing ≠ _; rw [ut, ht]; decide)
        (fun k => by rw [show u.timing = _ from k] at ut; rw [ht] at ut; cases ut)
        (by show u.winSamples ≤ _; omega) hc rfl, .refl _ _, rfl⟩
  | noSignal =>
    simp only [windowOpen, ht] at hc
    exact ⟨windows_hold_of_none_open c _ _ _ h0 hs (h3 (by rw [ht]; decide))
        (by show u.timing ≠ _; rw [ut, ht]; decide)
        (fun k => by rw [show u.timing = _ from k] at ut; rw [ht] at ut; cases ut)
        (by show u.winSamples ≤ _; omega) hc rfl, .refl _ _, rfl⟩
  | acquiring =>
    have hb := h3 (by rw [ht]; decide)
    have hc' : SlotsMatch c.group false v.grp.tracker.winSamples v.captures := by
      simpa [windowOpen, ht] using hc
    simp only [acquiringSample]
    split
    · rename_i hl
      have hv : ∃ len, sampleVerdict c v.grp x = .accepted len := by
        unfold locks at hl; split at hl
        · exact ⟨_, by assumption⟩
        · cases hl
      refine openTracking_keeps c seq x _ v.grp.tracker.winSamples h0 hs rfl ?_ hc'
      show u.cycleCount = some 1
      obtain ⟨len, hv⟩ := hv
      rw [un, (accepted_verdict hv).2.1]
      rfl
    · split
      · exact ⟨windows_hold_of_none_open c _ _ _ h0 hs hb (by show Timing.holdover ≠ _; decide) (fun _ => rfl)
          (by show 0 ≤ 4896; omega) hc' rfl, .refl _ _, rfl⟩
      · refine ⟨windows_hold_of_none_open c _ _ _ h0 hs hb (by show u.timing ≠ _; rw [ut, ht]; decide) (fun k => ?_)
          (by show u.winSamples ≤ _; omega) hc' rfl, .refl _ _, rfl⟩
        rw [show u.timing = _ from k, ht] at ut; cases ut
  | tracking =>
    obtain ⟨i, hi, hw⟩ := h4 ht
    obtain ⟨z1, z2, z3⟩ := tracking_window_size h0 hw
    obtain ⟨w1, w2, w3, w4, w5, w6, w7⟩ := hw
    have hc' : SlotsMatch c.group true v.grp.tracker.winSamples v.captures := by
      simpa [windowOpen, ht] using hc
    have wo (t : Tracker) (e : t.timing = .tracking) : windowOpen t = true := by simp [windowOpen, e]
    simp only [trackingSample]
    cases hv : sampleVerdict c v.grp x with
    | none =>
      have hn : u.cycleCount = some (v.grp.buffer.length + 1) ∧
          v.grp.buffer.length < longestCycle c.rate v.grp.config.freq := by
        rw [un]
        unfold sampleVerdict verdictOf at hv
        unfold nextCount
        rw [w5] at hv ⊢
        cases hcr : isCrossing v.grp.tracker (refValue v.grp x) <;> simp only [hcr] at hv ⊢
        · split at hv
          · rename_i hlt; simp [hlt]
          · cases hv
        · split at hv <;> cases hv
      have hT : TrackingWindow c.rate
          { v.grp with tracker := { u with winSamples := u.winSamples + 1 }, buffer := v.grp.buffer ++ [x] }
          v.grp.sets[i] := by
        refine ⟨w1, w2, ?_, ?_, ?_, ?_, ?_⟩
        · show u.winCycles < _; rw [uc]; exact w3
        · show CyclesWorth _ _ u.winCycles _; rw [uc]; exact w4
        · show u.cycleCount = some (v.grp.buffer ++ [x]).length
          rw [hn.1]; simp
        · show 16 * v.grp.config.freq.hertz * (v.grp.buffer ++ [x]).length ≤ _
          simp only [List.length_append, List.length_singleton]
          exact length_of_lt_longest hn.2
        · show u.winSamples + 1 = v.grp.sets[i].m + (v.grp.buffer ++ [x]).length
          simp only [List.length_append, List.length_singleton]; omega
      have sz := tracking_window_size (by exact h0) hT
      have sz2 : u.winSamples + 1 ≤ 4896 := by
        have a := sz.1; have b := sz.2.1
        rw [← b] at a; exact a
      have k := captureWrite_match c.group x.vals v.grp.tracker.winSamples (by omega) _ hc'
      refine ⟨⟨⟨h0, sz2, h2, fun a => absurd (by show u.timing = _; rw [ut, ht]) a, fun _ => ⟨i, hi, hT⟩,
          fun a => ?_, h6⟩, ?_⟩, k.2, rfl⟩
      · rw [show u.timing = _ from a, ht] at ut; cases ut
      · have := wo { u with winSamples := u.winSamples + 1 }
            (by show u.timing = _; rw [ut, ht])
        show SlotsMatch _ (windowOpen { u with winSamples := u.winSamples + 1 }) (u.winSamples + 1) _
        rw [this, uw]; exact k.1
    | accepted len =>
      obtain ⟨q1, q2, q3, q4⟩ := accepted_verdict hv
      rw [w5] at q1
      have q1 : v.grp.buffer.length = len := by injection q1
      subst q1
      obtain ⟨b, hb⟩ : ∃ b, b = addCycle v.grp.config v.grp.buffer.length v.grp.buffer 0 v.grp.sets[i] := ⟨_, rfl⟩
      have hb' := addCycle_counts v.grp.config v.grp.buffer.length v.grp.buffer 0 v.grp.sets[i]
      simp only [← hb] at hb'
      obtain ⟨b1, b2, b3, b4, b5, b6⟩ := hb'
      have worth : CyclesWorth c.rate v.grp.config (v.grp.tracker.winCycles + 1) b.m := by
        obtain ⟨a1, a2⟩ := w4
        unfold CyclesWorth
        rw [b1]
        constructor
        · rw [Nat.mul_add, Nat.mul_add, Nat.mul_one]
          have : 16 * v.grp.config.freq.hertz * v.grp.buffer.length =
              16 * v.grp.buffer.length * v.grp.config.freq.hertz := by ring
          omega
        · rw [Nat.mul_add, Nat.mul_add, Nat.mul_one]
          have : 16 * v.grp.config.freq.hertz * v.grp.buffer.length =
              16 * v.grp.buffer.length * v.grp.config.freq.hertz := by ring
          omega
      have hs2 : SetsSized c.rate v.grp.config (upd v.grp.sets i b) := by
        have := h2 i
        refine hs.upd i b ⟨?_, ?_, ?_⟩ (fun k => ?_)
        · rw [b1]; exact z1
        · omega
        · omega
        · rw [b4, setIn_some hi] at k; simp [SetState.isClosed] at k
      have a2 : setIn .accumulating (upd v.grp.sets i b) = some i :=
          setIn_upd_first (by rw [b4]; exact setIn_some hi) (setIn_first hi)
      obtain ⟨v1, hv1⟩ : ∃ v1 : GroupView,
          v1 = { v with grp := { v.grp with tracker := u, sets := upd v.grp.sets i b, buffer := [] } } := ⟨_, rfl⟩
      have whole : acceptedCycle c seq x v.grp.buffer.length { v with grp := { v.grp with tracker := u } } =
          if v1.grp.config.cycles ≤ v1.grp.tracker.winCycles + 1 then openTracking c seq x (closeWindow c true v1)
          else bufferSample c x
            (onTracker (fun t => { t with winCycles := t.winCycles + 1, winSamples := t.winSamples + 1 }) v1) := by
        unfold acceptedCycle onOpenSet
        simp only [hi, ← hb, hv1]
      have hcount : u.cycleCount = some 1 := by rw [un, q2]; rfl
      simp only [whole]
      split
      · rename_i hge
        have hge : v.grp.config.cycles ≤ v.grp.tracker.winCycles + 1 :=
            by rw [hv1] at hge; simp only [uc] at hge; exact hge
        have wc : v.grp.tracker.winCycles + 1 = v.grp.config.cycles := by omega
        have wh : WholeWindow c.rate v1.grp.config v1.grp.sets[i] := by
          rw [hv1]; simp only [upd_get_fin, if_true]
          exact ⟨b6.trans w2, .inl ⟨b5.trans w1, wc ▸ worth⟩⟩
        obtain ⟨p1, p2, p3, p4, p5, p6⟩ :=
            closeWindow_keeps c true v1 true v.grp.tracker.winSamples i (by rw [hv1]; exact a2)
            (by rw [hv1]; exact hs2) wh (by rw [hv1]; exact hc')
        have := openTracking_keeps c seq x (closeWindow c true v1) 0 (by rw [p2, hv1]; exact h0)
            (by rw [p2]; exact p1) (by rw [p3, hv1]; show u.timing = _; rw [ut, ht])
            (by rw [p3, hv1]; exact hcount) p5
        refine ⟨this.1, ?_, this.2.2.trans (p2.trans (by rw [hv1]))⟩
        have p6' : OtherSlotsKept c.group v.captures (closeWindow c true v1).captures := by
          have e : v1.captures = v.captures := by rw [hv1]
          rw [← e]; exact p6
        exact p6'.trans this.2.1
      · rename_i hlt
        have hlt2 : ¬ v.grp.config.cycles ≤ v.grp.tracker.winCycles + 1 :=
            by rw [hv1] at hlt; simp only [uc] at hlt; exact hlt
        subst hv1
        have hT : TrackingWindow c.rate
            { v.grp with
              tracker := { u with winCycles := u.winCycles + 1, winSamples := u.winSamples + 1 }
              sets := upd v.grp.sets i b
              buffer := [x] } b := by
          refine ⟨b5.trans w1, b6.trans w2, ?_, ?_, hcount, ?_, ?_⟩
          · show u.winCycles + 1 < v.grp.config.cycles; rw [uc]; exact Nat.lt_of_not_le hlt2
          · show CyclesWorth _ _ (u.winCycles + 1) _; rw [uc]; exact worth
          · show 16 * v.grp.config.freq.hertz * 1 ≤ 17 * c.rate.samples
            cases c.rate <;> cases v.grp.config.freq <;> simp [Rate.samples, Freq.hertz]
          · show u.winSamples + 1 = b.m + 1; omega
        have sz := tracking_window_size (by exact h0) hT
        have sz2 : u.winSamples + 1 ≤ 4896 := by
          have a := sz.1; have b := sz.2.1
          rw [← b] at a; exact a
        have k := captureWrite_match c.group x.vals v.grp.tracker.winSamples (by omega) _ hc'
        refine ⟨⟨⟨h0, sz2, hs2.1, fun a => absurd (by show u.timing = _; rw [ut, ht]) a, fun _ => ⟨i, a2, ?_⟩,
            fun a => ?_, hs2.2⟩, ?_⟩, k.2, rfl⟩
        · show TrackingWindow _ _ (upd v.grp.sets i b)[i]
          rw [upd_get_fin, if_pos rfl]; exact hT
        · rw [show u.timing = _ from a, ht] at ut; cases ut
        · have := wo { u with winCycles := u.winCycles + 1, winSamples := u.winSamples + 1 }
            (by show u.timing = _; rw [ut, ht])
          show SlotsMatch _ (windowOpen { u with winCycles := u.winCycles + 1, winSamples := u.winSamples + 1 })
              (u.winSamples + 1) _
          rw [this, uw]; exact k.1
    | early => exact abort_to_holdover_keeps c v u _ _ i hi h0 hs hc'
    | late => exact abort_to_holdover_keeps c v u _ _ i hi h0 hs hc'
  | holdover =>
    have := holdoverSample_keeps c seq x { v with grp := { v.grp with tracker := u } }
      (windowOpen v.grp.tracker) v.grp.tracker.winSamples h0 hs (by show u.timing = _; rw [ut, ht])
      (h3 (by rw [ht]; decide))
      (fun k => ?_) hc ?_ (fun _ => uw.symm)
    · exact this
    · obtain ⟨i, a, b1, b2, b3, b4⟩ := h5 ht (by rw [← uw]; exact k)
      exact ⟨i, a, b1, b2, b3.trans uw.symm, by show u.winSamples < _; rw [uw]; exact b4⟩
    · show _ = decide (u.winSamples ≠ 0)
      rw [uw]; simp [windowOpen, ht]
  | aligning =>
    have hb := h3 (by rw [ht]; decide)
    have hc' : SlotsMatch c.group false v.grp.tracker.winSamples v.captures := by
      simpa [windowOpen, ht] using hc
    simp only [aligningSample]
    split
    · rename_i hcr
      refine openTracking_keeps c seq x _ v.grp.tracker.winSamples h0 hs rfl ?_ hc'
      show u.cycleCount = some 1
      rw [un, hcr]; rfl
    · split
      · exact holdoverSample_keeps c seq x (enterHoldover c { v with grp := { v.grp with tracker := u } }) false
            v.grp.tracker.winSamples h0 hs rfl hb (fun k => absurd rfl k) hc' rfl (fun k => nomatch k)
      · refine ⟨windows_hold_of_none_open c _ _ _ h0 hs hb (by show u.timing ≠ _; rw [ut, ht]; decide) (fun k => ?_)
          (by show u.winSamples ≤ _; omega) hc' rfl, .refl _ _, rfl⟩
        rw [show u.timing = _ from k, ht] at ut; cases ut

theorem KeepsWindows.refl {c v} (h : WindowsHold c v) : KeepsWindows c v v := ⟨h, .refl _ _, rfl⟩

theorem KeepsWindows.trans {c u v w} (h : KeepsWindows c u v) (k : KeepsWindows c v w) : KeepsWindows c u w :=
  ⟨k.1, h.2.1.trans k.2.1, k.2.2.trans h.2.2⟩

/-- A change of the tracker record that touches no field of the window. -/
theorem tracker_keeps (c : GroupContext) (v : GroupView) (t : Tracker) (h : WindowsHold c v)
    (e1 : t.timing = v.grp.tracker.timing) (e2 : t.winSamples = v.grp.tracker.winSamples)
    (e3 : t.winCycles = v.grp.tracker.winCycles) (e4 : t.cycleCount = v.grp.tracker.cycleCount) : KeepsWindows c v
    { v with grp := { v.grp with tracker := t } } := by
  obtain ⟨⟨h0, h1, h2, h3, h4, h5, h6⟩, hc⟩ := h
  refine ⟨⟨⟨h0, by show t.winSamples ≤ _; omega, h2, by show t.timing ≠ _ → _; rw [e1]; exact h3, ?_, ?_, h6⟩, ?_⟩,
      .refl _ _, rfl⟩
  · show t.timing = _ → _
    rw [e1]; intro a
    obtain ⟨i, hi, w1, w2, w3, w4, w5, w6, w7⟩ := h4 a
    exact ⟨i, hi, w1, w2, by show t.winCycles < v.grp.config.cycles; omega,
        by show CyclesWorth _ _ t.winCycles _; rw [e3]; exact w4, e4.trans w5, w6, e2.trans w7⟩
  · show t.timing = _ → t.winSamples ≠ 0 → _
    rw [e1, e2]; intro a b
    obtain ⟨i, hi, w1, w2, w3, w4⟩ := h5 a b
    exact ⟨i, hi, w1, w2, w3.trans e2.symm, by show t.winSamples < _; rw [e2]; exact w4⟩
  · show SlotsMatch _ (windowOpen t) t.winSamples _
    have : windowOpen t = windowOpen v.grp.tracker := by simp [windowOpen, e1, e2]
    rw [this, e2]; exact hc

theorem tracker_keeps_closed (c : GroupContext) (v : GroupView) (t : Tracker) (h : WindowsHold c v)
    (hno : windowOpen v.grp.tracker = false) (e1 : t.timing ≠ .tracking) (e2 : t.timing = .holdover →
    t.winSamples = 0) (e3 : t.winSamples ≤ 4896) : KeepsWindows c v
    { v with grp := { v.grp with tracker := t } } := by
  obtain ⟨⟨h0, h1, h2, h3, h4, h5, h6⟩, hc⟩ := h
  rw [hno] at hc
  exact ⟨windows_hold_of_none_open c _ _ _ h0 ⟨h2, h6⟩ (h3 fun k => by simp [windowOpen, k] at hno) e1 e2 e3 hc rfl,
      .refl _ _, rfl⟩

theorem open_window_set {c v} (h : WindowsHold c v) (ho : windowOpen v.grp.tracker = true) : ∃ i,
    setIn .accumulating v.grp.sets = some i := by
  simp [windowOpen] at ho
  rcases ho with ho | ⟨ho, hz⟩
  · obtain ⟨i, hi, -⟩ := h.1.2.2.2.2.1 ho; exact ⟨i, hi⟩
  · obtain ⟨i, hi, -⟩ := h.1.2.2.2.2.2.1 ho hz; exact ⟨i, hi⟩

theorem abortWindow_then_keeps (c : GroupContext) (r fo) (v : GroupView) (t : Tracker) (ev) (h : WindowsHold c v)
    (ho : windowOpen v.grp.tracker = true) (e1 : t.timing ≠ .tracking) (e2 : t.timing = .holdover → t.winSamples = 0)
    (e3 : t.winSamples ≤ 4896) : KeepsWindows c v
    { abortWindow c r fo v with grp := { (abortWindow c r fo v).grp with tracker := t }, events := ev } := by
  obtain ⟨i, hi⟩ := open_window_set h ho
  obtain ⟨p1, p2, p3, p4, p5, p6⟩ := abortWindow_keeps c r fo v _ _ i hi ⟨h.1.2.2.1, h.1.2.2.2.2.2.2⟩ h.2
  refine ⟨windows_hold_of_none_open c _ false 0 ?_ ?_ p4 e1 e2 e3 p5 rfl, p6, p2⟩
  · show CyclesLawful (abortWindow c r fo v).grp.config
    rw [p2]; exact h.1.1
  · show SetsSized _ (abortWindow c r fo v).grp.config _
    rw [p2]; exact p1

theorem largeGap_keeps (c : GroupContext) (v : GroupView) (h : WindowsHold c v) : KeepsWindows c v (largeGap c v) :=
    by
  unfold largeGap
  cases ht : v.grp.tracker.timing with
  | disabled => exact .refl h
  | noSignal => exact .refl h
  | acquiring =>
    exact tracker_keeps_closed c v _ h (by simp [windowOpen, ht])
      (by show v.grp.tracker.timing ≠ _; rw [ht]; decide)
      (fun k => by rw [show v.grp.tracker.timing = _ from k] at ht; cases ht) h.1.2.1
  | aligning =>
    exact tracker_keeps_closed c v _ h (by simp [windowOpen, ht]) (by show Timing.acquiring ≠ _; decide)
      (fun k => nomatch k) (Nat.zero_le _)
  | tracking =>
    exact abortWindow_then_keeps c .gap false v _ _ h (by simp [windowOpen, ht])
      (by show Timing.acquiring ≠ _; decide) (fun k => nomatch k) (Nat.zero_le _)
  | holdover =>
    cases hw : windowOpen v.grp.tracker
    · simp only
      exact tracker_keeps_closed c v _ h hw (by show v.grp.tracker.timing ≠ _; rw [ht]; decide) (fun _ => rfl)
          (Nat.zero_le _)
    · simp only [if_true]
      have p3 : (abortWindow c .gap true v).grp.tracker = v.grp.tracker := by
        obtain ⟨i, hi⟩ := open_window_set h hw
        exact (abortWindow_keeps c .gap true v _ _ i hi ⟨h.1.2.2.1, h.1.2.2.2.2.2.2⟩ h.2).2.2.1
      exact abortWindow_then_keeps c .gap true v _ _ h hw
        (by show (abortWindow c .gap true v).grp.tracker.timing ≠ _; rw [p3, ht]; decide)
        (fun _ => rfl) (Nat.zero_le _)

theorem silenceNotice_keeps (c : GroupContext) (v : GroupView) (h : WindowsHold c v) : KeepsWindows c v
    (silenceNotice c v) := by
  unfold silenceNotice
  by_cases hn : v.grp.tracker.timing = .noSignal
  · have hw : windowOpen v.grp.tracker = false := by simp [windowOpen, hn]
    simp only [hw, hn]
    exact tracker_keeps_closed c v _ h hw (by show v.grp.tracker.timing ≠ _; rw [hn]; decide) (fun _ => rfl)
        (Nat.zero_le _)
  · simp only [if_neg hn]
    by_cases hw : windowOpen v.grp.tracker = true
    · simp only [if_pos hw]
      exact abortWindow_then_keeps c .silence false v _ _ h hw (by show Timing.noSignal ≠ _; decide)
          (fun k => nomatch k) (Nat.zero_le _)
    · have hw' : windowOpen v.grp.tracker = false := by simpa using hw
      simp only [if_neg hw]
      split
      · rename_i hh
        unfold dropWaitingSet
        split
        · rename_i i hi
          have b := h
          rw [WindowsHold, hw'] at b
          exact ⟨windows_hold_of_none_open c _ _ _ h.1.1
            (sized_clearSet (by simp [SetState.isClosed]) _ _ ⟨h.1.2.2.1, h.1.2.2.2.2.2.2⟩)
            (h.1.2.2.2.1 (by rw [hh]; decide))
            (by show Timing.noSignal ≠ _; decide) (fun k => nomatch k) (Nat.zero_le _) b.2 rfl, .refl _ _, rfl⟩
        · exact tracker_keeps_closed c v _ h hw' (by show Timing.noSignal ≠ _; decide) (fun k => nomatch k)
            (Nat.zero_le _)
      · exact tracker_keeps_closed c v _ h hw' (by show Timing.noSignal ≠ _; decide) (fun k => nomatch k)
          (Nat.zero_le _)

theorem handleInstant_keeps (c : GroupContext) (e v i) (h : WindowsHold c v) : KeepsWindows c v
    (handleInstant c e v i) := by
  unfold handleInstant
  cases i with
  | held q => exact handleSample_keeps c q _ v h
  | real q =>
    have k := tracker_keeps c v { v.grp.tracker with last := lastAfter e v.grp } h rfl rfl rfl rfl
    exact k.trans (handleSample_keeps c q _ _ k.1)

theorem instants_keep (c : GroupContext) (e) (l : List Instant) : ∀ v, WindowsHold c v → KeepsWindows c v
    (l.foldl (handleInstant c e) v) := by
  induction l with
  | nil => exact fun v h => .refl h
  | cons i l ih => exact fun v h => (handleInstant_keeps c e v i h).trans (ih _ (handleInstant_keeps c e v i h).1)

theorem passEntry_keeps (c : GroupContext) (e v) (h : WindowsHold c v) : KeepsWindows c v (passEntry c e v) := by
  have k1 : KeepsWindows c v (beginPass c e v) := by
    unfold beginPass
    have k0 : KeepsWindows c v (if v.grp.tracker.timing = .noSignal then enterAcquiring c v else v) := by
      split
      · rename_i hn
        exact tracker_keeps_closed c v _ h (by simp [windowOpen, hn]) (by show Timing.acquiring ≠ _; decide)
            (fun k => nomatch k) (Nat.zero_le _)
      · exact .refl h
    obtain ⟨v1, hv1⟩ : ∃ v1, v1 = (if v.grp.tracker.timing = .noSignal then enterAcquiring c v else v) := ⟨_, rfl⟩
    rw [← hv1] at k0 ⊢
    show KeepsWindows c v (if v1.grp.config.gapLimit < gapOf c e v1.grp.tracker then largeGap c v1 else v1)
    by_cases hg : v1.grp.config.gapLimit < gapOf c e v1.grp.tracker
    · rw [if_pos hg]; exact k0.trans (largeGap_keeps c _ k0.1)
    · rw [if_neg hg]; exact k0
  unfold passEntry
  have k2 := k1.trans (instants_keep c e (instantsOf c e v.grp) _ k1.1)
  exact k2.trans (tracker_keeps c _
    { (List.foldl (handleInstant c e) (beginPass c e v) (instantsOf c e v.grp)).grp.tracker with
      expected := some ((e.seq + 1) % c.rate.samples) } k2.1 rfl rfl rfl rfl)

end Sys2Proof.Machine
end

