-- ==== Sys2Proof/Tests/Slice0.lean ====
section
/-! SUPPORT. The model's own tests: the well-formedness checks with ill-formed terms, the manual's worked examples and
tables, and for each obligation a witness of its hypotheses, clause by clause and at the edges of their ranges. -/

namespace Sys2Proof.Tests

open Sys2Proof Sys2Proof.Machine

set_option Elab.async false

/-! ## Helpers -/

/-- The state after a command; the state itself where the command has no next state. -/
def after (c : Instr) (s : State) : State :=
  match exec c s with
  | .next t => t
  | _ => s

/-- A port that is UP and free. -/
def upPort : PortState := { link := .up, sending := none }

/-- A part that is INLINE with both ports UP, on the default tables. -/
def part : State :=
  { State.reset with
      power := .released, switch := .inLine, activeAddress := 0x02AB, pendingAddress := 0x02AB,
      path := { State.reset.path with portA := upPort, portB := upPort } }

/-- A state with group `g` changed. -/
def atGroup (g : GroupId) (f : Group → Group) (s : State) : State := { s with groups := upd s.groups g (f s.groups[g]) }

/-- A state with stream entry `i` replaced. -/
def atStream (i : StreamId) (e : StreamEntry) (s : State) : State := { s with streams := upd s.streams i e }

/-- A state with supervision record `i` replaced. -/
def supervised (i : StreamId) (r : Supervision) (s : State) : State := { s with supervision := upd s.supervision i r }

/-- A valid stream entry at 4800 samples per second with four values. -/
def entry4800 : StreamEntry := { defaultStreamEntry with valid := true, matchId := 0x0100, valueCount := 4 }

/-- The record of an ACTIVE stream that expects `e`. -/
def activeAt (e : Nat) : Supervision :=
  { Supervision.fresh with activity := .active, expected := e, deadline := some 10 }

/-- A group configuration with one AC slot, the reference, and one DC slot. -/
def twoSlots : GroupRecord :=
  { defaultGroupRecord with cycles := 2, slots := #v[.used .ac 0, .used .dc 1, .unused, .unused] }

/-- A group with the configuration `twoSlots` in a timing state. -/
def groupIn (t : Timing) (g : Group) : Group := { g with config := twoSlots, tracker := Tracker.fresh t }

/-- A request with a code and arguments that fill its length. -/
def request (code : Byte) (args : List Byte) : Request :=
  { src := 0x020000000077, tag := 0x1234, code := code, argLen := args.length, body := args }

/-- A state with a request waiting alone. -/
def asks (code : Byte) (args : List Byte) (s : State) : State :=
  { s with mgmt := { s.mgmt with requests := [request code args] } }

/-- The status of the newest answer. -/
def newestStatus (s : State) : Option Status := s.mgmt.answers.getLast?.map (fun a => a.status)

/-- The payload of the newest answer. -/
def newestPayload (s : State) : Option Payload := s.mgmt.answers.getLast?.map (fun a => a.payload)

/-- A frame with its right check. -/
def good (l : List Byte) : WireFrame := { bytes := l, check := frameCheck l }

/-- A frame of 60 bytes (64 with its check) with a type word, and the 16-bit fields at bytes 14 and 16. -/
def frameWith (dst : Nat) (type id q : Nat) : List Byte :=
  beBytes 6 dst ++ beBytes 6 0x77 ++ beBytes 2 type ++ beBytes 2 id ++ beBytes 2 q ++ beBytes 42 0

/-! ## Well-formedness: each check refuses an ill-formed term -/

theorem test_stream_entry_without_values_is_ill_formed : ({ defaultStreamEntry with valueCount := 0 }).wf = false := by
  decide +kernel

theorem test_stream_entry_with_long_silence_is_ill_formed : ({ defaultStreamEntry with silence := 101 }).wf = false := by
  decide +kernel

theorem test_low_bucket_limit_stays_below_the_high_one :
    ({ defaultGroupRecord with bLo := 6 }).persistenceWf = false := by
  decide +kernel

theorem test_group_record_with_17_cycles_is_ill_formed : ({ defaultGroupRecord with cycles := 17 }).wf = false := by
  decide +kernel

theorem test_falling_limit_row_is_ill_formed : LimitRow.wf { notice := 500, alert := 300, trip := 0 } = false := by
  decide +kernel

theorem test_limit_row_with_unused_levels_is_well_formed :
    LimitRow.wf { notice := 600, alert := 0, trip := 600 } = true := by
  decide +kernel

theorem test_equal_watermarks_are_ill_formed :
    PartSettings.wf { high := 24, low := 24, starvationLimit := 32 } = false := by
  decide +kernel

theorem test_group_address_is_no_station_address : individualAddress 0x010000000001 = false := by decide +kernel

theorem test_argument_length_has_sixteen_bits : ({ request 1 [] with argLen := 65536 }).wf = false := by decide +kernel

theorem test_defaults_are_well_formed :
    defaultStreamEntry.wf = true ∧ defaultGroupRecord.wf = true ∧ zeroRow.wf = true ∧ defaultSettings.wf = true := by
  decide +kernel

theorem test_no_word_spells_a_command : decodeTableWord 8 1 = none := rfl

/-! ## Frames and the frame path (chapter 1) -/

/-- The check value of the CRC-32 of IEEE 802.3 over the nine digits 1 to 9 (PRESUMED; assumption log 9). -/
theorem test_frame_check_of_the_nine_digits :
    frameCheck [0x31, 0x32, 0x33, 0x34, 0x35, 0x36, 0x37, 0x38, 0x39] = 0xCBF43926 := by
  decide +kernel

/-- An answer as a test queues it. -/
def answerEx : Answer :=
  { dst := 0x77, src := 0x02AB, tag := 1, code := 1, status := .done, summary := summaryOf part, payload := .empty,
    acceptsReset := false }

/-- The result record of a window that nothing was added to. -/
def recordEx : ResultRecord :=
  evaluateSet .r4800 defaultGroupRecord defaultBank 4 { AccSet.fresh with number := 500, kind := .tracking, m := 192 }

/-- A window report. -/
def reportEx : WindowReport := buildReport part 0 recordEx

/-- The example of section 1.6 before a choice: K = 3, the frames that stand in the Forward FIFO, and the count. -/
def contended (forward : List ForwardFrame) (answers : List Answer) (reports : List WindowReport) (n : Nat) : State :=
  { part with
      settings := { part.settings with starvationLimit := 3 },
      path := { part.path with forward := forward, starvation := n },
      mgmt := { part.mgmt with answers := answers, reports := reports } }

/-- A short forwarded frame. -/
def frameEx : ForwardFrame := { bytes := [1, 2, 3], stream := none }

/-- Choices 1, 4, 5, 6 and 8 of the example "arbitration with K = 3" (section 1.6). -/
theorem test_arbitration_example :
    let sent (s : State) := (after .transmitArbiterChoice s).path
    (sent (contended [frameEx] [] [] 0)).starvation = 0 ∧
      (sent (contended [frameEx] [answerEx] [reportEx] 2)).starvation = 3 ∧
      (sent (contended [frameEx] [answerEx] [reportEx] 3)).forward = [frameEx] ∧
      (sent (contended [frameEx] [answerEx] [reportEx] 3)).portB.sending = some (.answer answerEx) ∧
      (sent (contended [frameEx] [] [reportEx] 0)).starvation = 1 ∧
      (sent (contended [] [] [reportEx] 2)).portB.sending = some (.report reportEx) ∧
      (sent (contended [] [] [reportEx] 2)).starvation = 0 := by
  decide +kernel

/-- The annex of section 1.5's example: group 2, NORMAL, NOTICE, TRACKING, not degraded, byte 244, generation 3. -/
theorem test_annex_example :
    annexOf (atGroup 2 (fun g => { groupIn .tracking g with
      generation := 3, result := some { recordEx with level := .notice } }) part) 2
      = [0xA7, 2, 0, 1, 3, 0, 244, 3] := by
  decide +kernel

/-- A link that is lost with a forwarded frame under way sets the forward-drop flag (R3); one that carried an answer
does not. -/
theorem test_link_loss :
    (after (.linkLoss .b) (after .transmitArbiterChoice (contended [frameEx] [] [] 0))).path.forwardDrop = true ∧
      (after (.linkLoss .b) (after .transmitArbiterChoice (contended [] [answerEx] [] 0))).path.forwardDrop = false := by
  decide +kernel

theorem test_link_comes_up_in_line_only :
    (after (.linkEstablished .b) { part with path := State.reset.path }).path.portB.link = .up ∧
      (after (.linkEstablished .b) State.reset).path.portB.link = .down := by
  decide +kernel

theorem test_reverse_path :
    let s := { part with path := { part.path with reverse := [[1], [2]] } }
    (after .portATransmissionStart s).path.reverse = [[2]] ∧
      (after (.transmissionComplete .a) (after .portATransmissionStart s)).path.portA = upPort := by
  decide +kernel

/-- A frame to the active address with the management type word joins the request queue (R8), its fields read as R199
lays them out; any other frame at Port B joins the Reverse FIFO. -/
theorem test_frames_at_port_b :
    (after (.frameArrival .b (good (frameWith 0x02AB 0xB5A1 0x1234 0x0200))) part).mgmt.requests.map
        (fun r => (r.src, r.tag, r.code, r.argLen, r.body.length)) = [(0x77, 0x1234, 2, 0, 41)] ∧
      (after (.frameArrival .b (good (frameWith 0x02AC 0xB5A1 0x1234 0x0200))) part).path.reverse.length = 1 := by
  decide +kernel

/-! ## Streams (chapter 2) -/

/-- The table of the example "matching with overlapping entries" (section 2.2). -/
def overlapping : State :=
  atStream 0 { defaultStreamEntry with valid := true, matchId := 0x1200, ignoreMask := 0x00FF }
    (atStream 1 { defaultStreamEntry with valid := true, matchId := 0x1234 }
      (atStream 2 { defaultStreamEntry with matchId := 0x2000 }
        (atStream 3 { defaultStreamEntry with valid := true, matchId := 0x2001, ignoreMask := 0x0001 } part)))

theorem test_matching_example :
    matchStream overlapping 0x1234 = some 0 ∧ matchStream overlapping 0x1334 = none ∧
      matchStream overlapping 0x2000 = some 3 ∧ matchStream overlapping 0x2002 = none := by
  decide +kernel

/-- A part with stream 0 ACTIVE, expecting `e`. -/
def streaming (e : Nat) : State := supervised 0 (activeAt e) (atStream 0 entry4800 part)

/-- A sample frame of stream 0 arrives. -/
def arrival (q : Nat) : Instr := .frameArrival .a (good (frameWith 1 0xB5A0 0x0100 q))

/-- Rows 2 and 3 of the example "two sources under one entry" (section 2.3). -/
theorem test_two_sources_example :
    (after (arrival 130) (streaming 101)).supervision[0].expected = 131 ∧
      (after (arrival 130) (streaming 101)).supervision[0].count = 1 ∧
      (after (arrival 101) (streaming 131)).supervision[0].expected = 131 ∧
      (after (arrival 101) (streaming 131)).supervision[0].count = 0 ∧
      (after (arrival 101) (streaming 131)).path.forward.length = 1 := by
  decide +kernel

/-- A sequence number of S or above raises SEQUENCE RANGE once (R27). -/
theorem test_range_frame :
    (after (arrival 4800) (streaming 0)).events.records.map (fun r => r.event) = [.sequenceRange 0] ∧
      (after (arrival 4800) (after (arrival 4800) (streaming 0))).events.counter = 1 := by
  decide +kernel

/-- The deadline of the example "silence and return" (section 2.4). -/
theorem test_silence_example :
    let s := supervised 2 { activeAt 0 with deadline := some 2046 } { part with timer := 2046 }
    (after (.silenceDeadline 2) s).supervision[2].activity = .silent ∧
      (after (.silenceDeadline 2) s).events.records.map (fun r => r.event) = [.streamSilent 2] ∧
      (after (.silenceDeadline 2) { s with timer := 2045 }).supervision[2].activity = .active := by
  decide +kernel

/-- S = 9600 tolerates 150 (section 2.4): a count 150 short is OK, one 151 short is SUSPECT; the tolerance judges only a
full interval (R33). -/
theorem test_rate_check :
    outOfTolerance .r9600 9450 = false ∧ outOfTolerance .r9600 9449 = true ∧ outOfTolerance .r9600 9750 = false ∧
      outOfTolerance .r9600 9751 = true ∧
      (after .rateIntervalEnd { streaming 0 with rateDue := true }).supervision[0].fullInterval = true := by
  decide +kernel

/-- A queue of `n` entries of stream 0. -/
def queueOf (n : Nat) (suspended : Bool) : AnalysisQueue :=
  { entries := List.replicate n { stream := 0, seq := 0, values := [], suspect := false, silenceFollows := false },
    served := [], noticeAtLeave := false, suspended := suspended }

/-- The example "watermarks with high 6 and low 3" (section 2.6). -/
theorem test_watermarks_example :
    let p : PartSettings := { high := 6, low := 3, starvationLimit := 32 }
    let e : QueueEntry := { stream := 0, seq := 0, values := [], suspect := false, silenceFollows := false }
    (offerEntry p e (queueOf 4 false)).suspended = false ∧ (offerEntry p e (queueOf 5 false)).suspended = true ∧
      (removeHead p (queueOf 6 true)).suspended = true ∧ (removeHead p (queueOf 4 true)).suspended = false ∧
      (offerEntry p e (queueOf 48 true)).entries.length = 48 := by
  decide +kernel

/-- Value intake (R34, R35): the byte orders of one field, clamping, and an invalid value. -/
theorem test_value_intake :
    rawValueOf (beBytes 20 0 ++ [0xFF, 0xFF, 0xFF, 0xFE]) .big 0 = -2 ∧
      rawValueOf (beBytes 20 0 ++ [0xFE, 0xFF, 0xFF, 0xFF]) .little 0 = -2 ∧
      intakeValue true 8388608 = ⟨8388607, .clamped⟩ ∧ intakeValue true (-8388607) = ⟨-8388607, .plain⟩ ∧
      intakeValue false 7 = ⟨0, .invalid⟩ := by
  decide +kernel

/-! ## Cycles and windows (chapters 3 and 4) -/

/-- The armed mark and the crossings of the example "crossings with a deadband" (section 3.4), from a clear mark. -/
def crossingsOf (deadband : Nat) : List Int → Bool → List Bool
  | [], _ => []
  | x :: l, armed =>
    let crossing := armed && decide (0 ≤ x)
    crossing :: crossingsOf deadband l (nextArmed deadband crossing x armed)

theorem test_crossings_example :
    crossingsOf 1000 [400, -600, -1200, -300, 0, -300, 100, -1500, 2000] false =
      [false, false, false, false, true, false, false, false, true] := by
  decide +kernel

/-- The lengths of the example "lock, loss and recovery" (section 3.6). -/
theorem test_cycle_lengths :
    nominalLength .r4800 .f50 = 96 ∧ longestCycle .r4800 .f50 = 102 ∧ cycleAccepted .r4800 .f50 90 = true ∧
      cycleAccepted .r4800 .f50 89 = false ∧ cycleAccepted .r4800 .f50 102 = true ∧
      cycleAccepted .r4800 .f50 103 = false ∧ verdictOf .r4800 .f50 false (some 102) = .late := by
  decide +kernel

/-- The context of group `g` on a stream of S = 4800. -/
def at4800 (g : GroupId) : GroupContext := { group := g, rate := .r4800, stamp := 7 }

/-- An entry whose values are all 0. -/
def entryAt (q : Nat) : QueueEntry :=
  { stream := 0, seq := q, values := [⟨0, .plain⟩, ⟨0, .plain⟩], suspect := false, silenceFollows := false }

/-- A sample whose reference value is `v`. -/
def sampleOf (v : Int) : Sample := { vals := #v[v, 7, 0, 0], held := false, clamped := false, suspect := false }

/-- A TRACKING group with window 40 open in set 0, expecting `e`: a first cycle of 95 samples added, and `n` samples of
the second in the buffer. -/
def trackingGroup (e n : Nat) (g : Group) : Group :=
  { groupIn .tracking g with
      tracker :=
        { Tracker.fresh .tracking with
            expected := some e, cycleCount := some n, winCycles := 1, winSamples := 95 + n },
      sets := upd g.sets 0
        { AccSet.fresh with
            state := .accumulating, number := 40, kind := .tracking, cycles := 2, m := 95, held := 1 },
      buffer := List.replicate n (sampleOf 5), counter := 40 }

/-- Rows 2 and 4 of the example "a stream gap" (section 3.7): two held samples, and a gap above G_max. -/
theorem test_gap_example :
    let v := viewGroup (atGroup 1 (trackingGroup 2001 55) part) 1
    let w := passEntry (at4800 1) (entryAt 2003) v
    let x := passEntry (at4800 1) (entryAt 2015) (viewGroup (atGroup 1 (trackingGroup 2005 59) part) 1)
    w.grp.tracker.winSamples = 153 ∧ w.grp.tracker.cycleCount = some 58 ∧ w.grp.tracker.expected = some 2004 ∧
      (w.grp.buffer.drop 55).map (fun s => s.held) = [true, true, false] ∧ x.grp.tracker.timing = .acquiring ∧
      x.grp.tracker.expected = some 2016 ∧ x.grp.tracker.cycleCount = none ∧
      x.events.records.map (fun r => r.event) = [.windowAborted 1 .gap, .timing 1 .acquiring] := by
  decide +kernel

/-- The example "frequency estimates" (section 3.8). -/
theorem test_frequency_example :
    let f (kind : WindowKind) (m : Nat) := frequencyOf .r9600 { defaultGroupRecord with cycles := 10 }
      { AccSet.fresh with kind := kind, cycles := 10, m := m }
    f .tracking 1920 = 50000 ∧ f .tracking 1924 = 49896 ∧ f .tracking 2040 = 47058 ∧ f .holdover 1920 = 50000 := by
  decide +kernel

/-- The examples of section 4.2: entries of the tables, and phase indices. -/
theorem test_phase_examples :
    (cosTable 0, sinTable 0) = (16384, 0) ∧ (cosTable 512, sinTable 512) = (11585, 11585) ∧
      (cosTable 1024, sinTable 1024) = (0, 16384) ∧ (cosTable 2048, sinTable 2048) = (-16384, 0) ∧
      (cosTable 3072, sinTable 3072) = (0, -16384) ∧ phaseIndex 11 7 192 = 1642 ∧ phaseIndex 11 7 97 = 3251 ∧
      phaseIndex 11 7 95 = 3319 ∧ phaseIndex 11 100 192 = 2986 := by
  decide +kernel

/-! ## Quantities, grading, levels and records (chapters 5 to 8) -/

/-- Group 0 of the example "the quantities of one window" (section 5.5). -/
def configEx : GroupRecord :=
  { defaultGroupRecord with
      slots := #v[.used .ac 0, .used .dc 1, .unused, .unused], fundFloor := 100, dcFloor := 10000,
      orders := [⟨5, .ac⟩, ⟨7, .ac⟩, ⟨11, .ac⟩, ⟨13, .ac⟩, ⟨23, .ac⟩, ⟨25, .ac⟩, ⟨6, .dc⟩, ⟨12, .dc⟩] }

/-- A pair of amplitude `a` over 1920 samples. -/
def pairOf (a : Nat) : Pair := { re := 15728640 * a, im := 0 }

/-- Window 731 of that example. -/
def window731 : AccSet :=
  { AccSet.fresh with
      state := .evaluating, number := 731, kind := .tracking, cycles := 10, m := 1920,
      sums := #v[
        { SlotSums.zero with fund := pairOf 1000,
                             pairs := [pairOf 4, pairOf 3, ⟨349175808, 465567744⟩, pairOf 26, pairOf 9, pairOf 7] },
        { SlotSums.zero with pairs := [⟨0, 0⟩, ⟨0, 0⟩, ⟨0, 0⟩, ⟨0, 0⟩, ⟨0, 0⟩, ⟨0, 0⟩, ⟨0, 9437184000⟩, ⟨47185920000, 0⟩],
                             sum := 1440000000, sumSq := 1080038880000000, min := some 739000, max := some 762000 },
        SlotSums.zero, SlotSums.zero] }

/-- The NOW bank of the example "grading window 731" (section 6.5). -/
def bankEx : Vector LimitRow 19 :=
  #v[⟨100, 200, 400⟩, ⟨100, 200, 400⟩, ⟨300, 450, 600⟩, ⟨300, 450, 600⟩, ⟨150, 250, 400⟩, ⟨150, 250, 400⟩, ⟨5, 20, 50⟩,
     ⟨0, 60, 0⟩, zeroRow, zeroRow, zeroRow, zeroRow, zeroRow, zeroRow, zeroRow, zeroRow, ⟨400, 600, 800⟩,
     ⟨50, 100, 200⟩, ⟨250, 300, 500⟩]

/-- The record of window 731. -/
def record731 : ResultRecord := evaluateSet .r9600 configEx bankEx 4 window731

/-- The cells of slot `k` of a record, row by row. -/
def cellsOf (r : ResultRecord) (k : Nat) : List Cell :=
  (List.range 19).map (fun row => r.cells.toList.getD (4 * row + k) .absent)

/-- The cells of slot 0 of window 731, as the two examples give them. -/
def acCells731 : List Cell :=
  [.value 40 .clear, .value 30 .clear, .value 370 .notice, .value 260 .clear, .value 90 .clear, .value 70 .clear,
   .absent, .absent, .absent, .absent, .absent, .absent, .absent, .absent, .absent, .absent, .value 469 .notice,
   .absent, .absent]

/-- The cells of slot 1 of window 731, as the two examples give them. -/
def dcCells731 : List Cell :=
  [.absent, .absent, .absent, .absent, .absent, .absent, .value 8 .notice, .value 40 .clear, .absent, .absent, .absent,
   .absent, .absent, .absent, .absent, .absent, .absent, .value 60 .notice, .value 306 .alert]

theorem test_window_731_cells : cellsOf record731 0 = acCells731 ∧ cellsOf record731 1 = dcCells731 := by
  decide +kernel

theorem test_window_731_figures :
    record731.fundamentals = #v[1000, 0, 0, 0] ∧ record731.mean = 750000 ∧ record731.rms = 4500 ∧
      record731.spread = 23000 ∧ record731.frequency = 50000 ∧ record731.level = .alert ∧ record731.idle = false ∧
      record731.degraded = false := by
  decide +kernel

/-- The example "a standing rectifier and a negative mean" (section 5.5). -/
theorem test_idle_window_example :
    let r := evaluateSet .r9600 configEx bankEx 4
      { window731 with
          kind := .holdover,
          sums := #v[{ SlotSums.zero with fund := ⟨47185920, 0⟩ },
            { SlotSums.zero with sum := -1921, sumSq := 5760, min := some (-4), max := some 3 },
            SlotSums.zero, SlotSums.zero] }
    r.fundamentals = #v[3, 0, 0, 0] ∧ r.mean = -1 ∧ r.rms = 1 ∧ r.spread = 7 ∧ r.idle = true ∧ r.level = .clear ∧
      r.degraded = true := by
  decide +kernel

/-- The example "a fundamental floor of zero" (section 5.5): clamped ratios and TD. -/
theorem test_zero_floor_example :
    let cfg := { configEx with orders := [⟨5, .ac⟩, ⟨7, .ac⟩] }
    let s := { SlotSums.zero with fund := pairOf 2, pairs := [pairOf 20, pairOf 1] }
    acRatios 1920 (fundamental 1920 s) s cfg.orders 0 = [65535, 5000] ∧ isqrt 4319836225 = 65725 ∧
      totalDistortion cfg 1920 s = 65535 := by
  decide +kernel

/-- The example "clamping a written row" (section 6.2). -/
theorem test_limit_clamping_example :
    clampLimitRow ⟨400, 600, 800⟩ = ⟨400, 600, 800⟩ ∧ clampLimitRow ⟨500, 300, 0⟩ = ⟨500, 500, 0⟩ ∧
      clampLimitRow ⟨0, 400, 200⟩ = ⟨0, 400, 400⟩ ∧ clampLimitRow ⟨600, 0, 300⟩ = ⟨600, 0, 600⟩ := by
  decide +kernel

/-- The settings of the worked sequence of section 7.3. -/
def levelConfig : GroupRecord :=
  { defaultGroupRecord with bHi := 4, bLo := 1, tripWeight := 3, leakPeriod := 3, tripPersistence := 3,
                            tripFunction := true }

/-- Windows 10 to 20 of that sequence, each with its level and its degraded and idle states. -/
def windows10to20 : List (RowLevel × Bool × Bool) :=
  [(.notice, false, false), (.alert, false, false), (.alert, false, false), (.trip, false, false), (.trip, true, false),
   (.trip, false, false), (.clear, false, true), (.trip, false, false), (.trip, false, false), (.trip, false, false),
   (.trip, false, false)]

/-- The Level Unit after the first `n` windows of the sequence. -/
def levelsAfter (n : Nat) : LevelUnit :=
  (windows10to20.take n).foldl (fun u w => handleLevels levelConfig w.1 w.2.1 w.2.2 u) LevelUnit.fresh

/-- The rows of windows 12, 13, 14, 16, 19 and 20. -/
theorem test_level_sequence :
    levelsAfter 3 = ⟨1, 0, 0, .normal⟩ ∧ levelsAfter 4 = ⟨4, 1, 1, .alarm⟩ ∧ levelsAfter 5 = ⟨5, 2, 1, .alarm⟩ ∧
      levelsAfter 7 = ⟨7, 1, 0, .alarm⟩ ∧ levelsAfter 10 = ⟨15, 1, 3, .tripped⟩ ∧
      levelsAfter 11 = ⟨18, 2, 4, .tripped⟩ := by
  decide +kernel

/-- The example of section 8.2: windows 731, 733 and, after CLEAR FIRST, 735. -/
theorem test_first_exceedance_example :
    let e18 (v : Nat) : Exceedance := { row := 18, slot := 1, value := v, level := .alert, threshold := 300 }
    let e2 (v : Nat) : Exceedance := { row := 2, slot := 0, value := v, level := .trip, threshold := 600 }
    let e16 : Exceedance := { row := 16, slot := 0, value := 620, level := .alert, threshold := 600 }
    let g1 := exceedWindow record731 [e18 306] Group.fresh
    let g3 := exceedWindow { record731 with number := 733 } [e2 650, e18 310] g1
    let g5 := exceedWindow { record731 with number := 735 } [e2 640, e16, e18 320] Group.fresh
    exceedances bankEx record731.cells = [e18 306] ∧ g1.nextRows = 0 ∧
      g1.first.map (fun f => (f.number, f.row, f.value, f.repeats)) = some (731, 18, 306, 0) ∧
      g3.first.map (fun f => (f.number, f.row, f.repeats, f.latest)) = some (731, 18, 1, 733) ∧
      g3.nextRows = 0x40004 ∧ g5.nextRows = 0x50000 ∧
      g5.first.map (fun f => (f.row, f.value, f.threshold)) = some (2, 640, 600) := by
  decide +kernel

/-- The example "a full queue and its reading" (section 8.5), with 64 records from 100 on. -/
theorem test_full_event_queue_example :
    let rec0 (n : Nat) : EventRecord :=
      { seq := BitVec.ofNat 16 (100 + n), stamp := 0, event := .storeDone, detail2 := none, lostAfter := false }
    let q := createEvent 9 (.streamSilent 4) none { records := (List.range 64).map rec0, counter := 166 }
    q.records.length = 64 ∧ q.counter = 167 ∧ q.records.getLast?.map (fun r => (r.seq, r.lostAfter)) = some (163, true) ∧
      (q.records.map (fun r => r.lostAfter)).head? = some false := by
  decide +kernel

/-- An event record's sixteen bytes (R201): LEVEL of group 5 to TRIPPED by a window, number 19. -/
theorem test_event_record_bytes :
    eventBytes { seq := 0x0102, stamp := 0x0A0B0C0D, event := .level 5 .tripped .window, detail2 := some 19,
                 lostAfter := true } =
      [1, 2, 0x0A, 0x0B, 0x0C, 0x0D, 4, 69, 2, 0, 0, 19, 3, 0, 0, 0] := by
  decide +kernel

/-- The sizes of R200: a result record of 278 bytes, and a window report's payload of 288. -/
theorem test_record_sizes :
    (recordBytes recordEx).length = 278 ∧ emptyRecordBytes.length = 278 ∧ (reportPayload reportEx).length = 288 ∧
      (firstBytes none 0).length = 23 := by
  decide +kernel

/-- The frames of R196: a short answer is padded to 60 bytes, and an answer to READ CAPTURE with 256 values has 821. -/
theorem test_answer_sizes (d : CaptureDescriptor) :
    (answerBytes answerEx).length = 60 ∧
      (answerBytes { answerEx with payload := .capture 1 d 0 0 (List.replicate 256 (-1)) }).length = 821 := by
  constructor
  · decide +kernel
  · rw [answerBytes_capture_length, List.length_replicate]
    decide

/-- The three bytes of −2 and of 8388607 (R196; assumption log 33). -/
theorem test_capture_value_bytes :
    fieldOf 3 ((-2 : Int) % 16777216).toNat = [0xFF, 0xFF, 0xFE] ∧ fieldOf 3 ((8388607 : Int) % 16777216).toNat = [0x7F, 0xFF, 0xFF] := by
  decide +kernel

/-- What is kept of a set reads as 0 after a part reset (R65). -/
theorem test_sets_read_as_zero_after_reset :
    let a := State.reset.groups[7].sets[1]
    kindCode a.kind = 0 ∧ a.number = 0 ∧ a.startSeq = 0 ∧ a.cycles = 0 ∧ a.limitGen = 0 := by
  decide +kernel

/-- The clamped rows 17 and 18 of section 6.2's example, as a bit field of three bytes. -/
theorem test_clamped_row_bytes : payloadBytes (.clampedRows 0x60000) = [0x06, 0x00, 0x00] := by decide +kernel

/-! ## Capture slots (chapter 9) -/

/-- A part with groups 0, 3 and 5 TRACKING and the given Capture Unit. -/
def capturing (c : Captures) : State :=
  { atGroup 0 (groupIn .tracking) (atGroup 3 (groupIn .tracking) (atGroup 5 (groupIn .tracking) part)) with captures := c }

/-- A HELD slot. -/
def heldSlot (g : GroupId) (holds : Nat) (number : BitVec 32) : CaptureSlot :=
  { CaptureSlot.free with
      state := .held, owner := some g, holds := holds, trigger := some .snap, number := number, kind := .tracking,
      count := 300,
      map := twoSlots.slots, channels := #v[List.replicate 300 5, List.replicate 300 6, [], []] }

/-- SNAP 3, HOLD CAPTURE 0, the two RELEASE CAPTURE 0 and the last SNAP 5 of the worked sequence of section 9.6. -/
theorem test_capture_sequence :
    let c0 := State.reset.captures
    let s1 := after .snap (asks 0x0C [3] (capturing c0))
    let s2 := after .holdCapture (asks 0x0D [0] { capturing s1.captures with mgmt := part.mgmt })
    let held := { slots := #v[heldSlot 3 2 52, CaptureSlot.free], marker := (0 : CaptureIx) }
    let s3 := after .releaseCapture (asks 0x0E [0] (capturing held))
    let s4 := after .releaseCapture (asks 0x0E [0] (capturing s3.captures))
    let s5 := after .snap (asks 0x0C [5] (capturing s4.captures))
    newestPayload s1 = some (.snap 0 .armed 1 true) ∧ newestPayload s2 = some (.hold 0 .armed (some 3) 2) ∧
      newestPayload s3 = some (.release 0 .held 1) ∧ newestPayload s4 = some (.release 0 .free 0) ∧
      s4.captures.marker = 1 ∧ newestPayload s5 = some (.snap 1 .armed 1 true) := by
  decide +kernel

/-- SNAP 5 with both slots in use is NO-SLOT (section 9.6), and 15 holds are the most (R159). -/
theorem test_snap_refusals :
    let full := { slots := #v[heldSlot 3 2 52, heldSlot 0 1 214], marker := (0 : CaptureIx) }
    let heavy := { slots := #v[heldSlot 3 15 52, CaptureSlot.free], marker := (0 : CaptureIx) }
    newestStatus (after .snap (asks 0x0C [5] (capturing full))) = some .noSlot ∧
      newestStatus (after .snap (asks 0x0C [3] (capturing heavy))) = some .holdLimit ∧
      newestStatus (after .snap (asks 0x0C [1] (capturing heavy))) = some .groupInactive := by
  decide +kernel

/-- READ CAPTURE in chunks of 256 (section 9.6): the rest of 300 from 256 on is 44 values, an unused slot's channel is
empty, and a start at the count is BAD-FIELD. -/
theorem test_read_capture :
    let s := capturing { slots := #v[heldSlot 3 2 52, CaptureSlot.free], marker := (0 : CaptureIx) }
    let count (args : List Byte) := (newestPayload (after .readCapture (asks 0x0F args s))).map (fun p =>
      match p with
      | .capture 0 _ _ _ values => values.length
      | _ => 999)
    count [0, 0, 1, 0] = some 44 ∧ count [0, 1, 0, 0] = some 256 ∧ count [0, 3, 0, 0] = some 0 ∧
      newestStatus (after .readCapture (asks 0x0F [0, 0, 0x01, 0x2C] s)) = some .badField ∧
      newestStatus (after .readCapture (asks 0x0F [1, 0, 0, 0] s)) = some .notReady := by
  decide +kernel

/-! ## Requests, the store and start-up (chapters 10 and 11) -/

/-- The order of R174's checks, and where the Management Unit takes nothing. -/
theorem test_request_checks :
    newestStatus (after .unsupported (asks 0x80 [] part)) = some .unsupported ∧
      newestStatus (after .readStatus (asks 0x02 [] part)) = some .badLength ∧
      newestStatus (after .readStatus (asks 0x02 [2] part)) = some .badField ∧
      (after .identify (asks 0x02 [0] part)).mgmt.requests.length = 1 ∧
      (after .identify (asks 0x01 [] { part with mgmt := { part.mgmt with resetTaken := some 0 } })).mgmt.requests.length
        = 1 := by
  decide +kernel

theorem test_identify_and_entries :
    newestStatus (after .identify (asks 0x01 [] part)) = some .done ∧
      newestPayload (after .readEntryPartSettings (asks 0x03 [3, 0] part)) =
        some (.settings defaultSettings 0x02AB 0x02AB) ∧
      newestStatus (after .readEntryStream (asks 0x03 [0, 16] part)) = some .badField ∧
      newestStatus (after .readEntryGroup (asks 0x03 [1, 7] part)) = some .done ∧
      newestPayload (after .readEntryLimitBank (asks 0x03 [2, 0, 1, 18, 1] part)) = some (.limitRows [zeroRow] 0 false) := by
  decide +kernel

/-- The arguments of a stream entry at 4800 samples per second (R199). -/
def streamArgs (index values silence : Byte) : List Byte :=
  [0, index, 1, 0x12, 0x34, 0, 0, 0x12, 0xC0, values, 0, 0, 0, silence]

theorem test_write_stream :
    let s := after .writeEntryStream (asks 0x04 (streamArgs 3 9 0) part)
    newestStatus s = some .doneClamped ∧ s.streams[3].matchId = 0x1234 ∧ s.streams[3].valueCount = 8 ∧
      s.streams[3].silence = 1 ∧
      newestStatus (after .writeEntryStream (asks 0x04 (streamArgs 0 8 10) (atGroup 0 (groupIn .tracking) part))) =
        some .streamInUse := by
  decide +kernel

/-- The arguments of a group record: stream 0, 50 Hz, C as given, slot 0 AC, slot 1 DC, one AC order 5 (R199). -/
def groupArgs (g cycles : Byte) : List Byte :=
  [1, g, 0, 50, cycles, 1, 0, 2, 1, 0, 0, 0, 0, 0] ++ beBytes 4 10 ++ beBytes 4 100 ++ beBytes 4 100 ++ [1, 5, 1] ++
    beBytes 30 0 ++ [4, 0, 4, 1, 3, 3, 3, 1, 1, 1, 1, 1, 1]

theorem test_write_group :
    let s := after .writeEntryGroup (asks 0x04 (groupArgs 6 17) part)
    newestStatus s = some .doneClamped ∧ s.groups[6].config.cycles = 16 ∧ s.groups[6].config.orders = [⟨5, .ac⟩] ∧
      s.groups[6].config.slots = twoSlots.slots ∧ s.groups[6].config.tripFunction = true := by
  decide +kernel

/-- A limit write of rows 16 to 18, as section 6.2's example writes them. -/
theorem test_write_limits :
    let args : List Byte := [2, 2, 16, 3] ++ beBytes 2 400 ++ beBytes 2 600 ++ beBytes 2 800 ++ beBytes 2 500 ++
      beBytes 2 300 ++ beBytes 2 0 ++ beBytes 2 0 ++ beBytes 2 400 ++ beBytes 2 200
    let s := after .writeEntryLimitBank (asks 0x04 args part)
    newestPayload s = some (.clampedRows 0x60000) ∧ s.groups[2].nextBank[17] = ⟨500, 500, 0⟩ ∧
      s.groups[2].nowBank = defaultBank ∧
      newestStatus (after .writeEntryLimitBank (asks 0x04 [2, 2, 16, 4] part)) = some .badField := by
  decide +kernel

theorem test_write_settings :
    let args : List Byte := [3, 0, 0x02, 0, 0, 0, 0, 9, 60, 60, 0]
    let s := after .writeEntryPartSettings (asks 0x04 args part)
    newestStatus s = some .doneClamped ∧ s.settings = { high := 48, low := 47, starvationLimit := 1 } ∧
      s.pendingAddress = 0x020000000009 ∧ s.activeAddress = 0x02AB := by
  decide +kernel

/-- A part whose group 1 may be enabled: stream 0 valid with four values, the slots of `twoSlots`. -/
def enableable : State := atStream 0 entry4800 (atGroup 1 (fun g => { g with config := twoSlots }) part)

theorem test_enable_and_disable :
    let s := after .groupEnable (asks 0x06 [1] enableable)
    let t := after .groupDisable (asks 0x07 [1] s)
    s.groups[1].tracker.timing = .noSignal ∧ s.lines.supv = true ∧
      s.events.records.map (fun r => r.event) = [.groupEnabled 1, .timing 1 .noSignal] ∧
      t.groups[1].tracker.timing = .disabled ∧ t.lines.supv = false ∧
      newestPayload (after .groupEnable (asks 0x06 [0] part)) = some (.badConfig 1 none) := by
  decide +kernel

theorem test_commit :
    let s := after .commitLimits (asks 0x05 [4] part)
    let t := after .commitLimits (asks 0x05 [4] (atGroup 4 (groupIn .tracking) part))
    newestPayload s = some (.commit 1 false) ∧ newestPayload t = some (.commit 0 true) ∧
      t.groups[4].commitPending = true := by
  decide +kernel

/-- A TRIPPED group whose latest window is as given. -/
def trippedGroup (bucket : Nat) (l : RowLevel) (g : Group) : Group :=
  { groupIn .tracking g with
      config := { levelConfig with tripLine := true },
      levelUnit := { bucket := bucket, leakCounter := 0, run := 4, level := .tripped },
      result := some { recordEx with level := l } }

/-- RELEASE TRIP in the worked sequence of section 7.3: refused after window 20, accepted after window 21. -/
theorem test_release_trip :
    let refused := after .releaseTrip (asks 0x0B [0] (atGroup 0 (trippedGroup 18 .trip) part))
    let released := after .releaseTrip (asks 0x0B [0] (atGroup 0 (trippedGroup 18 .alert) part))
    newestStatus refused = some .stillTripped ∧ refused.lines.trip = true ∧
      released.groups[0].levelUnit.level = .alarm ∧ released.lines.trip = false ∧
      newestStatus (after .releaseTrip (asks 0x0B [1] part)) = some .notTripped := by
  decide +kernel

theorem test_records_read_and_cleared :
    let s := atGroup 0 (exceedWindow record731 (exceedances bankEx record731.cells)) part
    newestPayload (after .readResult (asks 0x08 [0] part)) = some (.result none none 0) ∧
      (after .clearFirst (asks 0x0A [0] s)).groups[0].first = none ∧
      newestStatus (after .readArray (asks 0x10 [0, 0, 0, 16] part)) = some .badField ∧
      newestStatus (after .readArray (asks 0x10 [0, 1, 3, 255] part)) = some .done := by
  decide +kernel

theorem test_read_events :
    let s := { part with events := createEvent 2 .storeFault none (createEvent 1 .storeDone none part.events) }
    (after .readEvents (asks 0x09 [1] s)).events.records.map (fun r => r.event) = [.storeFault] ∧
      newestStatus (after .readEvents (asks 0x09 [0] s)) = some .doneClamped ∧
      newestStatus (after .readEvents (asks 0x09 [16] s)) = some .done := by
  decide +kernel

/-- A store ends in a completion, or in a fault 400 ms after its taking at the latest (R189, R190). -/
theorem test_store :
    let s := after .storeConfig (asks 0x11 [] part)
    let t := after .storeCompletion s
    newestStatus s = some .done ∧ s.store.image = .blank ∧
      t.events.records.map (fun r => r.event) = [.storeDone] ∧
      (after .storeTimeLimit { s with timer := 400 }).store.faultLatch = true ∧
      (after .storeTimeLimit { s with timer := 399 }).store.faultLatch = false ∧
      (after .storeReadBackFault s).lines.supv = true ∧
      newestStatus (after .storeConfig (asks 0x11 [] s)) = some .storeBusy := by
  decide +kernel

/-- The completed store leaves the snapshot with its CRC, which is a good image; the same contents with another CRC are a
bad one (R187, R190). -/
theorem test_image_seal :
    let t := after .storeCompletion (after .storeConfig (asks 0x11 [] part))
    t.store.image = .written (snapshotOf part) (imageCrc (snapshotOf part)) ∧
      imageCondition t.store.image = .good (snapshotOf part) ∧
      imageCondition (.written (snapshotOf part) (~~~(imageCrc (snapshotOf part)))) = .bad :=
  ⟨rfl, imageCondition_sealed _, imageCondition_bad (crc_differs _)⟩

/-- RESET PART answers first; the part reset follows the answer's completion, or comes 500 ms after the taking (R186). -/
theorem test_reset_part :
    let s := after .resetPart (asks 0x13 [] part)
    let sent := after .transmitArbiterChoice s
    newestStatus s = some .done ∧ s.mgmt.resetTaken = some 0 ∧
      (after (.transmissionComplete .b) sent).switch = .bypass ∧ (after (.linkLoss .b) sent).switch = .bypass ∧
      (after .resetPartTimeLimit { s with timer := 499 }).switch = .inLine ∧
      (after .resetPartTimeLimit { s with timer := 500 }).switch = .bypass := by
  decide +kernel

theorem test_restart :
    let s := after .restartAnalysis (asks 0x12 [] (atGroup 0 (trippedGroup 18 .trip) part))
    s.groups[0].tracker.timing = .noSignal ∧ s.groups[0].levelUnit = LevelUnit.fresh ∧ s.groups[0].result = none ∧
      s.lines.trip = false ∧ s.groups[1].tracker.timing = .disabled := by
  decide +kernel

/-- Power-up on the blank image of a new part (R192, R194, R195): the defaults, nSUPV, and INLINE. -/
theorem test_start_up :
    let held := after .powerOn State.reset
    let s := after .imageRead (after .nresetRelease held)
    held.power = .inReset ∧ s.switch = .inLine ∧ s.store.defaulted = true ∧ s.lines.supv = true ∧
      (after .imageRead held).switch = .bypass ∧
      (after .imageReadTimeLimit { after .nresetRelease held with timer := 200 }).switch = .inLine ∧
      (after .imageReadTimeLimit { after .nresetRelease held with timer := 199 }).switch = .bypass ∧
      (after .nresetAssertion s).switch = .bypass ∧ (after .lossOfSupply s).power = .unpowered := by
  decide +kernel

/-- The rate interval clock returns to 0 after 1000 ms, and the timer wraps (R33, R192). -/
theorem test_millisecond :
    (tick { part with timer := 0xFFFFFFFF, rateClock := 999 }).timer = 0 ∧
      (tick { part with rateClock := 999 }).rateClock = 0 ∧ (tick { part with rateClock := 999 }).rateDue = true ∧
      (tick State.reset).timer = 0 := by
  decide +kernel

/-! ## Witnesses

One theorem for each obligation that has hypotheses, under the obligation's name: a state and operands that meet them
together, clause by clause. -/

/-- A request that fills its length heads its queue with its code. -/
theorem head_asks (code : Byte) (args : List Byte) (s : State) (k : RequestCode) (n : Nat)
    (hr : s.mgmt.resetTaken = none) (ha : s.mgmt.answers.length < 4) (hk : requestCode code = some k)
    (hn : n ≤ args.length) : HeadAsks (asks code args s) (request code args) [] k n :=
  ⟨⟨rfl, hr, ha⟩, hk, by simp [covers, request, hn]⟩

/-- A READ ENTRY or WRITE ENTRY that fills its length heads its queue with its code and its table. -/
theorem head_names (code : Byte) (args : List Byte) (s : State) (k : RequestCode) (t : TableSelector) (n : Nat)
    (hr : s.mgmt.resetTaken = none) (ha : s.mgmt.answers.length < 4) (hk : requestCode code = some k)
    (h2 : 2 ≤ args.length) (ht : tableSelector (argOf (request code args) 0) = some t) (hn : n ≤ args.length) :
    HeadNames (asks code args s) (request code args) [] k t n :=
  ⟨⟨rfl, hr, ha⟩, hk, by simpa [tableOf, covers, request, h2] using ht, by simp [covers, request, hn]⟩

theorem good_length (l : List Byte) : (good l).length = l.length + 4 := rfl

/-- A frame with its right check arrives at an UP port of a part that is INLINE when its length is from 64 to 1522. -/
theorem arrives_good (p : Port) (l : List Byte) (s : State) (hs : s.switch = .inLine) (hp : (portOf s p).link = .up)
    (h1 : 60 ≤ l.length) (h2 : l.length ≤ 1518) : ArrivesAt p (good l) s :=
  ⟨hs, hp, rfl, by simpa [good, WireFrame.length] using h1, by simpa [good, WireFrame.length] using h2⟩

theorem witness_StepRunsTheFrontCommand : ({ part with pending := [.identify, .snap] }).pending = .identify :: [.snap] :=
  rfl

theorem witness_EmptyQueueLetsOneMillisecondPass :
    (State.reset.pending = [] ∧ State.reset.power ≠ .released) ∧
      part.pending = [] ∧ part.power = .released ∧ ¬(part.switch = .bypass ∧ part.timer = 200) ∧
      ¬(part.store.busy = true ∧ part.timer - part.store.taken = 400) ∧ part.mgmt.resetTaken = none ∧
      (∀ i : StreamId, ¬(part.supervision[i].activity = .active ∧ part.supervision[i].deadline = some part.timer)) ∧
      part.rateDue = false ∧ part.rateClock + 1 < 1000 ∧ ({ part with rateClock := 999 }).rateClock + 1 = 1000 := by
  decide +kernel

/-- A TRIPPED group in TRACKING with window 40 open and a commit pending. -/
def trippedAtWork (g : Group) : Group :=
  { trackingGroup 5 60 g with
      levelUnit := { bucket := 255, leakCounter := 0, run := 255, level := .tripped }
      commitPending := true
      nextBank := bankEx
      result := some { recordEx with level := .alert } }

/-- A set with a whole window of two cycles, 192 samples, in a state. -/
def wholeSet (t : SetState) : AccSet := { AccSet.fresh with state := t, kind := .tracking, cycles := 2, m := 192 }

/-- A group with window 40 open in set 0 and a whole window EVALUATING in set 1. -/
def evaluatingAtWork (g : Group) : Group :=
  { trackingGroup 5 60 g with sets := upd (trackingGroup 5 60 g).sets 1 (wholeSet .evaluating) }

/-- A group in NO-SIGNAL with a set WAITING. -/
def waitingAtWork (g : Group) : Group :=
  { groupIn .noSignal g with sets := upd g.sets 1 (wholeSet .waiting) }

/-- A part at work: group 0 TRIPPED, group 1 under evaluation, group 2 waiting for the engine, capture slot 0 ARMED,
slot 1 with 15 holds, a store in progress, and no queue empty. -/
def live : State :=
  { atGroup 0 trippedAtWork (atGroup 1 evaluatingAtWork (atGroup 2 waitingAtWork part)) with
      pending := [.applyEntry 0, .identify]
      path := { portA := upPort, portB := { link := .up, sending := some (.report reportEx) }, forward := [frameEx],
                reverse := [[1, 2]], forwardDrop := true, starvation := 3 }
      queue := { queueOf 1 false with entries := [entryAt 5] }
      engine := some 1
      waitList := [2]
      captures := { slots := #v[armedSlot 0 .trip, { armedSlot 1 .snap with holds := 15 }], marker := 0 }
      mgmt := { part.mgmt with requests := [request 0x0B [0]], answers := [answerEx], reports := [reportEx] }
      events := createEvent 1 .storeDone none part.events
      store := { part.store with snapshot := some (snapshotOf part) } }

theorem live_steps : ∃ t, step live = .next t := ⟨_, rfl⟩

theorem live_stays_in_line : ∃ t, step live = .next t ∧ live.switch = .inLine ∧ t.switch = .inLine :=
  ⟨after (.applyEntry 0) { live with pending := [.identify] }, rfl, rfl, by decide +kernel⟩

theorem witness_LinesFollowTheirConditionsAfterEveryStep : ∃ t, step live = .next t := live_steps

theorem witness_QueuesStayWithinTheirCapacities : QueuesBounded live ∧ ∃ t, step live = .next t :=
  ⟨by unfold QueuesBounded; decide +kernel, live_steps⟩

theorem witness_CaptureSlotsStayLawful : CapturesLawful live.captures ∧ ∃ t, step live = .next t :=
  ⟨by unfold CapturesLawful SlotLawful; decide +kernel, live_steps⟩

theorem witness_LimitBanksStayRising : BanksRising live ∧ ∃ t, step live = .next t := by
  refine ⟨⟨?_, ?_, ?_⟩, live_steps⟩
  · unfold BankRising; decide +kernel
  · intro c h
    obtain rfl : snapshotOf part = c := Option.some.inj h
    unfold ContentsRising BankRising
    decide +kernel
  · intro c h
    cases h

theorem witness_LevelCountsStayBounded : LevelsBounded live ∧ ∃ t, step live = .next t :=
  ⟨by unfold LevelsBounded; decide +kernel, live_steps⟩

theorem live_is_lawful : AnalysisLawful live := by
  unfold AnalysisLawful SetsLawful HasSet SetState.isClosed
  decide +kernel

theorem witness_AccumulatorSetsStayLawful : AnalysisLawful live ∧ ∃ t, step live = .next t := ⟨live_is_lawful, live_steps⟩

/-- A group in HOLDOVER, one sample before its window of 192 closes, with a lock count. -/
def holdoverAtEnd (lock : Nat) (g : Group) : Group :=
  { groupIn .holdover g with
      tracker := { Tracker.fresh .holdover with expected := some 5, winSamples := 191, lockCount := lock },
      sets := upd g.sets 0 { AccSet.fresh with state := .accumulating, kind := .holdover, cycles := 2, m := 191 } }

/-- The part at work with group 3 in a HOLDOVER window too, slot 0 FILLING with the window of group 0, and a good image. -/
def windowsAtWork : State :=
  { atGroup 3 (holdoverAtEnd 3) live with
      store := { live.store with image := sealedImage (snapshotOf part) }
      captures :=
        { slots := #v[{ armedSlot 0 .trip with
                          state := .filling, number := 40, kind := .tracking, count := 155, map := twoSlots.slots,
                          channels := #v[List.replicate 155 5, List.replicate 155 6, [], []] }, armedSlot 1 .snap],
          marker := 1 } }

/-- Windows open in TRACKING and HOLDOVER, one WAITING and one EVALUATING, a capture FILLING, a snapshot and a good
image. -/
theorem witness_AccumulatorSetsStayLawful_windows :
    AnalysisLawful windowsAtWork ∧ CapturesLawful windowsAtWork.captures ∧ WindowsLawful windowsAtWork ∧
      ∃ t, step windowsAtWork = .next t := by
  refine ⟨?_, ?_, ⟨?_, ?_, ?_, ?_, ?_⟩, ⟨_, rfl⟩⟩
  · unfold AnalysisLawful SetsLawful HasSet SetState.isClosed
    decide +kernel
  · unfold CapturesLawful SlotLawful
    decide +kernel
  · refine fun g => ⟨?_, ?_, ?_, ?_, ?_, ?_, ?_⟩ <;> revert g
    · unfold CyclesLawful
      decide +kernel
    · decide +kernel
    · decide +kernel
    · decide +kernel
    · unfold TrackingWindow CyclesWorth
      decide +kernel
    · unfold HoldoverWindow
      decide +kernel
    · unfold WholeWindow CyclesWorth SetState.isClosed
      decide +kernel
  · decide +kernel
  · decide +kernel
  · intro c h
    obtain rfl : snapshotOf part = c := Option.some.inj h
    unfold CyclesLawful
    decide +kernel
  · intro c h
    obtain rfl : snapshotOf part = c := (Image.written.inj (imageCondition_good_iff.mp h)).1
    unfold CyclesLawful
    decide +kernel

theorem witness_BypassStaysQuiet :
    BypassQuiet State.reset ∧ State.reset.switch = .bypass ∧ ∃ t, step State.reset = .next t :=
  ⟨by unfold BypassQuiet; decide +kernel, rfl, _, rfl⟩

theorem witness_TrippedGroupsStayTripped :
    live.switch = .inLine ∧ live.groups[0].enabled = true ∧ live.groups[0].levelUnit.level = .tripped ∧
      ∃ t, step live = .next t :=
  ⟨by decide +kernel, by decide +kernel, by decide +kernel, live_steps⟩

theorem witness_NowBanksChangeOnlyByCommits : ∃ t, step live = .next t ∧ live.switch = .inLine ∧ t.switch = .inLine :=
  live_stays_in_line

theorem witness_EventRecordsKeepTheirOrder : live.events.records.length = 1 ∧ ∃ t, step live = .next t :=
  ⟨by decide +kernel, live_steps⟩

theorem witness_FramesLeaveInTheirOrderOfArrival :
    live.path.forward.length = 1 ∧ live.path.reverse.length = 1 ∧ ∃ t, step live = .next t :=
  ⟨rfl, rfl, live_steps⟩

/-- A part released from reset that reads its image region. -/
def starting : State := { State.reset with power := .released }

theorem witness_PowerEventsResetThePart :
    starting.power ≠ .unpowered ∧ ({ State.reset with power := .unpowered }).power = .unpowered := by
  decide +kernel

theorem witness_ResetReleaseBeginsStartUp : State.reset.power = .inReset ∧ starting.power ≠ .inReset := by decide +kernel

theorem witness_StartUpLoadsTheDefaults :
    starting.power = .released ∧ starting.switch = .bypass ∧ (∀ x, starting.store.image ≠ .written x (imageCrc x)) ∧
      (∀ c x, ({ starting with store := { starting.store with image := .written c (~~~(imageCrc c)) } }).store.image ≠
        .written x (imageCrc x)) ∧
      ({ starting with timer := 200 }).timer = 200 ∧ ¬(part.power = .released ∧ part.switch = .bypass) ∧
      starting.timer ≠ 200 :=
  ⟨rfl, rfl, fun _ h => (nomatch h), fun c x h => by obtain ⟨rfl, e⟩ := Image.written.inj h; exact crc_differs _ e, rfl,
    by decide, by decide⟩

/-- An image whose group 0 is enabled at start and valid, and whose group 1 is enabled at start and is not. -/
def imageEx : ImageContents :=
  { defaultContents 0x05 with
      streams := upd (defaultContents 0x05).streams 0 entry4800,
      records := upd (upd (defaultContents 0x05).records 0 { twoSlots with enableAtStart := true }) 1
        { defaultGroupRecord with enableAtStart := true } }

theorem witness_StartUpLoadsAGoodImage :
    let s : State := { starting with store := { starting.store with image := sealedImage imageEx } }
    s.power = .released ∧ s.switch = .bypass ∧ s.store.image = .written imageEx (imageCrc imageEx) ∧
      (∀ i : StreamId, s.supervision[i].activity = .unseen) ∧ (∀ g : GroupId, s.groups[g].tracker.timing = .disabled) ∧
      (∃ g : GroupId, imageEx.records[g].enableAtStart = true ∧
        validate imageEx.streams[imageEx.records[g].stream] imageEx.records[g] = none) ∧
      (∃ g : GroupId, imageEx.records[g].enableAtStart = true ∧
        validate imageEx.streams[imageEx.records[g].stream] imageEx.records[g] ≠ none) :=
  ⟨rfl, rfl, rfl, by decide +kernel, by decide +kernel, ⟨0, by decide +kernel⟩, ⟨1, by decide +kernel⟩⟩

theorem witness_LinksComeUpOnlyInLine : part.switch = .inLine ∧ State.reset.switch = .bypass := ⟨rfl, rfl⟩

/-- A part whose port B sends `x`. -/
def sendingB (x : Transmission) : State := setPort .b { link := .up, sending := some x } part

theorem witness_LinkLossAbandonsTheFrameUnderWay :
    (portOf State.reset .a).link = .down ∧ ((portOf part .a).link = .up ∧ (portOf part .a).sending = none) ∧
      (portOf (sendingB (.forwarded [1])) .b).sending = some (.forwarded [1]) ∧
      (portOf (sendingB (.report reportEx)) .b).sending = some (.report reportEx) ∧
      ((portOf (sendingB (.answer answerEx)) .b).sending = some (.answer answerEx) ∧ answerEx.acceptsReset = false) ∧
      (portOf (sendingB (.answer { answerEx with acceptsReset := true })) .b).sending =
        some (.answer { answerEx with acceptsReset := true }) ∧
      (portOf (sendingB (.forwarded [1])) .b).link = .up :=
  ⟨rfl, ⟨rfl, rfl⟩, rfl, rfl, ⟨rfl, rfl⟩, rfl, rfl⟩

/-- One frame each that fails one condition of R2 alone: its length (63 and 1523), its check, the port, the switch. -/
theorem witness_FramesThatDoNotArriveLeaveNoTrace :
    ¬ArrivesAt .a (good (List.replicate 59 0)) part ∧ ¬ArrivesAt .a (good (List.replicate 1519 0)) part ∧
      ¬ArrivesAt .a { bytes := List.replicate 60 0, check := frameCheck (List.replicate 60 0) + 1 } part ∧
      ¬ArrivesAt .a (good (List.replicate 60 0)) (setPort .a State.reset.path.portA part) ∧
      ¬ArrivesAt .a (good (List.replicate 60 0)) { part with switch := .bypass } := by
  refine ⟨fun h => ?_, fun h => ?_, fun h => ?_, fun h => ?_, fun h => ?_⟩
  · exact absurd h.2.2.2.1 (by rw [good_length, List.length_replicate]; decide)
  · exact absurd h.2.2.2.2 (by rw [good_length, List.length_replicate]; decide)
  · exact absurd h.2.2.1 (by simp)
  · exact absurd h.2.1 (by decide +kernel)
  · exact absurd h.1 (by decide +kernel)

/-- FIFOs with room and full, a frame that is no sample frame, and an identifier with two matching entries and one with
none. -/
theorem witness_PortAArrivalsAreForwarded :
    ArrivesAt .a (good (List.replicate 60 0)) part ∧ ArrivesAt .a (good (List.replicate 1518 0)) part ∧
      part.path.forward.length < 32 ∧
      ({ part with path := { part.path with forward := List.replicate 32 frameEx } }).path.forward.length = 32 ∧
      typeWord (List.replicate 60 0) ≠ 0xB5A0 ∧ matchStream overlapping 0x1234 = some 0 ∧
      matchStream overlapping 0x1334 = none :=
  ⟨arrives_good _ _ _ rfl rfl (by rw [List.length_replicate]) (by rw [List.length_replicate]; decide),
    arrives_good _ _ _ rfl rfl (by rw [List.length_replicate]; decide) (by rw [List.length_replicate]),
    by decide +kernel, List.length_replicate, by decide +kernel, by decide +kernel, by decide +kernel⟩

/-- The hypotheses of supervision for stream 0 and a sequence number. -/
def Supervised (s : State) (q : Nat) : Prop :=
  ArrivesAt .a (good (frameWith 1 0xB5A0 0x0100 q)) s ∧ typeWord (frameWith 1 0xB5A0 0x0100 q) = 0xB5A0 ∧
    matchStream s (streamIdOf (frameWith 1 0xB5A0 0x0100 q)) = some 0 ∧ seqOf (frameWith 1 0xB5A0 0x0100 q) = q

/-- The edges of the four clauses: q = S, q = S − 1 at a stream that is not ACTIVE, d = S/2, and d = S/2 + 1; and a
stream that a group names or none does, at queues of 47 and 48. -/
theorem witness_AdmittedFramesAreSupervised :
    (Supervised (streaming 100) 4800 ∧ 4800 ≤ 4800) ∧
      (Supervised (atStream 0 entry4800 part) 4799 ∧ (atStream 0 entry4800 part).supervision[0].activity ≠ .active) ∧
      (Supervised (streaming 100) 2500 ∧ (streaming 100).supervision[0].activity = .active ∧
        ¬((4800 / 2 : Nat) < ((2500 : Int) - (streaming 100).supervision[0].expected) % (4800 : Nat))) ∧
      (Supervised (streaming 100) 2501 ∧
        (4800 / 2 : Nat) < ((2501 : Int) - (streaming 100).supervision[0].expected) % (4800 : Nat)) ∧
      (∃ g : GroupId, (atGroup 0 (groupIn .tracking) (streaming 100)).groups[g].enabled = true ∧
        (atGroup 0 (groupIn .tracking) (streaming 100)).groups[g].config.stream = 0) ∧
      (∀ g : GroupId, (streaming 100).groups[g].enabled = false) ∧ (queueOf 47 false).entries.length = 47 ∧
      (queueOf 48 false).entries.length = 48 := by
  unfold Supervised ArrivesAt
  decide +kernel

theorem witness_PortBArrivalsAreSorted :
    let l := frameWith 0x02AB 0xB5A1 0 0
    let m := frameWith 0x02AB 0xB5A0 0 0
    let full : State :=
      { part with mgmt := { part.mgmt with requests := List.replicate 4 (request 1 []) },
                  path := { part.path with reverse := List.replicate 16 [1] } }
    let last : State :=
      { part with mgmt := { part.mgmt with requests := List.replicate 3 (request 1 []) },
                  path := { part.path with reverse := List.replicate 15 [1] } }
    (ArrivesAt .b (good l) part ∧ typeWord l = 0xB5A1 ∧ destination l = part.activeAddress) ∧
      (ArrivesAt .b (good m) part ∧ ¬(typeWord m = 0xB5A1 ∧ destination m = part.activeAddress)) ∧
      last.mgmt.requests.length = 3 ∧ full.mgmt.requests.length = 4 ∧ last.path.reverse.length = 15 ∧
      full.path.reverse.length = 16 := by
  unfold ArrivesAt
  decide +kernel

theorem witness_PortASendsTheHeadOfTheReverseFifo :
    live.path.reverse = [1, 2] :: [] ∧ live.path.portA = { link := .up, sending := none } ∧ part.path.reverse = [] ∧
      State.reset.path.portA.link = .down ∧
      (setPort .a { link := .up, sending := some (.forwarded [1]) } part).path.portA.sending ≠ none :=
  ⟨rfl, rfl, rfl, rfl, fun h => (nomatch h)⟩

/-- A frame of `n` bytes matched to stream 0. -/
def matchedFrame (n : Nat) : ForwardFrame := { bytes := List.replicate n 0, stream := some 0 }

theorem witness_TheArbiterChoosesAndCounts :
    (State.reset.path.portB.link = .down ∧ (sendingB (.forwarded [1])).path.portB.sending ≠ none) ∧
      part.path.portB = { link := .up, sending := none } ∧
      ((contended [frameEx] [answerEx] [] 2).path.starvation < (contended [frameEx] [answerEx] [] 2).settings.starvationLimit
        ∧ (contended [frameEx] [] [] 3).mgmt.answers = [] ∧ (contended [frameEx] [] [] 3).mgmt.reports = []) ∧
      ((contended [frameEx] [answerEx] [] 3).settings.starvationLimit ≤ (contended [frameEx] [answerEx] [] 3).path.starvation
        ∧ (contended [frameEx] [answerEx] [] 3).mgmt.answers = answerEx :: []) ∧
      ((contended [] [] [reportEx] 0).path.forward = [] ∧ (contended [] [] [reportEx] 0).mgmt.answers = [] ∧
        (contended [] [] [reportEx] 0).mgmt.reports = reportEx :: []) :=
  ⟨⟨rfl, fun h => (nomatch h)⟩, rfl, ⟨by decide +kernel, rfl, rfl⟩, ⟨by decide +kernel, rfl⟩, ⟨rfl, rfl, rfl⟩⟩

/-- A part whose stream 0 asks for the annex of the TRACKING group 0. -/
def appending : State := atStream 0 { entry4800 with annexMode := .append } (atGroup 0 (groupIn .tracking) part)

/-- A group without a record and one with a record; frames of 1510 and 1511 bytes with their check, and one that matched
no entry. -/
theorem witness_TheArbiterChoosesAndCounts_annex :
    part.groups[0].result = none ∧
      (atGroup 0 (trippedGroup 3 .alert) part).groups[0].result = some { recordEx with level := .alert } ∧
      ((matchedFrame 1506).stream = some 0 ∧ appending.streams[0].valid = true ∧
        appending.streams[0].annexMode = .append ∧ appending.streams[0].annexGroup = 0 ∧
        appending.groups[0].enabled = true ∧ (matchedFrame 1506).bytes.length + 4 = 1510) ∧
      (matchedFrame 1507).bytes.length + 4 = 1511 ∧ frameEx.stream = none :=
  ⟨by decide +kernel, rfl,
    ⟨rfl, by decide +kernel, by decide +kernel, by decide +kernel, by decide +kernel,
      congrArg (· + 4) List.length_replicate⟩,
    congrArg (· + 4) List.length_replicate, rfl⟩

theorem witness_TransmissionCompletionFreesThePort :
    (portOf part .b).sending = none ∧ (portOf (sendingB (.answer answerEx)) .b).sending = some (.answer answerEx) ∧
      isResetAnswer (.answer answerEx) = false ∧
      (portOf (sendingB (.answer { answerEx with acceptsReset := true })) .b).sending =
        some (.answer { answerEx with acceptsReset := true }) :=
  ⟨rfl, rfl, rfl, rfl⟩

/-- A part whose timer stands at the deadline of stream 0, with a queue. -/
def silenceNow (q : AnalysisQueue) : State := { streaming 100 with timer := 10, queue := q }

theorem witness_SilenceDeadlinesSilenceTheStream :
    (streaming 100).supervision[0].deadline ≠ some (streaming 100).timer ∧
      ((silenceNow (queueOf 0 false)).supervision[0].activity = .active ∧
        (silenceNow (queueOf 0 false)).supervision[0].deadline = some (silenceNow (queueOf 0 false)).timer) ∧
      newestUnderApplication 0 { queueOf 1 false with served := [1] } = true ∧
      newestUnderApplication 0 (queueOf 1 false) = false ∧ (∃ e ∈ (queueOf 1 false).entries, e.stream = 0) ∧
      (∀ e ∈ (queueOf 0 false).entries, e.stream ≠ 0) := by
  decide +kernel

/-- The head under application is the stream's newest entry; the stream's newest entry stands behind the head, or is a
head that is not under application. -/
theorem witness_SilenceDeadlinesSilenceTheStream_placed :
    let other : QueueEntry := { entryAt 7 with stream := 1 }
    let applied : AnalysisQueue := { queueOf 0 false with entries := [entryAt 6, other], served := [1] }
    let behind : AnalysisQueue := { applied with entries := [entryAt 5, entryAt 6, other] }
    (applied.served ≠ [] ∧ applied.entries = entryAt 6 :: [other] ∧ (entryAt 6).stream = 0 ∧
        ∀ x ∈ [other], x.stream ≠ 0) ∧
      (behind.entries = [entryAt 5] ++ entryAt 6 :: [other] ∧ ∀ x ∈ [other], x.stream ≠ 0) ∧
      (queueOf 1 false).served = [] := by
  decide +kernel

/-- A group in HOLDOVER with no window open, whose set 0 waits ACCUMULATING for the next. -/
def holdoverWaiting (g : Group) : Group :=
  { groupIn .holdover g with sets := upd g.sets 0 { AccSet.fresh with state := .accumulating } }

/-- Slot 0 of group 0 FILLING with one hold, slot 1 of group 1 ARMED. -/
def fillingSlots : Captures :=
  { slots := #v[{ armedSlot 0 .trip with state := .filling, number := 40, kind := .tracking, count := 1,
                                         map := twoSlots.slots,
                                         channels := #v[[5], [6], [], []] }, armedSlot 1 .snap], marker := 1 }

/-- A silence that reaches group 0 with window 40 open and its capture FILLING, group 1 between windows in HOLDOVER,
and group 2 in NO-SIGNAL, with no entry of the stream queued. -/
def silenceAtWork : State :=
  { atGroup 0 (trackingGroup 5 60) (atGroup 1 holdoverWaiting (atGroup 2 (groupIn .noSignal)
      (silenceNow (queueOf 0 false)))) with captures := fillingSlots }

theorem witness_SilenceDeadlinesSilenceTheStream_notice :
    silenceAtWork.supervision[0].activity = .active ∧ silenceAtWork.supervision[0].deadline = some silenceAtWork.timer ∧
      (∀ e ∈ silenceAtWork.queue.entries, e.stream ≠ 0) ∧ CapturesLawful silenceAtWork.captures ∧
      (silenceAtWork.groups[0].enabled = true ∧ silenceAtWork.groups[0].config.stream = 0 ∧
        silenceAtWork.groups[0].tracker.timing = .tracking ∧ setIn .accumulating silenceAtWork.groups[0].sets = some 0 ∧
        silenceAtWork.captures.slots[0].owner = some 0 ∧ silenceAtWork.captures.slots[0].state = .filling) ∧
      (silenceAtWork.groups[1].enabled = true ∧ silenceAtWork.groups[1].config.stream = 0 ∧
        silenceAtWork.groups[1].tracker.timing = .holdover ∧ silenceAtWork.groups[1].tracker.winSamples = 0 ∧
        setIn .accumulating silenceAtWork.groups[1].sets = some 0 ∧ silenceAtWork.captures.slots[1].state ≠ .filling) ∧
      (silenceAtWork.groups[2].enabled = true ∧ silenceAtWork.groups[2].config.stream = 0 ∧
        silenceAtWork.groups[2].tracker.timing = .noSignal) ∧
      silenceAtWork.groups[3].enabled = false := by
  unfold CapturesLawful SlotLawful
  decide +kernel

/-- What that silence raises, in order of group number (R32, R60, R77, R164). -/
theorem test_silence_notice :
    let s := after (.silenceDeadline 0) silenceAtWork
    s.events.records.map (fun r => (r.event, r.detail2)) =
        [(.streamSilent 0, none), (.windowAborted 0 .silence, some 40), (.timing 0 .noSignal, none),
         (.timing 1 .noSignal, none)] ∧
      s.groups[0].counter = 41 ∧ s.groups[0].sets[0].state = .idle ∧ s.captures.slots[0].state = .armed ∧
      s.captures.slots[0].count = 0 := by
  decide +kernel

/-- A rate check is due, with the limits of 4800 / 64 = 75 at streams 1 to 3: one past it, on it, and back within it. -/
def rateChecked : State :=
  let counted (n : Nat) (suspect : Bool) : Supervision :=
    { activeAt 0 with fullInterval := true, count := n, suspect := suspect }
  supervised 1 (counted 4876 false) (supervised 2 (counted 4725 false) (supervised 3 (counted 4800 true)
    { part with rateDue := true }))

theorem witness_RateChecksJudgeEveryStream :
    part.rateDue = false ∧ rateChecked.rateDue = true ∧
      (rateChecked.supervision[1].activity = .active ∧ rateChecked.supervision[1].fullInterval = true ∧
        rateChecked.streams[1].rate.samples = 4800) ∧ rateChecked.supervision[0].activity ≠ .active := by
  decide +kernel

/-- The events of that check (R33). -/
theorem test_rate_check_events :
    (after .rateIntervalEnd rateChecked).events.records.map (fun r => r.event) = [.rateSuspect 1, .rateOk 3] := by
  decide +kernel

/-- A part with an entry of stream 0 at the head of its queue and group 0 as given; group 1 names the stream too. -/
def applying (e : QueueEntry) (f : Group → Group) : State :=
  { atGroup 0 f (atGroup 1 (groupIn .noSignal) (streaming 100)) with queue := { queueOf 0 false with entries := [e] } }

theorem witness_ApplyEntryPassesTheHeadEntry :
    part.queue.entries = [] ∧
      (({ part with queue := { part.queue with entries := [entryAt 5] } }).queue.entries = entryAt 5 :: [] ∧
        ∀ h : GroupId, part.groups[h].names (entryAt 5).stream = false) ∧
      (unserved (applying (entryAt 5) (trackingGroup 5 60)) (entryAt 5) 0 = true ∧
        ∃ h : GroupId, h ≠ 0 ∧ unserved (applying (entryAt 5) (trackingGroup 5 60)) (entryAt 5) h = true) ∧
      (let s := { applying (entryAt 5) (trackingGroup 5 60) with
        queue := { queueOf 0 false with entries := [entryAt 5], served := [1] } }
       unserved s (entryAt 5) 0 = true ∧ ∀ h : GroupId, h ≠ 0 → unserved s (entryAt 5) h = false) ∧
      (unserved (applying (entryAt 5) (trackingGroup 5 60)) (entryAt 5) 2 = false ∧
        ∃ h : GroupId, unserved (applying (entryAt 5) (trackingGroup 5 60)) (entryAt 5) h = true) ∧
      ((entryAt 5).silenceFollows = false ∧ ({ entryAt 5 with silenceFollows := true }).silenceFollows = true) := by
  decide +kernel

/-- A head entry that groups 0 and 1, which name its stream, have both had, with and without the silence-follows mark. -/
theorem witness_ApplyEntryPassesTheHeadEntry_done :
    let e := { entryAt 5 with silenceFollows := true }
    let s (x : QueueEntry) : State :=
      { applying x (trackingGroup 5 60) with queue := { queueOf 0 true with entries := [x], served := [0, 1] } }
    (∀ h : GroupId, unserved (s (entryAt 5)) (entryAt 5) h = false) ∧
      ((s (entryAt 5)).groups[0].enabled = true ∧ (s (entryAt 5)).groups[0].config.stream = (entryAt 5).stream) ∧
      (∀ h : GroupId, unserved (s e) e h = false) ∧ e.silenceFollows = true ∧
      (s e).settings.low = 24 ∧ ({ entryAt 5 with stream := 1 }).stream ≠ 0 := by
  decide +kernel

/-- The leaving of that entry: a SUSPENDED queue is RUNNING at the low watermark (R39), and its notice silences the groups
(R60). -/
theorem test_entry_leaves_when_all_have_had_it :
    let s (x : QueueEntry) : State :=
      { applying x (trackingGroup 5 60) with queue := { queueOf 0 true with entries := [x], served := [0, 1] } }
    let t := after (.applyEntry 7) (s (entryAt 5))
    let u := after (.applyEntry 7) (s { entryAt 5 with silenceFollows := true })
    t.queue = queueOf 0 false ∧ t.groups[0].tracker.timing = .tracking ∧ u.queue = queueOf 0 false ∧
      u.groups[0].tracker.timing = .noSignal := by
  decide +kernel

/-- A view of a group with a Capture Unit, no event and nobody waiting. -/
def viewOf (g : Group) (c : Captures) : GroupView :=
  { grp := g, events := part.events, captures := c, waitList := [] }

/-- A group with its armed mark set, its cycle in progress at `n`, and a lock count. -/
def armedAt (n : Option Nat) (lock : Nat) (g : Group) : Group :=
  { g with tracker := { g.tracker with armed := true, cycleCount := n, lockCount := lock } }

/-- A TRACKING group with window 40 open, armed, at a count of its cycle and of the window's cycles. -/
def tracksAt (n winCycles : Nat) : Group :=
  let g := trackingGroup 5 n Group.fresh
  { g with tracker := { g.tracker with armed := true, winCycles := winCycles } }

/-- The group of a context at S = 4800 and 50 Hz: lengths 90 and 102 are accepted, 89 is early, 103 would be late. -/
theorem edges_of_a_cycle (g : Group) (h : g.tracker.armed = true) (hr : g.config.refSlot = 0) (hf : g.config.freq = .f50) :
    CrossesAt g (sampleOf 0) ∧ ¬CrossesAt g (sampleOf (-1)) ∧
      (g.tracker.cycleCount = some 90 → EndsAccepted (at4800 0) g (sampleOf 0) 90) ∧
      (g.tracker.cycleCount = some 102 → EndsAccepted (at4800 0) g (sampleOf 0) 102) ∧
      (g.tracker.cycleCount = some 89 → EndsEarly (at4800 0) g (sampleOf 0)) ∧
      (g.tracker.cycleCount = some 102 → EndsLate (at4800 0) g (sampleOf (-1))) ∧
      (g.tracker.cycleCount = some 101 → ¬EndsLate (at4800 0) g (sampleOf (-1))) ∧
      ¬EndsLate (at4800 0) g (sampleOf 0) := by
  have c0 : CrossesAt g (sampleOf 0) := ⟨h, by simp [hr, sampleOf]⟩
  have c1 : ¬CrossesAt g (sampleOf (-1)) := fun c => absurd c.2 (by simp [hr, sampleOf])
  have hz : g.config.freq.hertz = 50 := by rw [hf]; rfl
  have hs : (at4800 0).rate.samples = 4800 := rfl
  refine ⟨c0, c1, fun k => ⟨c0, k, ?_, ?_⟩, fun k => ⟨c0, k, ?_, ?_⟩, fun k => ⟨c0, 89, k, fun a => ?_⟩,
    fun k => ⟨c1, 102, k, ?_⟩, ?_, fun l => l.1 c0⟩
  · omega
  · omega
  · omega
  · omega
  · have := a.1; omega
  · omega
  · rintro k ⟨-, n, hn, hl⟩
    rw [k] at hn
    cases hn
    omega

/-- Gaps of G_max and above, a pass that closes a window for an idle engine, each timing state that a gap above G_max
meets, and each thing that a sample is to a cycle. -/
theorem witness_ApplyEntryPassesTheHeadEntry_pass :
    (gapOf (at4800 1) (entryAt 2005) (trackingGroup 2001 55 Group.fresh).tracker = 4 ∧
        gapOf (at4800 1) (entryAt 2006) (trackingGroup 2001 55 Group.fresh).tracker = 5 ∧ twoSlots.gapLimit = 4) ∧
      (let s := applying (entryAt 5) (holdoverAtEnd 3)
       s.engine = none ∧ (passEntry (contextOf s 0) (entryAt 5) (viewGroup s 0)).waitList = 0 :: [] ∧
        (passEntry (contextOf s 1) (entryAt 5) (viewGroup s 1)).waitList = []) ∧
      ((tracksAt 50 0).tracker.timing = .tracking ∧ setIn .accumulating (tracksAt 50 0).sets = some 0) ∧
      (groupIn .aligning Group.fresh).tracker.timing = .aligning ∧
      (groupIn .acquiring Group.fresh).tracker.timing = .acquiring ∧
      ((holdoverAtEnd 3 Group.fresh).tracker.timing = .holdover ∧ (holdoverAtEnd 3 Group.fresh).tracker.winSamples = 191 ∧
        setIn .accumulating (holdoverAtEnd 3 Group.fresh).sets = some 0) ∧
      (holdoverWaiting Group.fresh).tracker.winSamples = 0 ∧
      ((tracksAt 89 0).tracker.cycleCount = some 89 ∧ (armedAt none 0 (groupIn .acquiring Group.fresh)).tracker.cycleCount = none ∧
        (tracksAt 102 0).tracker.armed = true ∧ (tracksAt 102 0).config.refSlot = 0 ∧
        (tracksAt 102 0).config.freq = .f50) := by
  decide +kernel

theorem witness_LateCyclesEndTracking :
    let s := applying (entryAt 5) (trackingGroup 5 102)
    happensNext tooLateAt 0 part = false ∧ s.queue.entries = entryAt 5 :: [] ∧ unserved s (entryAt 5) 0 = true ∧
      s.groups[0].tracker.timing = .tracking ∧ gapOf (contextOf s 0) (entryAt 5) s.groups[0].tracker = 0 ∧
      isCrossing s.groups[0].tracker (refValue s.groups[0] (realSample (entryAt 5) s.groups[0])) = false ∧
      s.groups[0].tracker.cycleCount = some (longestCycle (contextOf s 0).rate s.groups[0].config.freq) ∧
      setIn .accumulating s.groups[0].sets = some 0 := by
  decide +kernel

/-- In TRACKING a sample that ends no cycle, one that ends the first of two accepted cycles, and one that ends an early
or a late one. -/
theorem witness_LateCyclesEndTracking_samples :
    (∀ n : Nat, (tracksAt n 0).tracker.timing = .tracking ∧ (tracksAt n 0).tracker.winCycles + 1 < (tracksAt n 0).config.cycles ∧
        setIn .accumulating (tracksAt n 0).sets = some 0) ∧
      ((∀ len, ¬EndsAccepted (at4800 0) (tracksAt 101 0) (sampleOf (-1)) len) ∧
        ¬EndsEarly (at4800 0) (tracksAt 101 0) (sampleOf (-1)) ∧ ¬EndsLate (at4800 0) (tracksAt 101 0) (sampleOf (-1))) ∧
      EndsAccepted (at4800 0) (tracksAt 90 0) (sampleOf 0) 90 ∧ EndsEarly (at4800 0) (tracksAt 89 0) (sampleOf 0) ∧
      EndsLate (at4800 0) (tracksAt 102 0) (sampleOf (-1)) := by
  have e (n : Nat) := edges_of_a_cycle (tracksAt n 0) rfl rfl rfl
  exact ⟨fun n => ⟨rfl, by show 0 + 1 < 2; decide, rfl⟩,
    ⟨fun _ h => (e 101).2.1 h.1, fun h => (e 101).2.1 h.1, (e 101).2.2.2.2.2.2.1 rfl⟩, (e 90).2.2.1 rfl,
    (e 89).2.2.2.2.1 rfl, (e 102).2.2.2.2.2.1 rfl⟩

/-- A slot that fills and none that does; slots of both kinds and an unused one, and an order at the end of a list. -/
theorem witness_LateCyclesEndTracking_sums :
    OwnsOne (at4800 0) fillingSlots ∧ OwnsOne (at4800 1) fillingSlots ∧
      (fillingSlots.slots[0].owner = some (at4800 0).group ∧ fillingSlots.slots[0].state = .filling) ∧
      (∀ j : CaptureIx, ¬(fillingSlots.slots[j].owner = some (at4800 1).group ∧ fillingSlots.slots[j].state = .filling)) ∧
      configEx.slots[(0 : SlotIx)] = .used .ac 0 ∧ configEx.slots[(1 : SlotIx)] = .used .dc 1 ∧
      configEx.slots[(3 : SlotIx)] = .unused ∧ configEx.orders[0]? = some ⟨5, .ac⟩ ∧ configEx.orders[7]? = some ⟨12, .dc⟩ := by
  unfold OwnsOne
  decide +kernel

/-- A group ACQUIRING, one sample before its time runs out. -/
def acquiringLong (g : Group) : Group :=
  { groupIn .acquiring g with
      tracker := { Tracker.fresh .acquiring with expected := some 5, acqCount := 6143 } }

theorem witness_AcquisitionTimeoutsEnterHoldover :
    let s := applying (entryAt 5) acquiringLong
    let v := sampleVerdict (contextOf s 0) s.groups[0] (realSample (entryAt 5) s.groups[0])
    happensNext timeoutAt 0 part = false ∧ s.queue.entries = entryAt 5 :: [] ∧ unserved s (entryAt 5) 0 = true ∧
      s.groups[0].tracker.timing = .acquiring ∧ gapOf (contextOf s 0) (entryAt 5) s.groups[0].tracker = 0 ∧
      s.groups[0].tracker.acqCount + 1 = 64 * nominalLength (contextOf s 0).rate s.groups[0].config.freq ∧
      locks v (nextLock v s.groups[0].tracker.lockCount) = false := by
  decide +kernel

/-- A group ALIGNING, armed, at a count of its cycle. -/
def alignsAt (n : Nat) : Group := armedAt (some n) 0 (groupIn .aligning Group.fresh)

/-- In ACQUIRING a fourth accepted cycle in a row, and samples that end none at the last count before the limit and
before that; in ALIGNING a crossing, a cycle that becomes too late, and neither; and a set for each opening. -/
theorem witness_AcquisitionTimeoutsEnterHoldover_samples :
    let g := armedAt (some 102) 3 (groupIn .acquiring Group.fresh)
    (g.tracker.timing = .acquiring ∧ 3 ≤ g.tracker.lockCount ∧ (∃ len, EndsAccepted (at4800 0) g (sampleOf 0) len) ∧
        TakesSet g.sets 0) ∧
      (¬(3 ≤ (acquiringLong Group.fresh).tracker.lockCount) ∧
        64 * ((at4800 0).rate.samples / (acquiringLong Group.fresh).config.freq.hertz) =
          (acquiringLong Group.fresh).tracker.acqCount + 1) ∧
      (¬(3 ≤ (groupIn .acquiring Group.fresh).tracker.lockCount) ∧ (groupIn .acquiring Group.fresh).tracker.acqCount = 0) ∧
      (∀ n : Nat, (alignsAt n).tracker.timing = .aligning ∧ TakesSet (alignsAt n).sets 0 ∧
        1 < (alignsAt n).config.cycles * ((at4800 0).rate.samples / (alignsAt n).config.freq.hertz)) ∧
      CrossesAt (alignsAt 5) (sampleOf 0) ∧ EndsLate (at4800 0) (alignsAt 102) (sampleOf (-1)) ∧
      (¬CrossesAt (alignsAt 101) (sampleOf (-1)) ∧ ¬EndsLate (at4800 0) (alignsAt 101) (sampleOf (-1))) ∧
      TakesSet (upd (holdoverWaiting Group.fresh).sets 1 window731) 0 := by
  have e (n : Nat) := edges_of_a_cycle (alignsAt n) rfl rfl rfl
  have f := edges_of_a_cycle (armedAt (some 102) 3 (groupIn .acquiring Group.fresh)) rfl rfl rfl
  have fresh : TakesSet Group.fresh.sets 0 := by unfold TakesSet; decide +kernel
  exact ⟨⟨rfl, by decide +kernel, ⟨102, f.2.2.2.1 rfl⟩, fresh⟩, by decide +kernel, by decide +kernel,
    fun n => ⟨rfl, fresh, by show 1 < 2 * (4800 / 50); decide⟩, (e 5).1, (e 102).2.2.2.2.2.1 rfl,
    ⟨(e 101).2.1, (e 101).2.2.2.2.2.2.1 rfl⟩, by unfold TakesSet; decide +kernel⟩

/-- An ARMED slot and a FILLING one for the opening and for a sample, and none of either. -/
theorem witness_AcquisitionTimeoutsEnterHoldover_capture :
    OwnsOne (at4800 0) fillingSlots ∧ OwnsOne (at4800 1) fillingSlots ∧
      (fillingSlots.slots[1].owner = some (at4800 1).group ∧ fillingSlots.slots[1].state = .armed) ∧
      (fillingSlots.slots[0].owner = some (at4800 0).group ∧ fillingSlots.slots[0].state = .filling) ∧
      (∀ j : CaptureIx, ¬(fillingSlots.slots[j].owner = some (at4800 0).group ∧ fillingSlots.slots[j].state = .armed)) ∧
      (∀ j : CaptureIx, ¬(fillingSlots.slots[j].owner = some (at4800 1).group ∧ fillingSlots.slots[j].state = .filling)) ∧
      fillingSlots.slots[0].map[(3 : SlotIx)] = .unused ∧ fillingSlots.slots[0].map[(1 : SlotIx)] ≠ .unused := by
  unfold OwnsOne
  decide +kernel

/-- The hypotheses at a lock count, and the lock count after the sample. -/
def ClosesHoldover (lock : Nat) : Prop :=
  let s := applying (entryAt 5) (holdoverAtEnd lock)
  s.queue.entries = entryAt 5 :: [] ∧ unserved s (entryAt 5) 0 = true ∧ s.groups[0].tracker.timing = .holdover ∧
    gapOf (contextOf s 0) (entryAt 5) s.groups[0].tracker = 0 ∧
    s.groups[0].tracker.winSamples + 1 =
      s.groups[0].config.cycles * nominalLength (contextOf s 0).rate s.groups[0].config.freq ∧
    setIn .accumulating s.groups[0].sets = some 0 ∧ s.groups[0].sets[other 0].state = .idle ∧
    nextLock (sampleVerdict (contextOf s 0) s.groups[0] (realSample (entryAt 5) s.groups[0]))
      s.groups[0].tracker.lockCount = lock

theorem witness_HoldoverClosesHandOnTheWindow :
    happensNext holdoverCloseAt 0 part = false ∧ ClosesHoldover 4 ∧ ClosesHoldover 3 := by
  unfold ClosesHoldover
  decide +kernel

/-- A TRACKING view at the end of its second and last cycle, with set 1 as given, as the close finds it. -/
def atLastCycle (other : AccSet) : GroupView :=
  let g := tracksAt 90 1
  viewOf { g with tracker := (trackSample (at4800 0) (sampleOf 0) g).tracker
                  sets := upd (upd g.sets 1 other) 0 (addCycle g.config 90 g.buffer 0 g.sets[0])
                  buffer := [] } fillingSlots

/-- In HOLDOVER an opening, a sample within the window and its last with lock counts 3 and 4; in TRACKING the last
accepted cycle, where the next window takes set 1, or set 0 again after an overrun. -/
theorem witness_HoldoverClosesHandOnTheWindow_samples :
    let h (n lock : Nat) : Group :=
      { holdoverAtEnd lock Group.fresh with tracker := { (holdoverAtEnd lock Group.fresh).tracker with winSamples := n } }
    let length := twoSlots.cycles * ((at4800 0).rate.samples / twoSlots.freq.hertz)
    ((h 0 0).tracker.timing = .holdover ∧ (h 0 0).tracker.winSamples = 0 ∧ TakesSet (h 0 0).sets 0 ∧ 1 < length ∧
        (h 0 0).config = twoSlots) ∧
      ((h 190 0).tracker.winSamples ≠ 0 ∧ setIn .accumulating (h 190 0).sets = some 0 ∧ 190 + 1 < length) ∧
      ((h 191 3).tracker.winSamples + 1 = length ∧ (trackSample (at4800 0) (sampleOf (-1)) (h 191 3)).tracker.lockCount = 3 ∧
        (trackSample (at4800 0) (sampleOf (-1)) (h 191 4)).tracker.lockCount = 4) ∧
      (EndsAccepted (at4800 0) (tracksAt 90 1) (sampleOf 0) 90 ∧
        (tracksAt 90 1).config.cycles = (tracksAt 90 1).tracker.winCycles + 1 ∧
        setIn .accumulating (tracksAt 90 1).sets = some 0 ∧
        TakesSet (closeWindow (at4800 0) true (atLastCycle AccSet.fresh)).grp.sets 1 ∧
        TakesSet (closeWindow (at4800 0) true (atLastCycle window731)).grp.sets 0) := by
  refine ⟨?_, by decide +kernel, by decide +kernel,
    (edges_of_a_cycle (tracksAt 90 1) rfl rfl rfl).2.2.1 rfl, by decide +kernel, by decide +kernel, ?_, ?_⟩ <;>
  · unfold TakesSet
    decide +kernel

/-- A close with the group's capture FILLING, and one where it has none. -/
theorem witness_HoldoverClosesHandOnTheWindow_close :
    setIn .accumulating (atLastCycle AccSet.fresh).grp.sets = some 0 ∧ OwnsOne (at4800 0) fillingSlots ∧
      (fillingSlots.slots[0].owner = some (at4800 0).group ∧ fillingSlots.slots[0].state = .filling) ∧
      (∀ j : CaptureIx, ¬(fillingSlots.slots[j].owner = some (at4800 1).group ∧ fillingSlots.slots[j].state = .filling)) := by
  unfold OwnsOne
  decide +kernel

/-- A part whose engine evaluates window 731 in set 1 of group 1, with the leak counter one short of Lk or two. -/
def evaluatingAt (leak : Nat) : State :=
  { atGroup 1 (fun g => { groupIn .tracking g with
        config := { configEx with leakPeriod := 3, reportEnable := true }, nowBank := bankEx,
        levelUnit := { bucket := 0, leakCounter := leak, run := 0, level := .normal },
        sets := upd g.sets 1 { window731 with state := .evaluating } }) part with engine := some 1 }

theorem witness_CompletionsReplaceTheResultRecord :
    part.engine = none ∧ (evaluatingAt 2).engine = some 1 ∧
      setIn .evaluating (evaluatingAt 2).groups[1].sets = some 1 ∧
      leakDue (evaluatingAt 2).groups[1].config (evaluatingAt 2).groups[1].levelUnit = true ∧
      leakDue (evaluatingAt 1).groups[1].config (evaluatingAt 1).groups[1].levelUnit = false := by
  decide +kernel

/-- A group with set 1 alone WAITING, one with none, and one with set 0 WAITING. -/
theorem witness_CompletionsReplaceTheResultRecord_next :
    let first : Group := { Group.fresh with sets := upd Group.fresh.sets 0 { AccSet.fresh with state := .waiting } }
    ((waitingAtWork Group.fresh).sets[1].state = .waiting ∧ (waitingAtWork Group.fresh).sets[0].state ≠ .waiting) ∧
      (∀ k : SetIx, Group.fresh.sets[k].state ≠ .waiting) ∧ first.sets[0].state = .waiting := by
  decide +kernel

/-- Slot 0 of group 3 with a number of holds, slot 1 FREE. -/
def oneSlot (holds : Nat) : Captures := { slots := #v[heldSlot 3 holds 52, CaptureSlot.free], marker := 0 }

/-- Both slots in use, by groups 3 and 0. -/
def fullSlots : Captures := { slots := #v[heldSlot 3 2 52, heldSlot 0 1 214], marker := 0 }

/-- The record that a part's engine is about to write for window 731. -/
def due (s : State) : ResultRecord := evaluatedRecord s 1 1

/-- That part with the configuration, the NOW bank and the first-exceedance record of group 1 changed. -/
def evaluatingWith (f : GroupRecord → GroupRecord) (bank : Vector LimitRow 19) (first : Option FirstRecord) : State :=
  atGroup 1 (fun g => { g with config := f g.config, nowBank := bank, first := first }) (evaluatingAt 1)

/-- No cell at ALERT or above under the default bank; under that of section 6.5 one alone, with no first-exceedance
record and with one. -/
theorem witness_CompletionsReplaceTheResultRecord_exceedance :
    let e := latchRecord record731 { row := 18, slot := 1, value := 306, level := .alert, threshold := 300 }
    (∀ (p : Fin 76) (v : Nat) (l : RowLevel), (due (evaluatingWith id defaultBank none)).cells[p] = .value v l →
        ¬(l = .alert ∨ l = .trip)) ∧
      (due (evaluatingAt 1)).cells[(73 : Fin 76)] = .value 306 .alert ∧
      (∀ (q : Fin 76) (w : Nat) (m : RowLevel), (due (evaluatingAt 1)).cells[q] = .value w m →
        m = .alert ∨ m = .trip → m.rank < RowLevel.alert.rank ∨ (m = .alert ∧ 73 ≤ q)) ∧
      (evaluatingAt 1).groups[1].first = none ∧ (evaluatingWith id bankEx (some e)).groups[1].first = some e := by
  have quiet : ∀ p : Fin 76, (match (due (evaluatingWith id defaultBank none)).cells[p] with
      | .value _ l => decide (l ≠ .alert ∧ l ≠ .trip)
      | _ => true) = true := by decide +kernel
  have one : ∀ q : Fin 76, (match (due (evaluatingAt 1)).cells[q] with
      | .value _ m => decide (m ≠ .trip ∧ (m = .alert → 73 ≤ q))
      | _ => true) = true := by decide +kernel
  refine ⟨fun p v l h => ?_, by decide +kernel, fun q w m h hm => ?_, by decide +kernel, rfl⟩
  · have := quiet p
    rw [h] at this
    exact fun a => a.elim (of_decide_eq_true this).1 (of_decide_eq_true this).2
  · have := one q
    rw [h] at this
    exact hm.elim (fun a => .inr ⟨a, (of_decide_eq_true this).2 a⟩) (fun a => absurd a (of_decide_eq_true this).1)

/-- The level of group 1 after the window. -/
def levelDue (s : State) : Level :=
  (handleLevels s.groups[1].config (due s).level (due s).degraded (due s).idle s.groups[1].levelUnit).level

/-- A level that stays, one that becomes ALARM, and one that becomes TRIPPED with the auto capture enable on: with 14
and 15 holds on the group's slot, with both slots in use by others, with one FREE slot and with two; and a report
queue with 7 and 8 reports, under suspension and without. -/
theorem witness_CompletionsReplaceTheResultRecord_level :
    let tripping := evaluatingWith (fun c => { c with tripFunction := true, tripPersistence := 1, autoCapture := true })
      (upd bankEx 18 ⟨250, 300, 305⟩) none
    let ours (n : Nat) : Captures := { slots := #v[heldSlot 1 n 52, CaptureSlot.free], marker := 0 }
    (levelDue (evaluatingAt 1) = (evaluatingAt 1).groups[1].levelUnit.level) ∧
      levelDue (evaluatingWith (fun c => { c with bHi := 1, bLo := 0 }) bankEx none) = .alarm ∧
      (levelDue tripping = .tripped ∧ tripping.groups[1].levelUnit.level = .normal ∧
        tripping.groups[1].config.autoCapture = true) ∧
      (CapturesLawful (ours 14) ∧ CapturesLawful (ours 15) ∧ (ours 15).slots[0].owner = some 1 ∧
        (ours 14).slots[0].holds = 14 ∧ (ours 15).slots[0].holds = 15) ∧
      (CapturesLawful fullSlots ∧ (∀ j : CaptureIx, fullSlots.slots[j].owner ≠ some 1) ∧
        ∀ j : CaptureIx, fullSlots.slots[j].state ≠ .free) ∧
      (CapturesLawful (oneSlot 2) ∧ (∀ j : CaptureIx, (oneSlot 2).slots[j].owner ≠ some 1) ∧
        (oneSlot 2).slots[1].state = .free ∧ (oneSlot 2).slots[other 1].state ≠ .free) ∧
      (CapturesLawful part.captures ∧ part.captures.slots[0].state = .free ∧ part.captures.marker = 0) ∧
      (tripping.groups[1].config.reportEnable = true ∧ part.groups[1].config.reportEnable = false ∧
        tripping.queue.suspended = false ∧ (queueOf 0 true).suspended = true ∧
        (List.replicate 7 reportEx).length < 8 ∧ (List.replicate 8 reportEx).length = 8) := by
  unfold CapturesLawful SlotLawful
  refine ⟨?_, ?_, ?_, ?_, ?_, ?_, ?_, ?_, ?_, ?_, ?_, ?_, List.length_replicate⟩ <;>
  decide +kernel

/-- The edges of the leak, the run and the level rules, at the settings of section 7.3. -/
theorem witness_TheLevelUnitHandlesAWindowInFourSteps :
    let u : LevelUnit := { bucket := 1, leakCounter := 1, run := 3, level := .normal }
    ({ levelConfig with leakPeriod := 0 }).leakPeriod = 0 ∧ u.leakCounter + 1 < levelConfig.leakPeriod ∧
      levelConfig.leakPeriod = ({ u with leakCounter := 2 }).leakCounter + 1 ∧
      (levelConfig.tripFunction = true ∧ u.level ≠ .tripped ∧ levelConfig.tripPersistence ≤ u.run) ∧
      ({ u with run := 2 }).run < levelConfig.tripPersistence ∧ levelConfig.bHi ≤ ({ u with bucket := 4 }).bucket ∧
      u.bucket ≤ levelConfig.bLo ∧ levelConfig.bLo < ({ u with bucket := 2 }).bucket := by
  decide +kernel

/-- Row 18 of section 6.5's bank: 300 does not exceed the alert threshold 300, 301 does. -/
theorem witness_GradingTakesTheHighestExceededLevel :
    gradeValue ⟨250, 300, 500⟩ 300 = .notice ∧ gradeValue ⟨250, 300, 500⟩ 301 = .alert ∧
      gradeValue ⟨250, 300, 500⟩ 501 = .trip ∧ gradeValue ⟨0, 60, 0⟩ 60 = .clear ∧
      record731.cells[(75 : Fin 76)] = .absent ∧ record731.cells[(73 : Fin 76)] = .value 306 .alert := by
  decide +kernel

theorem witness_FiguresStayInTheirRanges :
    (evaluateSet .r9600 configEx bankEx 4 window731).cells[(73 : Fin 76)] = .value 306 .alert ∧
      [((-4 : Int), 0, 96), (3, 1, 96)] ≠ [] := by
  decide +kernel

/-- Used and unused slots, rows of the two kinds and the last three, a floor not met, and a group without a DC slot. -/
theorem witness_FiguresStayInTheirRanges_cells :
    (configEx.slots[(0 : SlotIx)] = .used .ac 0 ∧ configEx.slots[(1 : SlotIx)] = .used .dc 1 ∧
        configEx.slots[(2 : SlotIx)] = .unused) ∧
      (configEx.orders[0]? = some ⟨5, .ac⟩ ∧ configEx.orders[6]? = some ⟨6, .dc⟩ ∧ configEx.orders[8]? = none) ∧
      ((75 : Fin 76).val = 4 * (18 : Fin 19).val + (3 : SlotIx).val) ∧
      (isqrt (window731.sums[0].fund.re * window731.sums[0].fund.re).toNat * 2 / (1920 * 16384) = 1000 ∧
        configEx.fundFloor ≤ 1000 ∧ 1000 < ({ configEx with fundFloor := 1001 }).fundFloor) ∧
      (window731.kind = .tracking ∧ ({ window731 with kind := .holdover }).kind = .holdover) ∧
      (∀ j : SlotIx, j < 1 → ¬∃ v, configEx.slots[j] = .used .dc v) ∧
      ∀ k : SlotIx, ¬∃ v, (defaultGroupRecord).slots[k] = .used .dc v := by
  decide +kernel

/-- A part with a store in progress since timer value 0. -/
def storing : State := beginStore part

/-- A part of which an act falls due at 500: a store taken at 100 and a RESET PART taken at 0. -/
def dueAt500 : State :=
  { storing with timer := 500, store := { storing.store with taken := 100 },
                 mgmt := { part.mgmt with resetTaken := some 0 } }

/-- Each act that may be due, at its value of the timer. -/
theorem witness_EmptyQueueLetsOneMillisecondPass_due :
    (dueAt500.pending = [] ∧ dueAt500.power = .released ∧ dueAt500.store.busy = true ∧
        dueAt500.timer - dueAt500.store.taken = 400 ∧ dueAt500.mgmt.resetTaken = some 0 ∧ dueAt500.timer - 0 = 500) ∧
      (starting.pending = [] ∧ starting.power = .released ∧ starting.switch = .bypass ∧
        ({ starting with timer := 200 }).timer = 200) ∧
      ((silenceNow (queueOf 0 false)).pending = [] ∧ (silenceNow (queueOf 0 false)).supervision[0].activity = .active ∧
        (silenceNow (queueOf 0 false)).supervision[0].deadline = some (silenceNow (queueOf 0 false)).timer) ∧
      ({ part with rateDue := true }).rateDue = true := by
  decide +kernel

/-- The millisecond in which the store limit is due raises STORE FAULT at its own timer value and counts on; the one in
which the pending reset is due resets the part first (R186, R190). -/
theorem test_due_acts :
    (tick { dueAt500 with mgmt := part.mgmt }).events.records.map (fun r => (r.event, r.stamp)) = [(.storeFault, 500)] ∧
      (tick { dueAt500 with mgmt := part.mgmt }).timer = 501 ∧ (tick dueAt500).switch = .bypass ∧
      (tick dueAt500).timer = 1 := by
  decide +kernel

theorem witness_StoresEndInACompletionOrAFault :
    storing.store.snapshot = some (snapshotOf part) ∧
      ({ storing with timer := 400 }).timer - ({ storing with timer := 400 }).store.taken = 400 ∧
      part.store.snapshot = none ∧ storing.timer - storing.store.taken ≠ 400 :=
  ⟨rfl, by decide +kernel, rfl, by decide +kernel⟩

theorem witness_ResetPartIsTakenAndTimesOut :
    HeadAsks (asks 0x13 [] part) (request 0x13 []) [] .resetPart 0 ∧
      HeadAsks (asks 0x13 [] storing) (request 0x13 []) [] .resetPart 0 ∧ storing.store.snapshot ≠ none ∧
      part.store.snapshot = none ∧ part.mgmt.resetTaken = none ∧
      (pendReset { part with timer := 7 }).mgmt.resetTaken = some 7 ∧ (507 : BitVec 32) - 7 = 500 ∧
      (506 : BitVec 32) - 7 ≠ 500 :=
  ⟨head_asks _ _ _ _ _ rfl (by decide) rfl (by decide), head_asks _ _ _ _ _ rfl (by decide) rfl (by decide),
    fun h => (nomatch h), rfl, rfl, rfl, by decide, by decide⟩

theorem witness_RequestsAreTakenFromTheHeadWithRoom :
    Instr.snap ∈ requestCommands ∧ (pendReset part).mgmt.resetTaken ≠ none ∧
      4 ≤ ({ part with mgmt := { part.mgmt with answers := List.replicate 4 answerEx } }).mgmt.answers.length ∧
      part.mgmt.requests = [] ∧ (asks 0x01 [] part).mgmt.requests = request 0x01 [] :: [] ∧
      requestCode (request 0x01 []).code ≠ none ∧
      ((Instr.snap, RequestCode.snap, 1) ∈ plainRequests ∧ requestCode (request 0x01 []).code ≠ some .snap) ∧
      (Instr.readEntryGroup, RequestCode.readEntry, TableSelector.group, 2) ∈ entryRequests ∧
      requestCode (request 0x01 []).code ≠ some .readEntry ∧
      (asks 0x03 [0, 0] part).mgmt.requests = request 0x03 [0, 0] :: [] ∧
      tableOf (request 0x03 [0, 0]) = some .stream ∧ TableSelector.stream ≠ .group := by
  decide +kernel

/-- A request whose argument length is one short, one that names no table, and one that names group 8. -/
theorem witness_RequestsAreCheckedBeforeTheyAreServed :
    HeadIs (asks 0x80 [] part) (request 0x80 []) [] ∧ requestCode (request 0x80 []).code = none ∧
      ((Instr.readCapture, RequestCode.readCapture, 4) ∈ plainRequests ∧ covers (request 0x0F [0, 0, 0]) 4 = false) ∧
      ((Instr.writeEntryStream, RequestCode.writeEntry, TableSelector.stream, 14) ∈ entryRequests ∧
        covers (request 0x04 [0]) 2 = false ∧
        (covers (request 0x04 [4, 0]) 2 = true ∧ tableSelector (argOf (request 0x04 [4, 0]) 0) = none) ∧
        (tableOf (request 0x04 (List.replicate 13 0)) = some .stream ∧
          covers (request 0x04 (List.replicate 13 0)) 14 = false)) ∧
      ((Instr.snap, RequestCode.snap) ∈ groupRequests ∧ covers (request 0x0C [8]) 1 = true ∧
        argOf (request 0x0C [8]) 0 = 8) := by
  unfold HeadIs
  decide +kernel

theorem witness_IdentifyAnswersTheNamesAndAddresses :
    HeadAsks (asks 0x01 [] part) (request 0x01 []) [] .identify 0 := head_asks _ _ _ _ _ rfl (by decide) rfl (by decide)

theorem witness_ReadStatusShowsAndClearsTheStickyFlags :
    part.store.snapshot = none ∧ storing.store.snapshot ≠ none ∧
      (∀ b : Byte, HeadAsks (asks 0x02 [b] part) (request 0x02 [b]) [] .readStatus 1) ∧
      argOf (request 0x02 [0]) 0 = 0 ∧ argOf (request 0x02 [1]) 0 = 1 ∧ argOf (request 0x02 [2]) 0 = 2 :=
  ⟨rfl, fun h => (nomatch h), fun _ => head_asks _ _ _ _ _ rfl (by decide) rfl (by simp), rfl, rfl, rfl⟩

theorem witness_ReadEntryReturnsTheTables :
    (∀ b : Byte, HeadNames (asks 0x03 [0, b] part) (request 0x03 [0, b]) [] .readEntry .stream 2) ∧
      streamArg (argOf (request 0x03 [0, 15]) 1) = some 15 ∧ argOf (request 0x03 [0, 16]) 1 = 16 ∧
      (∀ b : Byte, HeadNames (asks 0x03 [1, b] part) (request 0x03 [1, b]) [] .readEntry .group 2) ∧
      groupArg (argOf (request 0x03 [1, 7]) 1) = some 7 ∧ argOf (request 0x03 [1, 8]) 1 = 8 ∧
      (∀ a b c d : Byte, HeadNames (asks 0x03 [2, a, b, c, d] part) (request 0x03 [2, a, b, c, d]) [] .readEntry .limits 5) ∧
      rowsInRange 18 1 = true ∧ rowsInRange 0 19 = true ∧ rowsInRange 18 2 = false ∧ rowsInRange 0 0 = false ∧
      flagArg 1 = some true ∧ HeadNames (asks 0x03 [3, 0] part) (request 0x03 [3, 0]) [] .readEntry .settings 2 :=
  ⟨fun _ => head_names _ _ _ _ _ _ rfl (by decide) rfl (by simp) rfl (by simp), rfl, rfl,
    fun _ => head_names _ _ _ _ _ _ rfl (by decide) rfl (by simp) rfl (by simp), rfl, rfl,
    fun _ _ _ _ => head_names _ _ _ _ _ _ rfl (by decide) rfl (by simp) rfl (by simp), rfl, rfl, rfl, rfl, rfl,
    head_names _ _ _ _ _ _ rfl (by decide) rfl (by simp) rfl (by simp)⟩

theorem witness_WriteEntryStoresAStreamEntry :
    (∀ i v t : Byte, HeadNames (asks 0x04 (streamArgs i v t) part) (request 0x04 (streamArgs i v t)) [] .writeEntry .stream
      14) ∧
      argOf (request 0x04 (streamArgs 16 1 1)) 1 = 16 ∧ streamArg (argOf (request 0x04 (streamArgs 15 1 1)) 1) = some 15 ∧
      (parseStreamEntry (streamArgs 15 9 0)).isSome = true ∧ parseStreamEntry (List.replicate 14 0) = none ∧
      (∃ g : GroupId, (atGroup 0 (groupIn .tracking) part).groups[g].enabled = true ∧
        (atGroup 0 (groupIn .tracking) part).groups[g].config.stream = 0) ∧
      (∀ g : GroupId, ¬(part.groups[g].enabled = true ∧ part.groups[g].config.stream = 15)) :=
  ⟨fun _ _ _ => head_names _ _ _ _ _ _ rfl (by decide) rfl (by simp [streamArgs]) rfl (by simp [streamArgs]),
    by decide +kernel, by decide +kernel, by decide +kernel, by decide +kernel, ⟨0, by decide +kernel⟩, by decide +kernel⟩

theorem witness_WriteEntryStoresAGroupRecord :
    (∀ g c : Byte, HeadNames (asks 0x04 (groupArgs g c) part) (request 0x04 (groupArgs g c)) [] .writeEntry .group 72) ∧
      argOf (request 0x04 (groupArgs 8 1)) 1 = 8 ∧ groupArg (argOf (request 0x04 (groupArgs 7 17)) 1) = some 7 ∧
      (parseGroupRecord (groupArgs 7 17)).isSome = true ∧ parseGroupRecord (List.replicate 72 0) = none ∧
      (atGroup 7 (groupIn .tracking) part).groups[7].enabled = true ∧ part.groups[7].enabled = false :=
  ⟨fun _ _ => head_names _ _ _ _ _ _ rfl (by decide) rfl (by simp [groupArgs, beBytes]) rfl
      (by simp [groupArgs, beBytes]),
    by decide +kernel, by decide +kernel, by decide +kernel, by decide +kernel, by decide +kernel, by decide +kernel⟩

/-- A write of one row that rises, of one that does not, and one whose argument length is one short. -/
theorem witness_LimitWritesGoToNextAlone :
    HeadNames (asks 0x04 [2, 7, 18, 1, 0, 1, 0, 2, 0, 3] part) (request 0x04 [2, 7, 18, 1, 0, 1, 0, 2, 0, 3]) []
        .writeEntry .limits 4 ∧
      HeadNames (asks 0x04 [2, 7, 18, 1, 0, 3, 0, 2, 0, 1] part) (request 0x04 [2, 7, 18, 1, 0, 3, 0, 2, 0, 1]) []
        .writeEntry .limits 4 ∧
      HeadNames (asks 0x04 [2, 7, 18, 1, 0, 1, 0, 2, 0] part) (request 0x04 [2, 7, 18, 1, 0, 1, 0, 2, 0]) []
        .writeEntry .limits 4 ∧
      groupArg 7 = some 7 ∧ rowsInRange 18 1 = true ∧ rowsInRange 18 2 = false ∧ groupArg 8 = none ∧
      (request 0x04 [2, 7, 18, 1, 0, 1, 0, 2, 0, 3]).argLen = 4 + 6 * 1 ∧
      (request 0x04 [2, 7, 18, 1, 0, 1, 0, 2, 0]).argLen < 4 + 6 * 1 ∧ live.groups[0].commitPending = true ∧
      part.groups[7].commitPending = false ∧
      limitRowArg [2, 7, 18, 1, 0, 1, 0, 2, 0, 3] 0 = ⟨1, 2, 3⟩ ∧
      limitRowArg [2, 7, 18, 1, 0, 3, 0, 2, 0, 1] 0 = ⟨3, 2, 1⟩ :=
  ⟨head_names _ _ _ _ _ _ rfl (by decide) rfl (by simp) rfl (by simp),
    head_names _ _ _ _ _ _ rfl (by decide) rfl (by simp) rfl (by simp),
    head_names _ _ _ _ _ _ rfl (by decide) rfl (by simp) rfl (by simp), rfl, rfl, rfl, rfl, rfl, by decide,
    by decide +kernel, by decide +kernel, by decide +kernel, by decide +kernel⟩

theorem witness_PartSettingsAreWrittenTogether :
    (∀ b : Byte, HeadNames (asks 0x04 [3, 0, b, 0, 0, 0, 0, 9, 49, 49, 0] part)
        (request 0x04 [3, 0, b, 0, 0, 0, 0, 9, 49, 49, 0]) [] .writeEntry .settings 11) ∧
      (be48 (request 0x04 [3, 0, 1, 0, 0, 0, 0, 9, 49, 49, 0]).body 2).getLsbD 40 = true ∧
      (be48 (request 0x04 [3, 0, 2, 0, 0, 0, 0, 9, 49, 49, 0]).body 2).getLsbD 40 = false :=
  ⟨fun _ => head_names _ _ _ _ _ _ rfl (by decide) rfl (by simp) rfl (by simp), by decide +kernel, by decide +kernel⟩

/-- A request whose one argument is group 7 heads its queue, at a part and at a part whose group 7 is TRACKING. -/
theorem group_request (code : Byte) (k : RequestCode) (hk : requestCode code = some k) :
    HeadAsks (asks code [7] part) (request code [7]) [] k 1 ∧
      HeadAsks (asks code [7] (atGroup 7 (groupIn .tracking) part)) (request code [7]) [] k 1 ∧
      groupArg (argOf (request code [7]) 0) = some 7 :=
  ⟨head_asks _ _ _ _ _ rfl (by decide) hk (by simp), head_asks _ _ _ _ _ rfl (by decide) hk (by simp), rfl⟩

/-- Group 7 is disabled in the one state and enabled in the other. -/
theorem group_states : part.groups[7].enabled = false ∧ (atGroup 7 (groupIn .tracking) part).groups[7].enabled = true := by
  decide +kernel

theorem witness_CommitLimitsIsTakenOrPends :
    HeadAsks (asks 0x05 [7] part) (request 0x05 [7]) [] .commitLimits 1 ∧ part.groups[7].enabled = false ∧
      (atGroup 7 (groupIn .tracking) part).groups[7].enabled = true :=
  ⟨(group_request 0x05 .commitLimits rfl).1, group_states⟩

theorem witness_GroupEnableStartsAnalysis :
    HeadAsks (asks 0x06 [1] enableable) (request 0x06 [1]) [] .groupEnable 1 ∧
      groupArg (argOf (request 0x06 [1]) 0) = some 1 ∧ enableable.groups[1].enabled = false ∧
      validate enableable.streams[enableable.groups[1].config.stream] enableable.groups[1].config = none ∧
      validate part.streams[part.groups[1].config.stream] part.groups[1].config = some ⟨1, none⟩ ∧
      (atGroup 7 (groupIn .tracking) part).groups[7].enabled = true :=
  ⟨head_asks _ _ _ _ _ rfl (by decide) rfl (by simp), rfl, by decide +kernel, by decide +kernel, by decide +kernel,
    group_states.2⟩

/-- The checks of R44 before `n` pass and check `n` fails. -/
def FirstFails (e : StreamEntry) (cfg : GroupRecord) (n : Nat) : Prop :=
  (∀ m : Nat, 1 ≤ m → m < n → RecordPasses e cfg m) ∧ ¬RecordPasses e cfg n

theorem none_below {e : StreamEntry} {cfg : GroupRecord} : ∀ m : Nat, 1 ≤ m → m < 1 → RecordPasses e cfg m :=
  fun _ a b => absurd a (Nat.not_le.mpr b)

theorem and_below {e : StreamEntry} {cfg : GroupRecord} {n : Nat} (h : ∀ m : Nat, 1 ≤ m → m < n → RecordPasses e cfg m)
    (hn : RecordPasses e cfg n) : ∀ m : Nat, 1 ≤ m → m < n + 1 → RecordPasses e cfg m := by
  intro m a b
  by_cases hm : m = n
  · exact hm ▸ hn
  · exact h m a (by omega)

/-- A record passes check 2 when its used slots name values below V. -/
theorem slots_pass (e : StreamEntry) (cfg : GroupRecord) (h : ∀ k : SlotIx, slotInRange e.valueCount cfg.slots[k] = true) :
    RecordPasses e cfg 2 := by
  intro k kind v hk
  have := h k
  rw [hk] at this
  exact of_decide_eq_true this

/-- A record passes check 5 when any two of its DC slots are one. -/
theorem one_dc_slot (e : StreamEntry) (cfg : GroupRecord)
    (h : ∀ (j k : SlotIx) (v w : Fin 8), cfg.slots[j] = .used .dc v → cfg.slots[k] = .used .dc w → j = k) :
    RecordPasses e cfg 5 := h

/-- A record for each check that can fail first: no valid stream, a value index of V, a DC reference slot, two DC slots,
an order whose frequency is half the rate, and a DC order without a DC slot. -/
theorem witness_GroupEnableStartsAnalysis_checks :
    FirstFails defaultStreamEntry twoSlots 1 ∧
      FirstFails entry4800 { twoSlots with slots := #v[.used .ac 0, .used .dc 4, .unused, .unused] } 2 ∧
      FirstFails entry4800 { twoSlots with refSlot := 1 } 3 ∧
      FirstFails entry4800 { twoSlots with slots := #v[.used .ac 0, .used .dc 1, .unused, .used .dc 2] } 5 ∧
      FirstFails entry4800 { twoSlots with orders := [⟨47, .ac⟩, ⟨48, .ac⟩] } 6 ∧
      FirstFails entry4800 { twoSlots with slots := #v[.used .ac 0, .unused, .unused, .unused], orders := [⟨1, .dc⟩] } 6 := by
  refine ⟨⟨none_below, fun h => by cases h⟩,
    ⟨and_below none_below rfl, fun h => absurd (h 1 .dc 4 rfl) (by decide)⟩,
    ⟨and_below (and_below none_below rfl) (slots_pass _ _ (by decide +kernel)), fun ⟨v, hv⟩ => by cases hv⟩,
    ⟨and_below (and_below (and_below (and_below none_below rfl) (slots_pass _ _ (by decide +kernel))) ⟨0, rfl⟩) ⟨0, 0, rfl⟩,
      fun h => absurd (h 1 3 1 2 rfl rfl) (by decide)⟩,
    ⟨and_below (and_below (and_below (and_below (and_below none_below rfl) (slots_pass _ _ (by decide +kernel))) ⟨0, rfl⟩)
        ⟨0, 0, rfl⟩) (one_dc_slot _ _ (by decide +kernel)), fun h => absurd (h ⟨48, .ac⟩ (by decide)).1 (by decide)⟩,
    ⟨and_below (and_below (and_below (and_below (and_below none_below rfl) (slots_pass _ _ (by decide +kernel))) ⟨0, rfl⟩)
        ⟨0, 0, rfl⟩) (one_dc_slot _ _ (by decide +kernel)), fun h => ?_⟩⟩
  obtain ⟨k, v, hk⟩ := ((h ⟨1, .dc⟩ (by decide)).2.2 rfl).2
  revert k v
  decide +kernel

theorem witness_GroupDisableEndsAnalysis :
    HeadAsks (asks 0x07 [7] (atGroup 7 (groupIn .tracking) part)) (request 0x07 [7]) [] .groupDisable 1 ∧
      part.groups[7].enabled = false ∧ (atGroup 7 (groupIn .tracking) part).groups[7].enabled = true ∧
      live.groups[0].commitPending = true ∧ (atGroup 7 (groupIn .tracking) part).groups[7].commitPending = false :=
  ⟨(group_request 0x07 .groupDisable rfl).2.1, group_states.1, group_states.2, by decide +kernel, by decide +kernel⟩

/-- The engine idle, busy with the group and busy with another, with the group between others in the wait list; a slot of
the group's ARMED, FILLING and HELD, and none. -/
theorem witness_GroupDisableEndsAnalysis_ends :
    let queued (e : Option GroupId) : State := { live with engine := e, waitList := [2, 7, 3] }
    ((queued none).engine = none ∧ (queued (some 7)).engine = some 7 ∧ (queued (some 1)).engine ≠ some 7) ∧
      (queued none).waitList.filter (fun h => decide (h ≠ 7)) = [2, 3] ∧
      (live.captures.slots[0].owner = some 0 ∧ live.captures.slots[other 0].owner ≠ some 0 ∧
        live.captures.slots[0].state = .armed) ∧
      (fillingSlots.slots[0].owner = some 0 ∧ fillingSlots.slots[0].state = .filling) ∧
      (fullSlots.slots[1].owner = some 0 ∧ fullSlots.slots[other 1].owner ≠ some 0 ∧ fullSlots.slots[1].state = .held) ∧
      ∀ j : CaptureIx, live.captures.slots[j].owner ≠ some 7 := by
  decide +kernel

/-- Arguments at and past the ends of their ranges, and selectors whose pair is kept and is not, at an AC and at a DC
slot. -/
theorem witness_RecordsAreReadAndCleared :
    (∀ b : Byte, HeadAsks (asks 0x08 [b] part) (request 0x08 [b]) [] .readResult 1) ∧
      (∀ b : Byte, HeadAsks (asks 0x0A [b] part) (request 0x0A [b]) [] .clearFirst 1) ∧
      (groupArg (argOf (request 0x08 [7]) 0) = some 7 ∧ argOf (request 0x08 [8]) 0 = 8 ∧
        groupArg (argOf (request 0x0A [7]) 0) = some 7 ∧ argOf (request 0x0A [8]) 0 = 8) ∧
      (∀ a b c d : Byte, HeadAsks (asks 0x10 [a, b, c, d] part) (request 0x10 [a, b, c, d]) [] .readArray 4) ∧
      (groupArg 7 = some 7 ∧ twoArg 1 = some 1 ∧ slotArg 3 = some 3 ∧ selectorArg 15 = some (.position 15) ∧
        selectorArg 255 = some .fundamental) ∧
      (argOf (request 0x10 [8, 0, 0, 0]) 0 = 8 ∧ argOf (request 0x10 [0, 2, 0, 0]) 1 = 2 ∧
        argOf (request 0x10 [0, 0, 4, 0]) 2 = 4 ∧ argOf (request 0x10 [0, 0, 0, 16]) 3 = 16) ∧
      (part.groups[7].config.slots[(3 : SlotIx)] = .unused ∧ configEx.slots[(0 : SlotIx)] = .used .ac 0 ∧
        configEx.slots[(1 : SlotIx)] = .used .dc 1 ∧ configEx.orders[7]? = some ⟨12, .dc⟩ ∧
        configEx.orders[0]? = some ⟨5, .ac⟩ ∧ configEx.orders[8]? = none) :=
  ⟨fun _ => head_asks _ _ _ _ _ rfl (by decide) rfl (by simp), fun _ => head_asks _ _ _ _ _ rfl (by decide) rfl (by simp),
    ⟨rfl, rfl, rfl, rfl⟩, fun _ _ _ _ => head_asks _ _ _ _ _ rfl (by decide) rfl (by simp), ⟨rfl, rfl, rfl, rfl, rfl⟩,
    ⟨rfl, rfl, rfl, rfl⟩, by decide +kernel⟩

theorem witness_ReleaseTripReturnsTheLevel :
    HeadAsks (asks 0x0B [0] (atGroup 0 (trippedGroup 3 .trip) part)) (request 0x0B [0]) [] .releaseTrip 1 ∧
      HeadAsks (asks 0x0B [0] (atGroup 0 (trippedGroup 3 .alert) part)) (request 0x0B [0]) [] .releaseTrip 1 ∧
      groupArg (argOf (request 0x0B [0]) 0) = some 0 ∧ part.groups[0].levelUnit.level ≠ .tripped ∧
      (atGroup 0 (trippedGroup 3 .trip) part).groups[0].levelUnit.level = .tripped ∧
      (atGroup 0 (trippedGroup 3 .trip) part).groups[0].result = some { recordEx with level := .trip } ∧
      (atGroup 0 (trippedGroup 3 .alert) part).groups[0].result = some { recordEx with level := .alert } :=
  ⟨head_asks _ _ _ _ _ rfl (by decide) rfl (by simp), head_asks _ _ _ _ _ rfl (by decide) rfl (by simp), rfl,
    by decide +kernel, by decide +kernel, rfl, rfl⟩

/-- A slot that the group owns with the auto mark, with 2 holds and with 1, and one that it owns without the mark. -/
theorem witness_ReleaseTripReturnsTheLevel_hold :
    let held (n : Nat) : Captures := { slots := #v[{ armedSlot 0 .trip with holds := n, auto := true }, CaptureSlot.free],
                                       marker := 0 }
    ((held 2).slots[0].owner = some 0 ∧ (held 2).slots[other 0].owner ≠ some 0 ∧ (held 2).slots[0].auto = true ∧
        (held 2).slots[0].holds = 2 ∧ (held 1).slots[0].holds = 1) ∧
      (fullSlots.slots[1].owner = some 0 ∧ ∀ j : CaptureIx, fullSlots.slots[j].owner = some 0 →
        fullSlots.slots[j].auto = false) := by
  decide +kernel

theorem witness_SnapClaimsOneSlot :
    CapturesLawful (oneSlot 14) ∧ CapturesLawful (oneSlot 15) ∧ CapturesLawful fullSlots ∧ CapturesLawful part.captures ∧
      HeadAsks (asks 0x0C [3] (capturing (oneSlot 15))) (request 0x0C [3]) [] .snap 1 ∧
      groupArg (argOf (request 0x0C [3]) 0) = some 3 ∧ part.groups[3].enabled = false ∧
      (capturing (oneSlot 15)).groups[3].enabled = true ∧
      ((oneSlot 15).slots[0].owner = some 3 ∧ (oneSlot 15).slots[0].holds = 15 ∧ (oneSlot 14).slots[0].holds < 15) ∧
      ((∀ i : CaptureIx, fullSlots.slots[i].owner ≠ some 5) ∧ (∀ i : CaptureIx, fullSlots.slots[i].state ≠ .free)) ∧
      ((∀ i : CaptureIx, (oneSlot 2).slots[i].owner ≠ some 5) ∧ (oneSlot 2).slots[1].state = .free ∧
        (oneSlot 2).slots[other 1].state ≠ .free) ∧
      part.captures.slots[0].state = .free ∧ part.captures.slots[1].state = .free ∧ part.captures.marker = 0 := by
  refine ⟨?_, ?_, ?_, ?_, head_asks _ _ _ _ _ rfl (by decide) rfl (by simp), rfl, by decide +kernel, by decide +kernel,
    by decide +kernel, by decide +kernel, by decide +kernel, by decide +kernel, by decide +kernel, by decide +kernel⟩ <;>
  · unfold CapturesLawful SlotLawful
    decide +kernel

theorem witness_CaptureSlotsAreHeldReleasedAndRead :
    (∀ b : Byte, HeadAsks (asks 0x0D [b] part) (request 0x0D [b]) [] .holdCapture 1) ∧
      (∀ b : Byte, HeadAsks (asks 0x0E [b] part) (request 0x0E [b]) [] .releaseCapture 1) ∧
      (∀ a b c d : Byte, HeadAsks (asks 0x0F [a, b, c, d] part) (request 0x0F [a, b, c, d]) [] .readCapture 4) ∧
      (argOf (request 0x0D [2]) 0 = 2 ∧ twoArg 1 = some 1 ∧ slotArg 3 = some 3 ∧ argOf (request 0x0F [0, 4, 0, 0]) 1 = 4) ∧
      part.captures.slots[(0 : CaptureIx)].state = .free ∧
      ((oneSlot 15).slots[(0 : CaptureIx)].state ≠ .free ∧ (oneSlot 15).slots[(0 : CaptureIx)].holds = 15 ∧
        (oneSlot 14).slots[(0 : CaptureIx)].holds = 14 ∧ (oneSlot 2).slots[(0 : CaptureIx)].holds = 2 ∧
        (oneSlot 1).slots[(0 : CaptureIx)].holds = 1) ∧
      (part.captures.slots[(0 : CaptureIx)].state ≠ .held ∧ (oneSlot 1).slots[(0 : CaptureIx)].state = .held ∧
        (oneSlot 1).slots[(0 : CaptureIx)].count = 300 ∧ beNat [0, 0, 0x01, 0x2C] 2 2 = 300 ∧
        beNat [0, 0, 0x01, 0x2B] 2 2 = 299 ∧ (oneSlot 1).slots[(0 : CaptureIx)].map[(3 : SlotIx)] = .unused ∧
        (oneSlot 1).slots[(0 : CaptureIx)].map[(1 : SlotIx)] ≠ .unused) :=
  ⟨fun _ => head_asks _ _ _ _ _ rfl (by decide) rfl (by simp), fun _ => head_asks _ _ _ _ _ rfl (by decide) rfl (by simp),
    fun _ _ _ _ => head_asks _ _ _ _ _ rfl (by decide) rfl (by simp), ⟨rfl, rfl, rfl, rfl⟩, by decide +kernel,
    by decide +kernel, by decide +kernel⟩

theorem witness_ReadEventsRemovesTheOldestRecords :
    ∀ b : Byte, HeadAsks (asks 0x09 [b] live) (request 0x09 [b]) [] .readEvents 1 :=
  fun _ => head_asks _ _ _ _ _ rfl (by decide) rfl (by simp)

theorem witness_StoreConfigTakesASnapshot :
    HeadAsks (asks 0x11 [] part) (request 0x11 []) [] .storeConfig 0 ∧ part.store.snapshot = none ∧
      HeadAsks (asks 0x11 [] storing) (request 0x11 []) [] .storeConfig 0 ∧ storing.store.snapshot ≠ none :=
  ⟨head_asks _ _ _ _ _ rfl (by decide) rfl (by decide), rfl, head_asks _ _ _ _ _ rfl (by decide) rfl (by decide),
    fun h => (nomatch h)⟩

theorem witness_RestartReturnsTheAnalysis :
    AnalysisLawful (asks 0x12 [] live) ∧ HeadAsks (asks 0x12 [] live) (request 0x12 []) [] .restartAnalysis 0 ∧
      live.groups[0].enabled = true ∧ live.groups[0].commitPending = true ∧ live.groups[7].enabled = false := by
  refine ⟨?_, head_asks _ _ _ _ _ rfl (by decide) rfl (by decide), by decide +kernel, by decide +kernel,
    by decide +kernel⟩
  unfold AnalysisLawful SetsLawful HasSet SetState.isClosed
  decide +kernel

/-- Both slots to be freed, the first alone, and neither. -/
theorem witness_RestartReturnsTheAnalysis_captures :
    let first : Captures := { fillingSlots with slots := upd fillingSlots.slots 1 (heldSlot 1 2 52) }
    (fillingSlots.slots[0].state = .filling ∧ fillingSlots.slots[1].state = .armed) ∧
      (first.slots[0].state = .filling ∧ first.slots[1].state = .held) ∧
      (fullSlots.slots[0].state = .held ∧ fullSlots.slots[1].state = .held) ∧ part.captures.slots[0].state = .free := by
  decide +kernel

end Sys2Proof.Tests
end

section
/-! The Event Queue through the acts at one group: every act creates records and does nothing else to the queue
(R147 to R150). -/

namespace Sys2Proof.Machine

/-- The Event Queue `q'` is `q` after records were created in it, one by one (R148 to R150). -/
inductive EventsCreated (q : EventQueue) : EventQueue → Prop where
  | refl : EventsCreated q q
  | step {q' : EventQueue} (h : EventsCreated q q') (n : BitVec 32) (e : Event) (d : Option (BitVec 16)) :
      EventsCreated q (createEvent n e d q')

/-- The capacity of R149 holds after any creations. -/
theorem EventsCreated.length_le {q q' : EventQueue} (h : EventsCreated q q') (hq : q.records.length ≤ 64) :
    q'.records.length ≤ 64 := by
  induction h with
  | refl => exact hq
  | step _ n e d ih => exact createEvent_length_le n e d _ ih

section
variable {q : EventQueue} {v : GroupView} (c : GroupContext)

theorem raiseEvent_events (e : Event) (d : Option (BitVec 16)) (h : EventsCreated q v.events) :
    EventsCreated q (raiseEvent c e d v).events := .step h ..

theorem enterTiming_events (t : Timing) (h : EventsCreated q v.events) :
    EventsCreated q (enterTiming c t v).events := .step h ..

/-! ## Windows and commits -/

theorem takeCommit_events (w : Option (BitVec 32)) (h : EventsCreated q v.events) :
    EventsCreated q (takeCommit c w v).events := .step h ..

theorem takePending_events (w : Option (BitVec 32)) (h : EventsCreated q v.events) :
    EventsCreated q (takePending c w v).events := by
  unfold takePending
  split
  · exact takeCommit_events c w h
  · exact h

theorem captureClose_events (h : EventsCreated q v.events) : EventsCreated q (captureClose c v).events := by
  unfold captureClose
  split
  · exact .step h ..
  · exact h

theorem closeSets_events (i : SetIx) (follows : Bool) (h : EventsCreated q v.events) :
    EventsCreated q (closeSets c i follows v).events := by
  simp only [closeSets]
  split
  · exact h
  · exact .step h ..

theorem closeWindow_events (follows : Bool) (h : EventsCreated q v.events) :
    EventsCreated q (closeWindow c follows v).events := by
  obtain ⟨_, hw⟩ | ⟨i, _, hw⟩ := closeWindow_cases c follows v
  · rwa [hw]
  · rw [hw]
    apply captureClose_events
    apply takePending_events
    exact closeSets_events c i follows h

theorem abortWindow_events (reason : AbortReason) (follows : Bool) (h : EventsCreated q v.events) :
    EventsCreated q (abortWindow c reason follows v).events := by
  unfold abortWindow
  split
  · exact .step h ..
  · exact h

theorem dropWaitingSet_events (h : EventsCreated q v.events) : EventsCreated q (dropWaitingSet v).events := by
  unfold dropWaitingSet
  split <;> exact h

/-! ## Samples -/

theorem openTracking_events (seq : Nat) (x : Sample) (h : EventsCreated q v.events) :
    EventsCreated q (openTracking c seq x v).events := h

theorem beginTracking_events (seq : Nat) (x : Sample) (h : EventsCreated q v.events) :
    EventsCreated q (beginTracking c seq x v).events := by
  apply openTracking_events
  exact enterTiming_events c .tracking h

theorem enterAcquiring_events (h : EventsCreated q v.events) : EventsCreated q (enterAcquiring c v).events :=
  enterTiming_events c .acquiring h

theorem enterHoldover_events (h : EventsCreated q v.events) : EventsCreated q (enterHoldover c v).events :=
  enterTiming_events c .holdover h

theorem acquiringSample_events (seq : Nat) (x : Sample) (w : Verdict) (h : EventsCreated q v.events) :
    EventsCreated q (acquiringSample c seq x w v).events := by
  simp only [acquiringSample]
  split
  · exact beginTracking_events c seq x h
  · split
    · exact enterHoldover_events c h
    · exact h

theorem acceptedCycle_events (seq : Nat) (x : Sample) (len : Nat) (h : EventsCreated q v.events) :
    EventsCreated q (acceptedCycle c seq x len v).events := by
  simp only [acceptedCycle]
  split
  · apply openTracking_events
    exact closeWindow_events c true h
  · exact h

theorem trackingSample_events (seq : Nat) (x : Sample) (w : Verdict) (h : EventsCreated q v.events) :
    EventsCreated q (trackingSample c seq x w v).events := by
  have lost : EventsCreated q (enterHoldover c (abortWindow c .timingLoss true v)).events :=
    enterHoldover_events c (abortWindow_events c .timingLoss true h)
  cases w with
  | none => exact h
  | accepted len => exact acceptedCycle_events c seq x len h
  | early => exact lost
  | late => exact lost

theorem closeHoldover_events (h : EventsCreated q v.events) : EventsCreated q (closeHoldover c v).events := by
  simp only [closeHoldover]
  split
  · exact enterTiming_events c .aligning (closeWindow_events c false h)
  · exact closeWindow_events c true h

theorem holdoverSample_events (seq : Nat) (x : Sample) (h : EventsCreated q v.events) :
    EventsCreated q (holdoverSample c seq x v).events := by
  have opened : EventsCreated q (if v.grp.tracker.winSamples = 0 then openWindow c .holdover seq v else v).events := by
    split <;> exact h
  dsimp only [holdoverSample]
  generalize (if v.grp.tracker.winSamples = 0 then openWindow c .holdover seq v else v) = v1 at opened ⊢
  split
  · exact closeHoldover_events c opened
  · exact opened

theorem aligningSample_events (seq : Nat) (x : Sample) (crossing : Bool) (w : Verdict) (h : EventsCreated q v.events) :
    EventsCreated q (aligningSample c seq x crossing w v).events := by
  unfold aligningSample
  split
  · exact beginTracking_events c seq x h
  · split
    · exact holdoverSample_events c seq x (enterHoldover_events c h)
    · exact h

theorem handleSample_events (seq : Nat) (x : Sample) (h : EventsCreated q v.events) :
    EventsCreated q (handleSample c seq x v).events := by
  have tracked : EventsCreated q { v with grp := trackSample c x v.grp }.events := h
  dsimp only [handleSample]
  generalize { v with grp := trackSample c x v.grp } = v1 at tracked ⊢
  split
  · exact tracked
  · exact tracked
  · exact acquiringSample_events c seq x _ tracked
  · exact trackingSample_events c seq x _ tracked
  · exact holdoverSample_events c seq x tracked
  · exact aligningSample_events c seq x _ _ tracked

/-! ## Passes and silence notices -/

theorem handleInstant_events (e : QueueEntry) (i : Instant) (h : EventsCreated q v.events) :
    EventsCreated q (handleInstant c e v i).events := by
  cases i with
  | held seq => exact handleSample_events c seq _ h
  | real seq => exact handleSample_events c seq _ (v := onTracker _ v) h

theorem instants_events (e : QueueEntry) (l : List Instant) (h : EventsCreated q v.events) :
    EventsCreated q (l.foldl (handleInstant c e) v).events := by
  induction l generalizing v with
  | nil => exact h
  | cons i l ih => exact ih (handleInstant_events c e i h)

theorem largeGap_events (h : EventsCreated q v.events) : EventsCreated q (largeGap c v).events := by
  simp only [largeGap]
  split
  · exact enterAcquiring_events c (abortWindow_events c .gap false h)
  · exact enterAcquiring_events c h
  · exact h
  · split
    · exact abortWindow_events c .gap true h
    · exact h
  · exact h
  · exact h

theorem beginPass_events (e : QueueEntry) (h : EventsCreated q v.events) :
    EventsCreated q (beginPass c e v).events := by
  have returned : EventsCreated q (if v.grp.tracker.timing = .noSignal then enterAcquiring c v else v).events := by
    split
    · exact enterAcquiring_events c h
    · exact h
  dsimp only [beginPass]
  generalize (if v.grp.tracker.timing = .noSignal then enterAcquiring c v else v) = v1 at returned ⊢
  split
  · exact largeGap_events c returned
  · exact returned

theorem passEntry_events (e : QueueEntry) (h : EventsCreated q v.events) :
    EventsCreated q (passEntry c e v).events :=
  instants_events c e (instantsOf c e v.grp) (beginPass_events c e h)

theorem silenceNotice_events (h : EventsCreated q v.events) : EventsCreated q (silenceNotice c v).events := by
  have ended : EventsCreated q
      (if windowOpen v.grp.tracker then abortWindow c .silence false v
        else if v.grp.tracker.timing = .holdover then dropWaitingSet v else v).events := by
    split
    · exact abortWindow_events c .silence false h
    · split
      · exact dropWaitingSet_events h
      · exact h
  dsimp only [silenceNotice]
  generalize (if windowOpen v.grp.tracker then abortWindow c .silence false v
    else if v.grp.tracker.timing = .holdover then dropWaitingSet v else v) = v1 at ended ⊢
  split
  · exact ended
  · exact enterTiming_events c .noSignal ended

/-! ## Enables, disables, restarts, releases and completions -/

theorem enableView_events (active : Bool) (h : EventsCreated q v.events) :
    EventsCreated q (enableView active c v).events := .step (.step h ..) ..

theorem disableView_events (h : EventsCreated q v.events) : EventsCreated q (disableView c v).events := by
  apply raiseEvent_events
  apply raiseEvent_events
  exact takePending_events c none (v := endAccumulation c v) h

theorem restartView_events (h : EventsCreated q v.events) : EventsCreated q (restartView c v).events := by
  have committed := takePending_events c none h
  dsimp only [restartView]
  split
  · exact committed
  · exact raiseEvent_events c _ _ committed

theorem releaseView_events (h : EventsCreated q v.events) : EventsCreated q (releaseView c v).events :=
  raiseEvent_events c _ _ h

theorem autoCapture_events (n : BitVec 32) (h : EventsCreated q v.events) :
    EventsCreated q (autoCapture c n v).events := by
  unfold autoCapture
  split
  · exact h
  · exact raiseEvent_events c _ _ h

theorem levelWindow_events (r : ResultRecord) (h : EventsCreated q v.events) :
    EventsCreated q (levelWindow c r v).events := by
  dsimp only [levelWindow]
  split
  · exact h
  · split
    · exact autoCapture_events c _ (raiseEvent_events c _ _ h)
    · exact raiseEvent_events c _ _ h

theorem completeAtGroup_events (r : ResultRecord) (i : SetIx) (h : EventsCreated q v.events) :
    EventsCreated q (completeAtGroup r i c v).events :=
  levelWindow_events c r (v := { v with grp := storeResult r i v.grp }) h

end

end Sys2Proof.Machine
end

section
/-! What the acts of the analysis and of the time leave of the traffic: the ports, the two FIFOs and the queues of the
Management Unit as they stood, and no queue above its capacity (R10, R36, R149, R173, R175, R183). -/

namespace Sys2Proof.Machine

/-- From `s` to `t` the switch, the frame path, the request queue and the answer queue stay, and the report queue, the
Analysis Queue and the Event Queue stay within their capacities. -/
structure KeepsTraffic (s t : State) : Prop where
  switch : t.switch = s.switch
  path : t.path = s.path
  requests : t.mgmt.requests = s.mgmt.requests
  answers : t.mgmt.answers = s.mgmt.answers
  reports : s.mgmt.reports.length ≤ 8 → t.mgmt.reports.length ≤ 8
  entries : s.queue.entries.length ≤ 48 → t.queue.entries.length ≤ 48
  events : s.events.records.length ≤ 64 → t.events.records.length ≤ 64

/-- From `s` to `t` the traffic stays, and so do the whole Management Unit, the depth of the Analysis Queue and what the
Result Engine is at: what the acts leave that the time makes due. -/
structure KeepsWork (s t : State) : Prop where
  switch : t.switch = s.switch
  path : t.path = s.path
  mgmt : t.mgmt = s.mgmt
  depth : t.queue.entries.length = s.queue.entries.length
  engine : t.engine = s.engine
  waitList : t.waitList = s.waitList
  events : s.events.records.length ≤ 64 → t.events.records.length ≤ 64

namespace KeepsTraffic

theorem refl (s : State) : KeepsTraffic s s := ⟨rfl, rfl, rfl, rfl, id, id, id⟩

theorem trans {s t u : State} (h : KeepsTraffic s t) (k : KeepsTraffic t u) : KeepsTraffic s u where
  switch := k.switch.trans h.switch
  path := k.path.trans h.path
  requests := k.requests.trans h.requests
  answers := k.answers.trans h.answers
  reports := k.reports ∘ h.reports
  entries := k.entries ∘ h.entries
  events := k.events ∘ h.events

theorem queuesBounded {s t : State} (h : KeepsTraffic s t) (hs : QueuesBounded s) : QueuesBounded t := by
  obtain ⟨hforward, hreverse, hentries, hevents, hrequests, hanswers, hreports⟩ := hs
  exact ⟨h.path ▸ hforward, h.path ▸ hreverse, h.entries hentries, h.events hevents, h.requests ▸ hrequests,
    h.answers ▸ hanswers, h.reports hreports⟩

end KeepsTraffic

namespace KeepsWork

theorem refl (s : State) : KeepsWork s s := ⟨rfl, rfl, rfl, rfl, rfl, rfl, id⟩

theorem trans {s t u : State} (h : KeepsWork s t) (k : KeepsWork t u) : KeepsWork s u where
  switch := k.switch.trans h.switch
  path := k.path.trans h.path
  mgmt := k.mgmt.trans h.mgmt
  depth := k.depth.trans h.depth
  engine := k.engine.trans h.engine
  waitList := k.waitList.trans h.waitList
  events := k.events ∘ h.events

/-- A fold of acts keeps what each of them keeps. -/
theorem foldl {α : Type} {f : State → α → State} (h : ∀ s a, KeepsWork s (f s a)) (l : List α) (s : State) :
    KeepsWork s (l.foldl f s) :=
  List.foldlRecOn l f (refl s) fun u hu a _ => hu.trans (h u a)

theorem keepsTraffic {s t : State} (h : KeepsWork s t) : KeepsTraffic s t where
  switch := h.switch
  path := h.path
  requests := h.mgmt ▸ rfl
  answers := h.mgmt ▸ rfl
  reports hs := h.mgmt ▸ hs
  entries hs := h.depth ▸ hs
  events := h.events

theorem bypassQuiet {s t : State} (h : KeepsWork s t) (hs : BypassQuiet s) : BypassQuiet t := by
  intro hb
  obtain ⟨ha, hb, hforward, hreverse, hrequests, hanswers, hreports, hentries, hengine, hwait⟩ := hs (h.switch ▸ hb)
  refine ⟨h.path ▸ ha, h.path ▸ hb, h.path ▸ hforward, h.path ▸ hreverse, h.mgmt ▸ hrequests, h.mgmt ▸ hanswers,
    h.mgmt ▸ hreports, List.eq_nil_of_length_eq_zero ?_, h.engine.trans hengine, h.waitList.trans hwait⟩
  rw [h.depth, hentries, List.length_nil]

end KeepsWork

/-! ## The shared operations -/

theorem raiseAt_keepsWork (e : Event) (s : State) : KeepsWork s (raiseAt e s) :=
  ⟨rfl, rfl, rfl, rfl, rfl, rfl, createEvent_length_le _ _ _ _⟩

theorem setSupervision_keepsWork (i : StreamId) (r : Supervision) (s : State) :
    KeepsWork s (setSupervision i r s) := ⟨rfl, rfl, rfl, rfl, rfl, rfl, id⟩

/-- An act at a group that only creates records. -/
theorem actOn_keepsTraffic {f : GroupContext → GroupView → GroupView}
    (hf : ∀ c v, EventsCreated v.events (f c v).events) (g : GroupId) (s : State) : KeepsTraffic s (actOn s g f) :=
  ⟨rfl, rfl, rfl, rfl, id, id, (hf (contextOf s g) (viewGroup s g)).length_le⟩

theorem engineTake_keepsTraffic (s : State) : KeepsTraffic s (engineTake s) := by
  obtain ⟨hpath, hmgmt, hqueue, _, _, hevents, _, _, hswitch, _⟩ := engineTake_frame s
  exact ⟨hswitch, hpath, by rw [hmgmt], by rw [hmgmt], by rw [hmgmt]; exact id, by rw [hqueue]; exact id,
    by rw [hevents]; exact id⟩

theorem endEvaluation_keepsTraffic (g : GroupId) (s : State) : KeepsTraffic s (endEvaluation g s) := by
  unfold endEvaluation
  split
  · exact ⟨rfl, rfl, rfl, rfl, id, id, id⟩
  · exact .refl s

/-! ## Silence and the rate check -/

theorem abortWindow_waitList (c : GroupContext) (reason : AbortReason) (follows : Bool) (v : GroupView) :
    (abortWindow c reason follows v).waitList = v.waitList := by
  unfold abortWindow
  split <;> rfl

theorem dropWaitingSet_waitList (v : GroupView) : (dropWaitingSet v).waitList = v.waitList := by
  unfold dropWaitingSet
  split <;> rfl

theorem silenceNotice_waitList (c : GroupContext) (v : GroupView) : (silenceNotice c v).waitList = v.waitList := by
  have ended : (if windowOpen v.grp.tracker then abortWindow c .silence false v
      else if v.grp.tracker.timing = .holdover then dropWaitingSet v else v).waitList = v.waitList := by
    split
    · exact abortWindow_waitList ..
    · split
      · exact dropWaitingSet_waitList v
      · rfl
  dsimp only [silenceNotice]
  generalize (if windowOpen v.grp.tracker then abortWindow c .silence false v
    else if v.grp.tracker.timing = .holdover then dropWaitingSet v else v) = v1 at ended ⊢
  split <;> exact ended

theorem deliverNotice_keepsWork (i : StreamId) (s : State) : KeepsWork s (deliverNotice i s) := by
  refine .foldl (fun s g => ?_) groupIxs s
  unfold noticeGroup
  split
  · have created := silenceNotice_events (contextOf s g) (v := viewGroup s g) .refl
    exact ⟨rfl, rfl, rfl, rfl, rfl, silenceNotice_waitList .., created.length_le⟩
  · exact .refl s

theorem placeNotice_keepsWork (i : StreamId) (s : State) : KeepsWork s (placeNotice i s) := by
  unfold placeNotice
  split
  · exact ⟨rfl, rfl, rfl, rfl, rfl, rfl, id⟩
  · split
    · exact ⟨rfl, rfl, rfl, markNewest_length .., rfl, rfl, id⟩
    · exact deliverNotice_keepsWork i s

theorem takeDeadline_keepsWork (s : State) (i : StreamId) : KeepsWork s (takeDeadline s i) := by
  unfold takeDeadline
  split
  · exact ((setSupervision_keepsWork ..).trans (raiseAt_keepsWork ..)).trans (placeNotice_keepsWork ..)
  · exact .refl s

theorem rateCheckAt_keepsWork (s : State) (i : StreamId) : KeepsWork s (rateCheckAt s i) := by
  unfold rateCheckAt
  dsimp only
  refine .trans ?_ (setSupervision_keepsWork ..)
  split
  · exact .refl s
  · exact raiseAt_keepsWork ..

theorem takeRateCheck_keepsWork (s : State) : KeepsWork s (takeRateCheck s) := by
  have withdrawn : KeepsWork s { s with rateDue := false } := ⟨rfl, rfl, rfl, rfl, rfl, rfl, id⟩
  unfold takeRateCheck
  split
  · exact withdrawn.trans (.foldl rateCheckAt_keepsWork streamIxs _)
  · exact .refl s

/-! ## The store and the timer -/

theorem completeStore_keepsWork (s : State) : KeepsWork s (completeStore s) := by
  unfold completeStore
  split
  · exact ⟨rfl, rfl, rfl, rfl, rfl, rfl, createEvent_length_le _ _ _ _⟩
  · exact .refl s

theorem faultStore_keepsWork (s : State) : KeepsWork s (faultStore s) := by
  unfold faultStore
  split
  · exact ⟨rfl, rfl, rfl, rfl, rfl, rfl, createEvent_length_le _ _ _ _⟩
  · exact .refl s

theorem storeTimeOut_keepsWork (s : State) : KeepsWork s (storeTimeOut s) := by
  unfold storeTimeOut
  split
  · exact faultStore_keepsWork s
  · exact .refl s

theorem countTimer_keepsWork (s : State) : KeepsWork s (countTimer s) := ⟨rfl, rfl, rfl, rfl, rfl, rfl, id⟩

theorem countRate_keepsWork (s : State) : KeepsWork s (countRate s) := by
  unfold countRate
  split <;> exact ⟨rfl, rfl, rfl, rfl, rfl, rfl, id⟩

/-! ## Arrivals, passes, evaluations and enables -/

theorem intakeFrame_keepsTraffic (i : StreamId) (l : List Byte) (s : State) : KeepsTraffic s (intakeFrame i l s) := by
  unfold intakeFrame
  split
  · exact ⟨rfl, rfl, rfl, rfl, id, offerEntry_length_le _ _ _, id⟩
  · exact .refl s

theorem rangeFrame_keepsWork (i : StreamId) (s : State) : KeepsWork s (rangeFrame i s) := by
  unfold rangeFrame
  dsimp only
  refine .trans ?_ (setSupervision_keepsWork ..)
  split
  · exact .refl s
  · exact raiseAt_keepsWork ..

theorem activeFrame_keepsTraffic (i : StreamId) (l : List Byte) (s : State) :
    KeepsTraffic s (activeFrame i l s) := by
  unfold activeFrame
  dsimp only
  split
  · exact (setSupervision_keepsWork ..).keepsTraffic.trans (intakeFrame_keepsTraffic ..)
  · exact (setSupervision_keepsWork ..).keepsTraffic

theorem superviseFrame_keepsTraffic (i : StreamId) (l : List Byte) (s : State) :
    KeepsTraffic s (superviseFrame i l s) := by
  unfold superviseFrame
  split
  · exact (rangeFrame_keepsWork i s).keepsTraffic
  · split
    · exact activeFrame_keepsTraffic i l s
    · exact ((setSupervision_keepsWork ..).trans (raiseAt_keepsWork ..)).keepsTraffic.trans
        (intakeFrame_keepsTraffic ..)

theorem finishEntry_keepsTraffic (e : QueueEntry) (s : State) : KeepsTraffic s (finishEntry e s) := by
  have removed (u : State) : KeepsTraffic u { u with queue := removeHead u.settings u.queue } :=
    ⟨rfl, rfl, rfl, rfl, id, by simp; omega, id⟩
  unfold finishEntry
  dsimp only
  refine .trans ?_ (removed _)
  split
  · exact (deliverNotice_keepsWork e.stream s).keepsTraffic
  · exact .refl s

theorem leaveIfDone_keepsTraffic (e : QueueEntry) (s : State) : KeepsTraffic s (leaveIfDone e s) := by
  unfold leaveIfDone
  split
  · exact .refl s
  · exact finishEntry_keepsTraffic e s

theorem passGroup_keepsTraffic (e : QueueEntry) (g : GroupId) (s : State) : KeepsTraffic s (passGroup e g s) := by
  have served (u : State) : KeepsTraffic u { u with queue := { u.queue with served := u.queue.served ++ [g] } } :=
    ⟨rfl, rfl, rfl, rfl, id, id, id⟩
  exact ((actOn_keepsTraffic (fun c _ => passEntry_events c e .refl) g s).trans (engineTake_keepsTraffic _)).trans
    (served _)

theorem applyAt_keepsTraffic (g : GroupId) (s : State) : KeepsTraffic s (applyAt g s) := by
  unfold applyAt
  split
  · exact .refl s
  · refine .trans ?_ (leaveIfDone_keepsTraffic ..)
    split
    · exact passGroup_keepsTraffic _ g s
    · exact .refl s

theorem offerReport_keepsTraffic (g : GroupId) (r : ResultRecord) (s : State) :
    KeepsTraffic s (offerReport g r s) := by
  unfold offerReport
  dsimp only
  split
  · exact ⟨rfl, rfl, rfl, rfl, id, id, id⟩
  · split
    · rename_i room
      exact ⟨rfl, rfl, rfl, rfl, fun _ => by simp at room ⊢; omega, id, id⟩
    · exact ⟨rfl, rfl, rfl, rfl, id, id, id⟩

theorem completeEvaluation_keepsTraffic (s : State) : KeepsTraffic s (completeEvaluation s) := by
  have idle : KeepsTraffic s { s with engine := none } := ⟨rfl, rfl, rfl, rfl, id, id, id⟩
  unfold completeEvaluation
  split
  · exact .refl s
  · rename_i g _
    split
    · exact idle.trans (engineTake_keepsTraffic _)
    · rename_i i _
      have written := idle.trans
        (actOn_keepsTraffic (fun c _ => completeAtGroup_events c (evaluatedRecord s g i) i .refl) g _)
      refine .trans ?_ (engineTake_keepsTraffic _)
      split
      · exact written.trans (offerReport_keepsTraffic ..)
      · exact written

theorem enableGroup_keepsTraffic (g : GroupId) (s : State) : KeepsTraffic s (enableGroup g s) :=
  actOn_keepsTraffic (fun c _ => enableView_events c _ .refl) g s

theorem disableGroup_keepsTraffic (g : GroupId) (s : State) : KeepsTraffic s (disableGroup g s) :=
  ((endEvaluation_keepsTraffic g s).trans (actOn_keepsTraffic (fun c _ => disableView_events c .refl) g _)).trans
    (engineTake_keepsTraffic _)

theorem restartGroup_keepsTraffic (s : State) (g : GroupId) : KeepsTraffic s (restartGroup s g) := by
  unfold restartGroup
  split
  · exact (endEvaluation_keepsTraffic g s).trans (actOn_keepsTraffic (fun c _ => restartView_events c .refl) g _)
  · exact .refl s

theorem restartAnalysis_keepsTraffic (s : State) : KeepsTraffic s (restartAnalysis s) := by
  have groups : KeepsTraffic s (groupIxs.foldl restartGroup s) :=
    List.foldlRecOn groupIxs restartGroup (.refl s) fun u hu g _ => hu.trans (restartGroup_keepsTraffic u g)
  unfold restartAnalysis
  generalize groupIxs.foldl restartGroup s = u at groups ⊢
  refine groups.trans (.trans ?_ (engineTake_keepsTraffic _))
  exact ⟨rfl, rfl, rfl, rfl, id, fun _ => Nat.zero_le _, id⟩

end Sys2Proof.Machine
end

section
/-! The traffic through the management requests: serving a request keeps it, and its taking moves one request out of the
request queue and one answer into the answer queue (R174, R175). -/

namespace Sys2Proof.Machine

/-- Serving a request keeps the traffic, whatever the request and the state. -/
def ServesQuietly (serve : Request → State → Reply) : Prop := ∀ r s, KeepsTraffic s (serve r s).state

/-! ## The checks before a request is served -/

theorem withArgs_servesQuietly (n : Nat) {serve : Request → State → Reply} (h : ServesQuietly serve) :
    ServesQuietly (withArgs n serve) := by
  intro r s
  unfold withArgs
  split
  · exact h r s
  · exact .refl s

theorem withGroup_servesQuietly {serve : GroupId → State → Reply} (h : ∀ g s, KeepsTraffic s (serve g s).state) :
    ServesQuietly (withGroup serve) := by
  intro r s
  unfold withGroup
  split
  · exact h _ s
  · exact .refl s

theorem withSlot_servesQuietly {serve : CaptureIx → State → Reply} (h : ∀ i s, KeepsTraffic s (serve i s).state) :
    ServesQuietly (withSlot serve) := by
  intro r s
  unfold withSlot
  split
  · exact h _ s
  · exact .refl s

theorem withTable_servesQuietly (n : Nat) {serve : Request → State → Reply} (h : ServesQuietly serve) :
    ServesQuietly (withTable n serve) := by
  refine withArgs_servesQuietly 2 fun r s => ?_
  split
  · exact .refl s
  · exact withArgs_servesQuietly n h r s

/-! ## The four tables -/

theorem serveReadStream_quiet : ServesQuietly serveReadStream := by
  intro r s
  unfold serveReadStream
  split <;> exact .refl s

theorem serveWriteStream_quiet : ServesQuietly serveWriteStream := by
  intro r s
  unfold serveWriteStream
  split
  · split
    · exact .refl s
    · refine ⟨rfl, rfl, rfl, rfl, id, fun hs => ?_, id⟩
      exact (discardStream_entries .. ▸ List.length_filter_le ..).trans hs
  · exact .refl s

theorem serveReadGroup_quiet : ServesQuietly serveReadGroup := by
  intro r s
  unfold serveReadGroup
  split <;> exact .refl s

theorem serveWriteGroup_quiet : ServesQuietly serveWriteGroup := by
  intro r s
  unfold serveWriteGroup
  split
  · split
    · exact .refl s
    · exact ⟨rfl, rfl, rfl, rfl, id, id, id⟩
  · exact .refl s

theorem serveReadLimits_quiet : ServesQuietly serveReadLimits := by
  intro r s
  unfold serveReadLimits
  split
  · split <;> exact .refl s
  · exact .refl s

theorem limitReply_state (rows : BitVec 19) (s : State) : (limitReply rows s).state = s := by
  unfold limitReply
  split <;> rfl

theorem serveWriteLimits_quiet : ServesQuietly serveWriteLimits := by
  intro r s
  unfold serveWriteLimits
  split
  · exact .refl s
  · dsimp only
    split
    · exact .refl s
    · split
      · exact .refl s
      · split
        · exact .refl s
        · rw [limitReply_state]
          exact ⟨rfl, rfl, rfl, rfl, id, id, id⟩

theorem serveWriteSettings_quiet : ServesQuietly serveWriteSettings := by
  intro r s
  unfold serveWriteSettings
  dsimp only
  split
  · exact ⟨rfl, rfl, rfl, rfl, id, fun hs => (watermarksWritten_entries ..).symm ▸ hs, id⟩
  · exact .refl s

/-! ## The requests that concern one group -/

theorem serveCommit_quiet (g : GroupId) (s : State) : KeepsTraffic s (serveCommit g s).state := by
  show KeepsTraffic s (commitAt g s)
  unfold commitAt
  split
  · exact ⟨rfl, rfl, rfl, rfl, id, id, id⟩
  · exact actOn_keepsTraffic (fun c _ => takeCommit_events c none .refl) g s

theorem serveEnable_quiet (g : GroupId) (s : State) : KeepsTraffic s (serveEnable g s).state := by
  unfold serveEnable
  split
  · exact .refl s
  · split
    · exact .refl s
    · exact enableGroup_keepsTraffic g s

theorem serveDisable_quiet (g : GroupId) (s : State) : KeepsTraffic s (serveDisable g s).state := by
  unfold serveDisable
  split
  · exact disableGroup_keepsTraffic g s
  · exact .refl s

theorem serveReleaseTrip_quiet (g : GroupId) (s : State) : KeepsTraffic s (serveReleaseTrip g s).state := by
  unfold serveReleaseTrip
  split
  · exact .refl s
  · split
    · exact .refl s
    · exact actOn_keepsTraffic (fun c _ => releaseView_events c .refl) g s

theorem serveSnap_quiet (g : GroupId) (s : State) : KeepsTraffic s (serveSnap g s).state := by
  unfold serveSnap
  split
  · split
    · exact ⟨rfl, rfl, rfl, rfl, id, id, id⟩
    · exact .refl s
  · exact .refl s

/-- The state of a reply is the one it is made with; rewritten with, it keeps a restart folded. -/
theorem done_state (payload : Payload) (s : State) : (done payload s).state = s := rfl

theorem serveRestart_quiet : ServesQuietly serveRestart := by
  intro r s
  rw [serveRestart, done_state]
  exact restartAnalysis_keepsTraffic s

theorem serveReadArray_quiet : ServesQuietly serveReadArray := by
  intro r s
  unfold serveReadArray
  split <;> exact .refl s

/-! ## The requests that concern the part -/

theorem serveReadStatus_quiet : ServesQuietly serveReadStatus := by
  intro r s
  unfold serveReadStatus
  split <;> exact .refl s

theorem serveReadEvents_quiet : ServesQuietly serveReadEvents := fun _ _ =>
  ⟨rfl, rfl, rfl, rfl, id, id, fun hs => (List.length_drop ▸ Nat.sub_le ..).trans hs⟩

theorem serveHold_quiet (i : CaptureIx) (s : State) : KeepsTraffic s (serveHold i s).state := by
  unfold serveHold
  dsimp only
  split
  · exact .refl s
  · split
    · exact .refl s
    · exact ⟨rfl, rfl, rfl, rfl, id, id, id⟩

theorem serveRelease_quiet (i : CaptureIx) (s : State) : KeepsTraffic s (serveRelease i s).state := by
  unfold serveRelease
  split
  · exact .refl s
  · exact ⟨rfl, rfl, rfl, rfl, id, id, id⟩

theorem serveReadCapture_quiet : ServesQuietly serveReadCapture := by
  intro r s
  unfold serveReadCapture
  split
  · dsimp only
    split
    · exact .refl s
    · split <;> exact .refl s
  · exact .refl s

theorem serveStoreConfig_quiet : ServesQuietly serveStoreConfig := by
  intro r s
  unfold serveStoreConfig
  split
  · exact .refl s
  · exact ⟨rfl, rfl, rfl, rfl, id, id, id⟩

theorem serveResetPart_quiet : ServesQuietly serveResetPart := by
  intro r s
  unfold serveResetPart
  split
  · exact .refl s
  · exact ⟨rfl, rfl, rfl, rfl, id, id, id⟩

end Sys2Proof.Machine
end

/-! What one step does with the frames and the queues: the law of R10 on their order, their capacities (R10, R11, R36,
R149, R173, R175, R183), and the quiet of BYPASS (R1, R5, R20). -/

section
namespace Sys2Proof.Machine

/-- The Forward FIFO from `s` to `t`: it stays, gains a frame at its tail, sends its head, or is emptied by a reset. -/
def ForwardMoves (s t : State) : Prop :=
  t.path.forward = s.path.forward ∨ (∃ f, t.path.forward = s.path.forward ++ [f]) ∨
    (∃ f, s.path.forward = f :: t.path.forward ∧ t.path.portB.sending = some (.forwarded (departing s f))) ∨
    (t.path.forward = [] ∧ t.switch = .bypass)

/-- The Reverse FIFO from `s` to `t`: it stays, gains a frame at its tail, sends its head, or is emptied by a reset. -/
def ReverseMoves (s t : State) : Prop :=
  t.path.reverse = s.path.reverse ∨ (∃ l, t.path.reverse = s.path.reverse ++ [l]) ∨
    (∃ l, s.path.reverse = l :: t.path.reverse ∧ t.path.portA.sending = some (.forwarded l)) ∨
    (t.path.reverse = [] ∧ t.switch = .bypass)

/-- What every step keeps of the traffic. -/
structure TrafficLawful (s t : State) : Prop where
  bounded : QueuesBounded s → QueuesBounded t
  quiet : BypassQuiet s → BypassQuiet t
  forward : ForwardMoves s t
  reverse : ReverseMoves s t

/-- An act that is lawful and leaves both FIFOs as they are; unlike a lawful step, such acts can follow one another. -/
structure LeavesFifos (s t : State) : Prop where
  bounded : QueuesBounded s → QueuesBounded t
  quiet : BypassQuiet s → BypassQuiet t
  forward : t.path.forward = s.path.forward
  reverse : t.path.reverse = s.path.reverse

namespace LeavesFifos

theorem refl (s : State) : LeavesFifos s s := ⟨id, id, rfl, rfl⟩

theorem trans {s t u : State} (h : LeavesFifos s t) (k : LeavesFifos t u) : LeavesFifos s u where
  bounded := k.bounded ∘ h.bounded
  quiet := k.quiet ∘ h.quiet
  forward := k.forward.trans h.forward
  reverse := k.reverse.trans h.reverse

theorem lawful {s t : State} (h : LeavesFifos s t) : TrafficLawful s t :=
  ⟨h.bounded, h.quiet, .inl h.forward, .inl h.reverse⟩

end LeavesFifos

/-- An act that keeps the switch and, in BYPASS, finds nothing to do keeps the quiet. -/
theorem bypassQuiet_of_idle {s t : State} (hswitch : t.switch = s.switch)
    (hidle : s.switch = .bypass → BypassQuiet s → t = s) : BypassQuiet s → BypassQuiet t := by
  intro hs hb
  have hbypass : s.switch = .bypass := hswitch ▸ hb
  rw [hidle hbypass hs]
  exact hs hbypass

theorem KeepsTraffic.leavesFifos {s t : State} (h : KeepsTraffic s t)
    (hidle : s.switch = .bypass → BypassQuiet s → t = s) : LeavesFifos s t :=
  ⟨h.queuesBounded, bypassQuiet_of_idle h.switch hidle, by rw [h.path], by rw [h.path]⟩

theorem KeepsWork.leavesFifos {s t : State} (h : KeepsWork s t) : LeavesFifos s t :=
  ⟨h.keepsTraffic.queuesBounded, h.bypassQuiet, by rw [h.path], by rw [h.path]⟩

/-! ## Part reset and start-up -/

theorem partReset_lawful (p : Power) (s u : State) : TrafficLawful s (partReset p u) where
  bounded _ := by simp [QueuesBounded, State.reset]
  quiet _ _ := ⟨rfl, rfl, rfl, rfl, rfl, rfl, rfl, rfl, rfl, rfl⟩
  forward := .inr (.inr (.inr ⟨rfl, rfl⟩))
  reverse := .inr (.inr (.inr ⟨rfl, rfl⟩))

/-- What follows a part reset in the same step keeps the emptied FIFOs. -/
theorem lawful_of_reset {p : Power} {s u t : State} (h : KeepsWork (partReset p u) t) : TrafficLawful s t := by
  obtain ⟨hbounded, hquiet, _, _⟩ := partReset_lawful p s u
  exact ⟨h.keepsTraffic.queuesBounded ∘ hbounded, h.bypassQuiet ∘ hquiet,
    .inr (.inr (.inr ⟨by rw [h.path]; rfl, h.switch⟩)), .inr (.inr (.inr ⟨by rw [h.path]; rfl, h.switch⟩))⟩

theorem endStartUp_leavesFifos {s t : State} (h : KeepsTraffic s t) : LeavesFifos s (endStartUp t) where
  bounded := h.queuesBounded
  quiet _ hb := by simp at hb
  forward := by simp [h.path]
  reverse := by simp [h.path]

theorem loadTables_keepsTraffic (c : ImageContents) (d : Bool) (s : State) : KeepsTraffic s (loadTables c d s) :=
  ⟨rfl, rfl, rfl, rfl, id, id, id⟩

theorem enableAtStart_keepsTraffic (s : State) (g : GroupId) : KeepsTraffic s (enableAtStart s g) := by
  unfold enableAtStart
  split
  · exact enableGroup_keepsTraffic g s
  · exact .refl s

theorem startOnDefaults_leavesFifos (s : State) : LeavesFifos s (startOnDefaults s) :=
  endStartUp_leavesFifos (loadTables_keepsTraffic _ true s)

theorem startOnImage_leavesFifos (c : ImageContents) (s : State) : LeavesFifos s (startOnImage c s) :=
  endStartUp_leavesFifos (List.foldlRecOn groupIxs enableAtStart (loadTables_keepsTraffic c false s)
    fun u hu g _ => hu.trans (enableAtStart_keepsTraffic u g))

theorem finishImageRead_leavesFifos (s : State) : LeavesFifos s (finishImageRead s) := by
  unfold finishImageRead
  split
  · split
    · exact startOnImage_leavesFifos _ s
    · exact startOnDefaults_leavesFifos s
    · exact startOnDefaults_leavesFifos s
  · exact .refl s

theorem imageReadTimeOut_leavesFifos (s : State) : LeavesFifos s (imageReadTimeOut s) := by
  unfold imageReadTimeOut
  split
  · exact startOnDefaults_leavesFifos s
  · exact .refl s

theorem nresetRelease_leavesFifos (s : State) :
    LeavesFifos s (if s.power = .inReset then { s with power := .released } else s) := by
  split
  · exact ⟨id, id, rfl, rfl⟩
  · exact .refl s

section
/-! ## The ports and the FIFOs -/

variable (p : Port) (x : PortState) (s : State)

@[simp] theorem setPort_switch : (setPort p x s).switch = s.switch := by cases p <;> rfl
@[simp] theorem setPort_forward : (setPort p x s).path.forward = s.path.forward := by cases p <;> rfl
@[simp] theorem setPort_reverse : (setPort p x s).path.reverse = s.path.reverse := by cases p <;> rfl
@[simp] theorem setPort_queue : (setPort p x s).queue = s.queue := by cases p <;> rfl
@[simp] theorem setPort_events : (setPort p x s).events = s.events := by cases p <;> rfl
@[simp] theorem setPort_mgmt : (setPort p x s).mgmt = s.mgmt := by cases p <;> rfl
@[simp] theorem setPort_store : (setPort p x s).store = s.store := by cases p <;> rfl
@[simp] theorem setPort_ident : (setPort p x s).ident = s.ident := by cases p <;> rfl
@[simp] theorem setPort_pending : (setPort p x s).pending = s.pending := by cases p <;> rfl

theorem setForwardDrop_leavesFifos : LeavesFifos s (setForwardDrop s) := ⟨id, id, rfl, rfl⟩

/-- A port changes in a part that is INLINE, or whose ports are not those of a quiet part in BYPASS. -/
theorem setPort_leavesFifos (hbusy : s.switch = .bypass → ¬BypassQuiet s) : LeavesFifos s (setPort p x s) where
  bounded hs := by simpa [QueuesBounded] using hs
  quiet hs hb := absurd hs (hbusy (by simpa using hb))
  forward := by simp
  reverse := by simp

end

/-- In BYPASS a port of a quiet part is DOWN and sends nothing. -/
theorem portOf_bypass {s : State} (hb : s.switch = .bypass) (hs : BypassQuiet s) (p : Port) :
    portOf s p = { link := .down, sending := none } := by
  obtain ⟨ha, hb, _⟩ := hs hb
  cases p
  · exact ha
  · exact hb

theorem isInLine_iff {s : State} : s.isInLine = true ↔ s.switch = .inLine := by simp [State.isInLine]

theorem establishLink_leavesFifos (p : Port) (s : State) : LeavesFifos s (establishLink p s) := by
  unfold establishLink
  split
  · rename_i hin
    exact setPort_leavesFifos p _ s fun hb => by simp [isInLine_iff.mp hin] at hb
  · exact .refl s

theorem abandon_lawful {s u : State} (x : Transmission) (h : LeavesFifos s u) : TrafficLawful s (abandon x u) := by
  unfold abandon
  split
  · exact partReset_lawful ..
  · split
    · exact (h.trans (setForwardDrop_leavesFifos u)).lawful
    · exact h.lawful

theorem loseLink_lawful (p : Port) (s : State) : TrafficLawful s (loseLink p s) := by
  unfold loseLink
  split
  · rename_i hup
    have freed : LeavesFifos s (setPort p { link := .down, sending := none } s) :=
      setPort_leavesFifos p _ s fun hb hs => by simp [portOf_bypass hb hs p] at hup
    dsimp only
    split
    · exact abandon_lawful _ freed
    · exact freed.lawful
  · exact (LeavesFifos.refl s).lawful

theorem completeTransmission_lawful (p : Port) (s : State) : TrafficLawful s (completeTransmission p s) := by
  unfold completeTransmission
  split
  · rename_i x hx
    split
    · exact partReset_lawful ..
    · exact (setPort_leavesFifos p _ s fun hb hs => by simp [portOf_bypass hb hs p] at hx).lawful
  · exact (LeavesFifos.refl s).lawful

/-! ## Arrivals -/

/-- Every arrival keeps the switch, which is INLINE, so that the quiet of BYPASS is no concern. -/
theorem bypassQuiet_of_inLine {s t : State} (hin : s.switch = .inLine) (hswitch : t.switch = s.switch) :
    BypassQuiet s → BypassQuiet t := fun _ hb => by simp [hswitch, hin] at hb

@[simp] theorem offerForward_switch (f : ForwardFrame) (s : State) : (offerForward f s).switch = s.switch := by
  unfold offerForward
  split <;> rfl

/-- A frame offered to the Forward FIFO joins its tail, or is dropped by a full one. -/
theorem offerForward_lawful (f : ForwardFrame) {s : State} (hin : s.switch = .inLine) :
    TrafficLawful s (offerForward f s) := by
  unfold offerForward
  split
  · rename_i room
    refine ⟨fun hs => ?_, bypassQuiet_of_inLine hin rfl, .inr (.inl ⟨f, rfl⟩), .inl rfl⟩
    obtain ⟨_, hrest⟩ := hs
    exact ⟨by simpa using room, hrest⟩
  · exact (setForwardDrop_leavesFifos s).lawful

theorem offerReverse_lawful (l : List Byte) {s : State} (hin : s.switch = .inLine) :
    TrafficLawful s (offerReverse l s) := by
  unfold offerReverse
  split
  · rename_i room
    refine ⟨fun hs => ?_, bypassQuiet_of_inLine hin rfl, .inl rfl, .inr (.inl ⟨l, rfl⟩)⟩
    obtain ⟨hforward, _, hrest⟩ := hs
    exact ⟨hforward, by simpa using room, hrest⟩
  · exact (setForwardDrop_leavesFifos s).lawful

theorem offerRequest_leavesFifos (r : Request) {s : State} (hin : s.switch = .inLine) :
    LeavesFifos s (offerRequest r s) := by
  unfold offerRequest
  split
  · rename_i room
    refine ⟨fun hs => ?_, bypassQuiet_of_inLine hin rfl, rfl, rfl⟩
    obtain ⟨hforward, hreverse, hentries, hevents, _, hrest⟩ := hs
    exact ⟨hforward, hreverse, hentries, hevents, by simpa using room, hrest⟩
  · exact .refl s

/-- What the Stream Supervisor adds to a lawful arrival leaves it lawful. -/
theorem TrafficLawful.andKeeps {s u t : State} (h : TrafficLawful s u) (k : KeepsTraffic u t)
    (hin : u.switch = .inLine) : TrafficLawful s t := by
  obtain ⟨hbounded, hquiet, hforward, hreverse⟩ := h
  refine ⟨k.queuesBounded ∘ hbounded, fun hs => bypassQuiet_of_inLine hin k.switch (hquiet hs), ?_, ?_⟩
  · simpa only [ForwardMoves, k.path, k.switch] using hforward
  · simpa only [ReverseMoves, k.path, k.switch] using hreverse

theorem arriveA_lawful (l : List Byte) {s : State} (hin : s.switch = .inLine) : TrafficLawful s (arriveA l s) := by
  have offered := offerForward_lawful { bytes := l, stream := matchOf s l } hin
  unfold arriveA
  dsimp only
  split
  · exact offered.andKeeps (superviseFrame_keepsTraffic ..) (by simpa using hin)
  · exact offered

theorem arriveB_lawful (l : List Byte) {s : State} (hin : s.switch = .inLine) : TrafficLawful s (arriveB l s) := by
  unfold arriveB
  split
  · exact (offerRequest_leavesFifos _ hin).lawful
  · exact offerReverse_lawful l hin

theorem receiveFrame_lawful (p : Port) (f : WireFrame) (s : State) : TrafficLawful s (receiveFrame p f s) := by
  unfold receiveFrame
  split
  · rename_i harrives
    have hin : s.switch = .inLine := by
      simp only [arrives, Bool.and_eq_true] at harrives
      exact isInLine_iff.mp harrives.1.1
    cases p
    · exact arriveA_lawful f.bytes hin
    · exact arriveB_lawful f.bytes hin
  · exact (LeavesFifos.refl s).lawful

/-! ## Departures -/

theorem portReady_iff {x : PortState} : portReady x = true ↔ x = { link := .up, sending := none } := by
  cases x
  simp [portReady]

theorem startPortA_lawful (s : State) : TrafficLawful s (startPortA s) := by
  unfold startPortA
  split
  · exact (LeavesFifos.refl s).lawful
  · rename_i l rest hreverse
    split
    · refine ⟨fun hs => ?_, fun hs hb => ?_, .inl rfl, .inr (.inr (.inl ⟨l, hreverse, rfl⟩))⟩
      · obtain ⟨hforward, hlength, hrest⟩ := hs
        rw [hreverse] at hlength
        exact ⟨hforward, (Nat.le_succ _).trans hlength, hrest⟩
      · obtain ⟨_, _, _, hempty, _⟩ := hs hb
        simp [hreverse] at hempty
    · exact (LeavesFifos.refl s).lawful

/-- The oldest answer or report leaves its queue for Port B. -/
theorem chooseManagement_leavesFifos {s : State} (hbusy : s.switch = .bypass → ¬BypassQuiet s) :
    LeavesFifos s (chooseManagement s) := by
  unfold chooseManagement
  split
  · rename_i a rest hanswers
    refine ⟨fun hs => ?_, fun hs hb => absurd hs (hbusy hb), rfl, rfl⟩
    obtain ⟨hforward, hreverse, hentries, hevents, hrequests, hlength, hreports⟩ := hs
    rw [hanswers] at hlength
    exact ⟨hforward, hreverse, hentries, hevents, hrequests, (Nat.le_succ _).trans hlength, hreports⟩
  · rename_i r rest _ hreports
    refine ⟨fun hs => ?_, fun hs hb => absurd hs (hbusy hb), rfl, rfl⟩
    obtain ⟨hforward, hreverse, hentries, hevents, hrequests, hanswers, hlength⟩ := hs
    rw [hreports] at hlength
    exact ⟨hforward, hreverse, hentries, hevents, hrequests, hanswers, (Nat.le_succ _).trans hlength⟩
  · exact .refl s

theorem chooseForward_lawful {s : State} {f : ForwardFrame} {rest : List ForwardFrame}
    (hforward : s.path.forward = f :: rest) (hbusy : s.switch = .bypass → ¬BypassQuiet s) :
    TrafficLawful s (chooseForward f rest s) := by
  refine ⟨fun hs => ?_, fun hs hb => absurd hs (hbusy hb), .inr (.inr (.inl ⟨f, hforward, rfl⟩)), .inl rfl⟩
  obtain ⟨hlength, hrest⟩ := hs
  rw [hforward] at hlength
  exact ⟨(Nat.le_succ _).trans hlength, hrest⟩

theorem arbiterChoice_lawful (s : State) : TrafficLawful s (arbiterChoice s) := by
  unfold arbiterChoice
  split
  · rename_i hready
    have hbusy : s.switch = .bypass → ¬BypassQuiet s := fun hb hs => by
      obtain ⟨_, hdown, _⟩ := hs hb
      simp [portReady, hdown] at hready
    split
    · rename_i f rest hforward
      split
      · exact (chooseManagement_leavesFifos hbusy).lawful
      · exact chooseForward_lawful hforward hbusy
    · exact (chooseManagement_leavesFifos hbusy).lawful
  · exact (LeavesFifos.refl s).lawful

/-! ## Requests, passes, evaluations and time -/

theorem placeAnswer_cases (r : Request) (p : Reply) :
    placeAnswer r p = withAnswer (answerOf r p) p.state ∨
      placeAnswer r p = withAnswer (answerOf r p) (clearFlags p.state) := by
  unfold placeAnswer
  split
  · exact .inr rfl
  · exact .inl rfl

/-- A taken request leaves the request queue, and its answer joins an answer queue with room. -/
theorem placeAnswer_bounded {r : Request} {p : Reply} {s : State} {rest : List Request}
    (hrequests : s.mgmt.requests = r :: rest) (hroom : s.mgmt.answers.length < 4)
    (h : KeepsTraffic (leaveQueue r rest s) p.state) (hs : QueuesBounded s) : QueuesBounded (placeAnswer r p) := by
  obtain ⟨hforward, hreverse, hentries, hevents, hlength, _, hreports⟩ := hs
  rw [hrequests] at hlength
  have hanswers : (p.state.mgmt.answers ++ [answerOf r p]).length ≤ 4 := by
    rw [h.answers]
    simpa using hroom
  have left : QueuesBounded (leaveQueue r rest s) :=
    ⟨hforward, hreverse, hentries, hevents, (Nat.le_succ _).trans hlength, hroom.le, hreports⟩
  obtain ⟨hforward', hreverse', hentries', hevents', hrequests', _, hreports'⟩ := h.queuesBounded left
  obtain hp | hp := placeAnswer_cases r p <;> rw [hp] <;>
    exact ⟨hforward', hreverse', hentries', hevents', hrequests', hanswers, hreports'⟩

theorem takeRequest_leavesFifos (mine : Request → Bool) {serve : Request → State → Reply} (h : ServesQuietly serve)
    (s : State) : LeavesFifos s (takeRequest mine serve s) := by
  obtain hnone | ⟨r, rest, hrequests, _, hroom, _, htaken⟩ := takeRequest_cases mine serve s
  · rw [hnone]
    exact .refl s
  · have served := h r (leaveQueue r rest s)
    have hswitch : (placeAnswer r (serve r (leaveQueue r rest s))).switch = s.switch := by
      obtain hp | hp := placeAnswer_cases r (serve r (leaveQueue r rest s)) <;> rw [hp] <;> exact served.switch
    rw [htaken]
    refine ⟨placeAnswer_bounded hrequests hroom served, fun hs hb => ?_, ?_, ?_⟩
    · obtain ⟨_, _, _, _, hempty, _⟩ := hs (hswitch ▸ hb)
      simp [hrequests] at hempty
    all_goals
      obtain hp | hp := placeAnswer_cases r (serve r (leaveQueue r rest s)) <;> rw [hp] <;> simp [served.path]

theorem applyAt_leavesFifos (g : GroupId) (s : State) : LeavesFifos s (applyAt g s) :=
  (applyAt_keepsTraffic g s).leavesFifos fun hb hs => by
    obtain ⟨_, _, _, _, _, _, _, hentries, _⟩ := hs hb
    simp [applyAt, hentries]

theorem completeEvaluation_leavesFifos (s : State) : LeavesFifos s (completeEvaluation s) :=
  (completeEvaluation_keepsTraffic s).leavesFifos fun hb hs => by
    obtain ⟨_, _, _, _, _, _, _, _, hengine, _⟩ := hs hb
    simp [completeEvaluation, hengine]

/-- An act that is taken under a condition only. -/
theorem LeavesFifos.ite {s t : State} {b : Bool} (h : LeavesFifos s t) : LeavesFifos s (if b then t else s) := by
  cases b
  · exact .refl s
  · exact h

theorem resetPartTimeOut_cases (s : State) :
    resetPartTimeOut s = s ∨ resetPartTimeOut s = partReset .released s := by
  unfold resetPartTimeOut
  split
  · split
    · exact .inr rfl
    · exact .inl rfl
  · exact .inl rfl

theorem resetPartTimeOut_lawful (s : State) : TrafficLawful s (resetPartTimeOut s) := by
  obtain h | h := resetPartTimeOut_cases s <;> rw [h]
  · exact (LeavesFifos.refl s).lawful
  · exact partReset_lawful ..

/-- One millisecond: start-up's and the store's limits, then a pending reset, then what the streams are due. -/
theorem tick_lawful (s : State) : TrafficLawful s (tick s) := by
  unfold tick
  split
  · have before : LeavesFifos s (storeTimeOut (imageReadTimeOut s)) :=
      (imageReadTimeOut_leavesFifos s).trans (storeTimeOut_keepsWork _).leavesFifos
    have after (u : State) : KeepsWork u (countRate (countTimer (takeRateCheck (streamIxs.foldl takeDeadline u)))) :=
      (((KeepsWork.foldl takeDeadline_keepsWork streamIxs u).trans (takeRateCheck_keepsWork _)).trans
        (countTimer_keepsWork _)).trans (countRate_keepsWork _)
    unfold takeDue
    obtain h | h := resetPartTimeOut_cases (storeTimeOut (imageReadTimeOut s)) <;> rw [h]
    · exact (before.trans (after _).leavesFifos).lawful
    · exact lawful_of_reset (after _)
  · exact (LeavesFifos.refl s).lawful

/-! ## The step -/

/-- Every command is an act that is lawful for the traffic, with the lines driven after it. -/
theorem exec_lawful (c : Instr) (s : State) : ∃ t, exec c s = .next (driveLines t) ∧ TrafficLawful s t := by
  have reads (mine : Request → Bool) {serve : Request → State → Reply} (h : ServesQuietly serve) :
      TrafficLawful s (takeRequest mine serve s) := (takeRequest_leavesFifos mine h s).lawful
  have passes (g : GroupId) (p : GroupContext → QueueEntry → GroupView → Instant → Bool) :
      TrafficLawful s (if happensNext p g s then applyAt g s else s) := (applyAt_leavesFifos g s).ite.lawful
  cases c with
  | powerOn => exact ⟨_, rfl, partReset_lawful ..⟩
  | lossOfSupply => exact ⟨_, rfl, partReset_lawful ..⟩
  | nresetAssertion =>
    refine ⟨_, rfl, ?_⟩
    split
    · exact (LeavesFifos.refl s).lawful
    · exact partReset_lawful ..
  | nresetRelease => exact ⟨_, rfl, (nresetRelease_leavesFifos s).lawful⟩
  | imageRead => exact ⟨_, rfl, (finishImageRead_leavesFifos s).lawful⟩
  | imageReadTimeLimit => exact ⟨_, rfl, (imageReadTimeOut_leavesFifos s).lawful⟩
  | linkEstablished p => exact ⟨_, rfl, (establishLink_leavesFifos p s).lawful⟩
  | linkLoss p => exact ⟨_, rfl, loseLink_lawful p s⟩
  | frameArrival p f => exact ⟨_, rfl, receiveFrame_lawful p f s⟩
  | portATransmissionStart => exact ⟨_, rfl, startPortA_lawful s⟩
  | transmitArbiterChoice => exact ⟨_, rfl, arbiterChoice_lawful s⟩
  | transmissionComplete p => exact ⟨_, rfl, completeTransmission_lawful p s⟩
  | silenceDeadline i => exact ⟨_, rfl, (takeDeadline_keepsWork s i).leavesFifos.lawful⟩
  | rateIntervalEnd => exact ⟨_, rfl, (takeRateCheck_keepsWork s).leavesFifos.lawful⟩
  | applyEntry g => exact ⟨_, rfl, (applyAt_leavesFifos g s).lawful⟩
  | cycleTooLate g => exact ⟨_, rfl, passes g tooLateAt⟩
  | acquisitionTimeout g => exact ⟨_, rfl, passes g timeoutAt⟩
  | holdoverWindowClose g => exact ⟨_, rfl, passes g holdoverCloseAt⟩
  | evaluationCompletion => exact ⟨_, rfl, (completeEvaluation_leavesFifos s).lawful⟩
  | leak => exact ⟨_, rfl, (completeEvaluation_leavesFifos s).ite.lawful⟩
  | resetPartTimeLimit => exact ⟨_, rfl, resetPartTimeOut_lawful s⟩
  | storeCompletion => exact ⟨_, rfl, (completeStore_keepsWork s).leavesFifos.lawful⟩
  | storeReadBackFault => exact ⟨_, rfl, (faultStore_keepsWork s).leavesFifos.lawful⟩
  | storeTimeLimit => exact ⟨_, rfl, (storeTimeOut_keepsWork s).leavesFifos.lawful⟩
  | unsupported => exact ⟨_, rfl, reads _ fun _ _ => .refl _⟩
  | identify => exact ⟨_, rfl, reads _ (withArgs_servesQuietly 0 fun _ _ => .refl _)⟩
  | readStatus => exact ⟨_, rfl, reads _ (withArgs_servesQuietly 1 serveReadStatus_quiet)⟩
  | readEntryStream => exact ⟨_, rfl, reads _ (withTable_servesQuietly 2 serveReadStream_quiet)⟩
  | readEntryGroup => exact ⟨_, rfl, reads _ (withTable_servesQuietly 2 serveReadGroup_quiet)⟩
  | readEntryLimitBank => exact ⟨_, rfl, reads _ (withTable_servesQuietly 5 serveReadLimits_quiet)⟩
  | readEntryPartSettings => exact ⟨_, rfl, reads _ (withTable_servesQuietly 2 fun _ _ => .refl _)⟩
  | writeEntryStream => exact ⟨_, rfl, reads _ (withTable_servesQuietly 14 serveWriteStream_quiet)⟩
  | writeEntryGroup => exact ⟨_, rfl, reads _ (withTable_servesQuietly 72 serveWriteGroup_quiet)⟩
  | writeEntryLimitBank => exact ⟨_, rfl, reads _ (withTable_servesQuietly 4 serveWriteLimits_quiet)⟩
  | writeEntryPartSettings => exact ⟨_, rfl, reads _ (withTable_servesQuietly 11 serveWriteSettings_quiet)⟩
  | commitLimits => exact ⟨_, rfl, reads _ (withArgs_servesQuietly 1 (withGroup_servesQuietly serveCommit_quiet))⟩
  | groupEnable => exact ⟨_, rfl, reads _ (withArgs_servesQuietly 1 (withGroup_servesQuietly serveEnable_quiet))⟩
  | groupDisable => exact ⟨_, rfl, reads _ (withArgs_servesQuietly 1 (withGroup_servesQuietly serveDisable_quiet))⟩
  | readResult =>
    exact ⟨_, rfl, reads _ (withArgs_servesQuietly 1 (withGroup_servesQuietly fun _ _ => .refl _))⟩
  | readEvents => exact ⟨_, rfl, reads _ (withArgs_servesQuietly 1 serveReadEvents_quiet)⟩
  | clearFirst =>
    exact ⟨_, rfl, reads _ (withArgs_servesQuietly 1
      (withGroup_servesQuietly fun _ _ => ⟨rfl, rfl, rfl, rfl, id, id, id⟩))⟩
  | releaseTrip =>
    exact ⟨_, rfl, reads _ (withArgs_servesQuietly 1 (withGroup_servesQuietly serveReleaseTrip_quiet))⟩
  | snap => exact ⟨_, rfl, reads _ (withArgs_servesQuietly 1 (withGroup_servesQuietly serveSnap_quiet))⟩
  | holdCapture => exact ⟨_, rfl, reads _ (withArgs_servesQuietly 1 (withSlot_servesQuietly serveHold_quiet))⟩
  | releaseCapture => exact ⟨_, rfl, reads _ (withArgs_servesQuietly 1 (withSlot_servesQuietly serveRelease_quiet))⟩
  | readCapture => exact ⟨_, rfl, reads _ (withArgs_servesQuietly 4 serveReadCapture_quiet)⟩
  | readArray => exact ⟨_, rfl, reads _ (withArgs_servesQuietly 4 serveReadArray_quiet)⟩
  | storeConfig => exact ⟨_, rfl, reads _ (withArgs_servesQuietly 0 serveStoreConfig_quiet)⟩
  | restartAnalysis => exact ⟨_, rfl, reads _ (withArgs_servesQuietly 0 serveRestart_quiet)⟩
  | resetPart => exact ⟨_, rfl, reads _ (withArgs_servesQuietly 0 serveResetPart_quiet)⟩

/-- The lines that are driven and the command that leaves the queue are no part of the traffic. -/
theorem driveLines_lawful {s t : State} {l : List Instr} (h : TrafficLawful (withPending l s) t) :
    TrafficLawful s (driveLines t) := ⟨h.bounded, h.quiet, h.forward, h.reverse⟩

/-- Every step is lawful for the traffic. -/
theorem step_lawful {s t : State} (h : step s = .next t) : TrafficLawful s t := by
  obtain ⟨_, hstep⟩ | ⟨c, rest, _, hstep⟩ := step_cases s
  · rw [hstep] at h
    cases h
    exact driveLines_lawful (l := s.pending) (tick_lawful s)
  · obtain ⟨u, hexec, hlawful⟩ := exec_lawful c (withPending rest s)
    rw [hstep, hexec] at h
    cases h
    exact driveLines_lawful hlawful

/-- Settles O6: every step is lawful for the traffic, the capacities of the queues among the rest. -/
theorem queuesStayWithinTheirCapacities : Obligations.QueuesStayWithinTheirCapacities :=
  fun _ _ hs h => (step_lawful h).bounded hs

/-- Settles O11: every step is lawful for the traffic, the quiet of BYPASS among the rest. -/
theorem bypassStaysQuiet : Obligations.BypassStaysQuiet := fun _ _ hs h => (step_lawful h).quiet hs

/-- Settles O15: every step is lawful for the traffic, the order of the frames in both FIFOs among the rest. -/
theorem framesLeaveInTheirOrderOfArrival : Obligations.FramesLeaveInTheirOrderOfArrival :=
  fun _ _ h => ⟨(step_lawful h).forward, (step_lawful h).reverse⟩

end Sys2Proof.Machine
end

section
/-! The part right after a part reset: what stands in State.reset, that the laws of the manual hold there, and the three
power events that bring the part to it (R20, R191, R192). -/

namespace Sys2Proof.Machine

/-! ## State.reset -/

theorem reset_group (g : GroupId) : State.reset.groups[g] = Group.fresh := by simp [State.reset]

theorem reset_slot (i : CaptureIx) : State.reset.captures.slots[i] = CaptureSlot.free := by simp [State.reset]

theorem reset_supervision (i : StreamId) : State.reset.supervision[i] = Supervision.fresh := by simp [State.reset]

theorem fresh_set (i : SetIx) : Group.fresh.sets[i] = AccSet.fresh := by simp [Group.fresh]

theorem slotLawful_free : SlotLawful CaptureSlot.free := by simp [SlotLawful, CaptureSlot.free]

theorem bankRising_default : BankRising defaultBank := fun k => by simp [defaultBank, zeroRow, LimitRow.wf]

theorem reset_image_not_good (c : ImageContents) : imageCondition State.reset.store.image ≠ .good c := nofun

/-! ## The laws at reset -/

theorem reset_capturesLawful : CapturesLawful State.reset.captures := by
  refine ⟨fun i => reset_slot i ▸ slotLawful_free, fun g hg => ?_⟩
  obtain ⟨howner, _⟩ := hg
  cases howner

theorem reset_banksRising : BanksRising State.reset := by
  refine ⟨fun g => ?_, nofun, fun c hc => absurd hc (reset_image_not_good c)⟩
  rw [reset_group]
  exact ⟨bankRising_default, bankRising_default⟩

theorem reset_levelsBounded : LevelsBounded State.reset := by
  intro g
  rw [reset_group]
  exact ⟨Nat.zero_le _, Nat.zero_le _⟩

theorem fresh_hasSet_iff (t : SetState) : HasSet Group.fresh t ↔ t = .idle := by
  constructor
  · rintro ⟨i, hi⟩
    rw [← hi, fresh_set]
    rfl
  · rintro rfl
    exact ⟨0, rfl⟩

theorem reset_analysisLawful : AnalysisLawful State.reset := by
  refine ⟨fun g => ?_, List.nodup_nil, fun g => ?_, fun g => ?_, fun g _ => ⟨fun i => ?_, ?_⟩,
    fun _ => ⟨fun g => ?_, rfl⟩⟩
  · rw [reset_group]
    exact ⟨nofun, fun h => h.1.elim nofun nofun⟩
  · rw [reset_group, fresh_hasSet_iff]
    simp [State.reset]
  · rw [reset_group, fresh_hasSet_iff]
    simp [State.reset]
  · rw [reset_group, fresh_set]
    rfl
  · rw [reset_group]
    rfl
  · rw [reset_group]
    rfl

theorem fresh_windowsLawful (r : Rate) : GroupWindowsLawful r Group.fresh := by
  refine ⟨⟨by decide, by decide⟩, Nat.zero_le _, fun i => ?_, fun _ => rfl, nofun, nofun, fun i hi => ?_⟩
  · rw [fresh_set]
    exact ⟨Nat.zero_le _, le_rfl, le_rfl⟩
  · rw [fresh_set] at hi
    exact hi.elim nofun nofun

theorem reset_windowsLawful : WindowsLawful State.reset := by
  refine ⟨fun g => ?_, fun j => ?_, fun j g hfilling => ?_, nofun, fun c hc => absurd hc (reset_image_not_good c)⟩
  · generalize State.reset.streams[State.reset.groups[g].config.stream].rate = r
    exact reset_group g ▸ fresh_windowsLawful r
  · rw [reset_slot]
    exact Nat.zero_le _
  · rw [reset_slot] at hfilling
    cases hfilling

theorem reset_linesLawful : LinesLawful State.reset :=
  ⟨⟨nofun, fun h => nomatch h.1⟩, ⟨nofun, fun h => nomatch h.1⟩, ⟨nofun, fun h => nomatch h.1⟩⟩

/-- Settles O4, law by law: every queue is empty, every group as a part reset leaves it, and both slots FREE. -/
theorem lawsHoldAtReset : Obligations.LawsHoldAtReset :=
  ⟨by simp [QueuesBounded, State.reset], reset_capturesLawful, reset_banksRising, reset_levelsBounded,
    reset_analysisLawful, reset_windowsLawful, reset_linesLawful,
    fun _ => ⟨rfl, rfl, rfl, rfl, rfl, rfl, rfl, rfl, rfl, rfl⟩⟩

/-! ## Part reset -/

/-- In BYPASS every line is deasserted (R135). -/
theorem lineConditions_bypass {s : State} (h : s.switch = .bypass) :
    lineConditions s = { alert := false, trip := false, supv := false } := by
  simp [lineConditions, State.isInLine, h]

/-- Whatever stood before it, a part reset leaves what R20 and R192 give, and the image as R191 says. -/
theorem partReset_isReset (p : Power) (s : State) : IsReset s (driveLines (partReset p s)) := by
  refine ⟨rfl, rfl, lineConditions_bypass rfl, rfl, rfl, rfl, fun i => reset_supervision i, rfl, rfl, rfl,
    fun k => reset_slot k, rfl, rfl, rfl, fun g => ?_, rfl, rfl, rfl, rfl, fun hidle => ?_, fun hbusy => ?_⟩
  · have hgroup : (driveLines (partReset p s)).groups[g] = Group.fresh := reset_group g
    rw [hgroup]
    exact ⟨rfl, rfl, rfl, rfl, rfl, rfl, rfl, rfl, rfl, rfl, fun i => fresh_set i⟩
  · obtain ⟨_, himage⟩ | ⟨hb, _⟩ := imageAfterReset_cases s
    · exact himage
    · simp [Store.busy, hidle] at hb
  · obtain ⟨hb, _⟩ | ⟨_, himage⟩ := imageAfterReset_cases s
    · simp [Store.busy, hbusy] at hb
    · exact himage

/-- Settles O16: each of the three events is a part reset with its own power, but for nRESET at an unpowered part. -/
theorem powerEventsResetThePart : Obligations.PowerEventsResetThePart := by
  refine ⟨fun s => ⟨_, rfl, partReset_isReset .inReset s, rfl⟩,
    fun s => ⟨_, rfl, partReset_isReset .unpowered s, rfl⟩,
    fun s hpower => ⟨driveLines (partReset .inReset s), ?_, partReset_isReset .inReset s, rfl⟩, fun s hpower => ?_⟩
  · show act (if s.power = .unpowered then s else partReset .inReset s) = _
    rw [if_neg hpower]
    rfl
  · show act (if s.power = .unpowered then s else partReset .inReset s) = _
    rw [if_pos hpower]
    rfl

end Sys2Proof.Machine
end

section
/-! The link and the frame path, command by command (chapter 1): the ports (R1, R3), the arrivals with the fields of the
frames they read (R2, R7 to R12, R24, R173, R196, R199), and the departures at Port A (R11). -/

namespace Sys2Proof.Machine

/-! ## Links (R1, R3, R186) -/

theorem establishLink_inLine {s : State} (h : s.switch = .inLine) (p : Port) :
    establishLink p s = setPort p { portOf s p with link := .up } s := if_pos (isInLine_iff.mpr h)

theorem establishLink_bypass {s : State} (h : s.switch = .bypass) (p : Port) : establishLink p s = s := by
  simp [establishLink, State.isInLine, h]

theorem linkEstablished_does {p : Port} {s t : State} (h : establishLink p s = t) : Does (.linkEstablished p) s t :=
  h ▸ rfl

/-- Settles O20, by the two positions of the switch. -/
theorem linksComeUpOnlyInLine : Obligations.LinksComeUpOnlyInLine := fun _ =>
  ⟨fun hin => ⟨linkEstablished_does (establishLink_inLine hin .a), linkEstablished_does (establishLink_inLine hin .b)⟩,
    fun hbypass p => linkEstablished_does (establishLink_bypass hbypass p)⟩

theorem linkLoss_does {p : Port} {s t : State} (h : loseLink p s = t) : Does (.linkLoss p) s t := h ▸ rfl

theorem loseLink_down {s : State} {p : Port} (h : (portOf s p).link = .down) : loseLink p s = s := by
  simp [loseLink, h]

theorem loseLink_free {s : State} {p : Port} (hup : (portOf s p).link = .up) (h : (portOf s p).sending = none) :
    loseLink p s = setPort p { link := .down, sending := none } s := by
  simp [loseLink, hup, h]

theorem loseLink_sending {s : State} {p : Port} {x : Transmission} (hup : (portOf s p).link = .up)
    (h : (portOf s p).sending = some x) :
    loseLink p s = abandon x (setPort p { link := .down, sending := none } s) := by
  simp [loseLink, hup, h]

theorem abandon_forwarded (l : List Byte) (s : State) : abandon (.forwarded l) s = setForwardDrop s := rfl

theorem abandon_report (r : WindowReport) (s : State) : abandon (.report r) s = s := rfl

theorem abandon_answer (a : Answer) (s : State) :
    abandon (.answer a) s = if a.acceptsReset then resetByRequest s else s := rfl

/-- A port is nothing that a part reset looks at. -/
theorem isReset_of_setPort {p : Port} {x : PortState} {s t : State} (h : IsReset (setPort p x s) t) : IsReset s t := by
  cases p <;> exact h

/-- Settles O21: by the link of the port and then by the frame under way there. -/
theorem linkLossAbandonsTheFrameUnderWay : Obligations.LinkLossAbandonsTheFrameUnderWay := by
  refine fun s p => ⟨fun hdown => linkLoss_does (loseLink_down hdown), fun hup => ⟨fun hfree => ?_, fun l hl => ?_,
    fun r hr => ?_, fun a ha hplain => ?_, fun a ha hreset => ?_⟩⟩
  · exact linkLoss_does (loseLink_free hup hfree)
  · exact linkLoss_does (loseLink_sending hup hl)
  · exact linkLoss_does (loseLink_sending hup hr)
  · refine linkLoss_does ?_
    rw [loseLink_sending hup ha, abandon_answer, hplain]
    rfl
  · refine ⟨_, linkLoss_does (t := resetByRequest (setPort p { link := .down, sending := none } s)) ?_,
      isReset_of_setPort (partReset_isReset .released _), rfl⟩
    rw [loseLink_sending hup ha, abandon_answer, hreset]
    rfl

/-! ## Arrivals (R2) -/

theorem arrives_iff {p : Port} {f : WireFrame} {s : State} : arrives p f s = true ↔ ArrivesAt p f s := by
  simp [arrives, ArrivesAt, State.isInLine, frameGood, and_assoc]

theorem frameArrival_does {p : Port} {f : WireFrame} {s t : State} (h : receiveFrame p f s = t) :
    Does (.frameArrival p f) s t := h ▸ rfl

theorem receiveFrame_a {f : WireFrame} {s : State} (h : ArrivesAt .a f s) :
    receiveFrame .a f s = arriveA f.bytes s := if_pos (arrives_iff.mpr h)

theorem receiveFrame_b {f : WireFrame} {s : State} (h : ArrivesAt .b f s) :
    receiveFrame .b f s = arriveB f.bytes s := if_pos (arrives_iff.mpr h)

/-- Settles O22: the conditions of R2 are the guard of every reception. -/
theorem framesThatDoNotArriveLeaveNoTrace : Obligations.FramesThatDoNotArriveLeaveNoTrace :=
  fun _ _ _ h => frameArrival_does (if_neg (arrives_iff.not.mpr h))

/-! ## Fields of frames (R196, R199) -/

theorem numberAt_eq_beNat (l : List Byte) (i n : Nat) : numberAt l i n = beNat l i n := by
  induction n with
  | zero => rfl
  | succ n ih =>
    simp only [numberAt, List.range_succ, List.foldl_append, List.foldl_cons, List.foldl_nil] at ih ⊢
    rw [ih, beNat]

theorem beNat_lt (l : List Byte) (i n : Nat) : beNat l i n < 256 ^ n := by
  induction n with
  | zero => exact Nat.one_pos
  | succ n ih =>
    have hbyte := (byteAt l (i + n)).isLt
    rw [beNat, pow_succ]
    omega

theorem be16_toNat (l : List Byte) (i : Nat) : (be16 l i).toNat = numberAt l i 2 := by
  rw [numberAt_eq_beNat, be16, BitVec.toNat_ofNat]
  exact Nat.mod_eq_of_lt (beNat_lt l i 2)

theorem be48_toNat (l : List Byte) (i : Nat) : (be48 l i).toNat = numberAt l i 6 := by
  rw [numberAt_eq_beNat, be48, BitVec.toNat_ofNat]
  exact Nat.mod_eq_of_lt (beNat_lt l i 6)

theorem byteAt_drop (l : List Byte) (n i : Nat) : byteAt (l.drop n) i = byteAt l (n + i) := by
  simp [byteAt]

/-! ## Arrivals at Port B (R8, R11, R12, R173) -/

theorem isRequestFrame_iff {s : State} {l : List Byte} :
    isRequestFrame s l = true ↔ typeWord l = 0xB5A1 ∧ destination l = s.activeAddress := by
  simp [isRequestFrame]

theorem arriveB_request {s : State} {l : List Byte} (htype : typeWord l = 0xB5A1)
    (hdst : destination l = s.activeAddress) : arriveB l s = offerRequest (requestOf l) s :=
  if_pos (isRequestFrame_iff.mpr ⟨htype, hdst⟩)

theorem arriveB_other {s : State} {l : List Byte} (h : ¬(typeWord l = 0xB5A1 ∧ destination l = s.activeAddress)) :
    arriveB l s = offerReverse l s := if_neg (isRequestFrame_iff.not.mpr h)

/-- Settles O25: the fields of a request one by one, then the two queues, each with room and full. -/
theorem portBArrivalsAreSorted : Obligations.PortBArrivalsAreSorted := by
  refine ⟨fun l => ⟨be48_toNat l 0, be48_toNat l 6, be16_toNat l 12, be16_toNat l 14, rfl,
    (numberAt_eq_beNat l 17 2).symm, rfl, fun i => congrArg BitVec.toNat (byteAt_drop l 19 i)⟩, fun s f h =>
    ⟨fun htype hdst => ⟨fun room => ?_, fun full => ?_⟩, fun hother => ⟨fun room => ?_, fun full => ?_⟩⟩⟩ <;>
  refine frameArrival_does ((receiveFrame_b h).trans ?_)
  · exact (arriveB_request htype hdst).trans (if_pos room)
  · exact (arriveB_request htype hdst).trans (if_neg (Nat.not_lt.mpr full))
  · exact (arriveB_other hother).trans (if_pos room)
  · exact (arriveB_other hother).trans (if_neg (Nat.not_lt.mpr full))

/-! ## The match of a stream ID (R24) -/

/-- The comparison of an entry with a stream ID, bit by bit (R24). -/
theorem admits_iff {e : StreamEntry} {id : BitVec 16} :
    admits e id = true ↔ e.valid = true ∧
      ∀ b : Nat, b < 16 → id.getLsbD b ≠ e.matchId.getLsbD b → e.ignoreMask.getLsbD b = true := by
  simp only [admits, Bool.and_eq_true, decide_eq_true_eq]
  refine and_congr_right fun _ => ⟨fun h b hb hdiffers => ?_, fun h => ?_⟩
  · have hbit := congrArg (fun x : BitVec 16 => x.getLsbD b) h
    simp only [BitVec.getLsbD_and, BitVec.getLsbD_xor, BitVec.getLsbD_not, hb] at hbit
    simpa [hdiffers] using hbit
  · refine BitVec.eq_of_getLsbD_eq fun b hb => ?_
    have hbit := h b hb
    simp only [BitVec.getLsbD_and, BitVec.getLsbD_xor, BitVec.getLsbD_not, hb]
    cases hid : id.getLsbD b <;> cases hm : e.matchId.getLsbD b <;> simp_all

theorem streamIxs_sorted : streamIxs.Pairwise (· < ·) := by decide

/-- The match is the lowest entry that admits the identifier, since the entries are walked in rising order. -/
theorem matchStream_eq_some {s : State} {id : BitVec 16} {i : StreamId} :
    matchStream s id = some i ↔
      admits s.streams[i] id = true ∧ ∀ j : StreamId, j < i → ¬admits s.streams[j] id = true := by
  rw [matchStream, List.find?_eq_some_iff_append]
  refine and_congr_right fun _ => ⟨?_, fun hlower => ?_⟩
  · rintro ⟨before, after, hsplit, hbefore⟩ j hj
    have hsorted := hsplit ▸ streamIxs_sorted
    have hmem := hsplit ▸ mem_streamIxs j
    obtain hj' | hj' := List.mem_append.mp hmem
    · simpa using hbefore j hj'
    · obtain rfl | hafter := List.mem_cons.mp hj'
      · exact absurd hj (lt_irrefl _)
      · exact absurd hj (lt_asymm (List.rel_of_pairwise_cons (List.pairwise_append.mp hsorted).2.1 hafter))
  · obtain ⟨before, after, hsplit⟩ := List.append_of_mem (mem_streamIxs i)
    refine ⟨before, after, hsplit, fun j hj => ?_⟩
    have hsorted := hsplit ▸ streamIxs_sorted
    simpa using hlower j ((List.pairwise_append.mp hsorted).2.2 j hj i List.mem_cons_self)

theorem matchStream_eq_none {s : State} {id : BitVec 16} :
    matchStream s id = none ↔ ∀ i : StreamId, ¬admits s.streams[i] id = true := by
  unfold matchStream
  rw [List.find?_eq_none]
  exact ⟨fun h i => h i (mem_streamIxs i), fun h i _ => h i⟩

/-! ## Arrivals at Port A (R7, R9, R10, R12) -/

/-- From `s` to `t` at most the supervision records, the Analysis Queue and the events change. -/
def Supervises (s t : State) : Prop :=
  ∃ supervision queue events, t = { s with supervision := supervision, queue := queue, events := events }

theorem Supervises.refl (s : State) : Supervises s s := ⟨_, _, _, rfl⟩

theorem Supervises.trans {s t u : State} (h : Supervises s t) (k : Supervises t u) : Supervises s u := by
  obtain ⟨_, _, _, rfl⟩ := h
  obtain ⟨_, _, _, rfl⟩ := k
  exact ⟨_, _, _, rfl⟩

theorem raiseAt_supervises (e : Event) (s : State) : Supervises s (raiseAt e s) := ⟨_, _, _, rfl⟩

theorem setSupervision_supervises (i : StreamId) (r : Supervision) (s : State) :
    Supervises s (setSupervision i r s) := ⟨_, _, _, rfl⟩

theorem intakeFrame_supervises (i : StreamId) (l : List Byte) (s : State) : Supervises s (intakeFrame i l s) := by
  unfold intakeFrame
  split
  · exact ⟨_, _, _, rfl⟩
  · exact .refl s

theorem superviseFrame_supervises (i : StreamId) (l : List Byte) (s : State) : Supervises s (superviseFrame i l s) := by
  unfold superviseFrame
  split
  · unfold rangeFrame
    refine .trans ?_ (setSupervision_supervises ..)
    split
    · exact .refl s
    · exact raiseAt_supervises ..
  · split
    · unfold activeFrame
      dsimp only
      split
      · exact (setSupervision_supervises ..).trans (intakeFrame_supervises ..)
      · exact setSupervision_supervises ..
    · exact ((setSupervision_supervises ..).trans (raiseAt_supervises ..)).trans (intakeFrame_supervises ..)

theorem offerForward_eq (f : ForwardFrame) (s : State) :
    offerForward f s =
      { s with path := if s.path.forward.length < 32 then { s.path with forward := s.path.forward ++ [f] }
                       else { s.path with forwardDrop := true } } := by
  unfold offerForward
  split <;> rfl

theorem arriveA_supervises (l : List Byte) (s : State) :
    Supervises (offerForward { bytes := l, stream := matchOf s l } s) (arriveA l s) := by
  unfold arriveA
  dsimp only
  split
  · exact superviseFrame_supervises ..
  · exact .refl _

theorem arriveA_of_no_match {l : List Byte} {s : State} (h : matchOf s l = none) :
    arriveA l s = offerForward { bytes := l, stream := none } s := by
  simp [arriveA, h]

/-- Settles O23: the offer to the Forward FIFO, what the supervisor may change after it, and the match bit by bit. -/
theorem portAArrivalsAreForwarded : Obligations.PortAArrivalsAreForwarded := by
  refine ⟨fun s f h => ⟨?_, fun hnone => ?_⟩, fun s id => ⟨fun i => ?_, ?_⟩⟩
  · obtain ⟨supervision, queue, events, harrive⟩ := arriveA_supervises f.bytes s
    rw [offerForward_eq] at harrive
    exact ⟨_, frameArrival_does ((receiveFrame_a h).trans harrive), rfl⟩
  · have hmatch : matchOf s f.bytes = none := hnone
    refine frameArrival_does ((receiveFrame_a h).trans ?_)
    rw [arriveA_of_no_match hmatch, offerForward_eq, hnone]
  · simp only [matchStream_eq_some, admits_iff]
  · simp only [matchStream_eq_none, admits_iff]

/-! ## Departures at Port A (R11) -/

theorem portATransmissionStart_does {s t : State} (h : startPortA s = t) : Does .portATransmissionStart s t := h ▸ rfl

/-- A port that is DOWN or sends something is not ready. -/
theorem startPortA_not_ready {s : State} (h : portReady s.path.portA = false) : startPortA s = s := by
  unfold startPortA
  split
  · rfl
  · simp [h]

/-- Settles O26: the four cases of the FIFO and the port. -/
theorem portASendsTheHeadOfTheReverseFifo : Obligations.PortASendsTheHeadOfTheReverseFifo := by
  refine fun s => ⟨fun l rest hreverse hport => ?_, fun hempty => ?_, fun hdown => ?_, fun hbusy => ?_⟩ <;>
  apply portATransmissionStart_does
  · simp [startPortA, hreverse, hport, portReady]
  · simp [startPortA, hempty]
  · exact startPortA_not_ready (by simp [portReady, hdown])
  · exact startPortA_not_ready (by simp [portReady, Option.isSome_iff_ne_none, hbusy])

end Sys2Proof.Machine
end

section
/-! The Transmit Arbiter: its choice and the starvation count (R17 to R19), and the annex of a departing frame (R14 to
R16, R198). -/

namespace Sys2Proof.Machine

/-! ## The choice (R17 to R19) -/

theorem managementWaits_iff {s : State} : managementWaits s = true ↔ s.mgmt.answers ≠ [] ∨ s.mgmt.reports ≠ [] := by
  simp [managementWaits]

theorem passesForward_iff {s : State} :
    passesForward s = true ↔ s.settings.starvationLimit ≤ s.path.starvation ∧ managementWaits s = true := by
  simp [passesForward]

theorem transmitArbiterChoice_does {s t : State} (h : arbiterChoice s = t) : Does .transmitArbiterChoice s t := h ▸ rfl

theorem arbiterChoice_not_ready {s : State} (h : portReady s.path.portB = false) : arbiterChoice s = s := by
  simp [arbiterChoice, h]

/-- The head of the Forward FIFO is chosen unless the choice passes it over. -/
theorem arbiterChoice_forward {s : State} {f : ForwardFrame} {rest : List ForwardFrame}
    (hready : portReady s.path.portB = true) (hforward : s.path.forward = f :: rest) (h : passesForward s = false) :
    arbiterChoice s = chooseForward f rest s := by
  simp [arbiterChoice, hready, hforward, h]

/-- With the Forward FIFO empty or passed over the choice goes to the answers and the reports. -/
theorem arbiterChoice_management {s : State} (hready : portReady s.path.portB = true)
    (h : s.path.forward = [] ∨ passesForward s = true) : arbiterChoice s = chooseManagement s := by
  obtain hempty | hpassed := h
  · simp [arbiterChoice, hready, hempty]
  · simp only [arbiterChoice, hready, hpassed, if_true]
    split <;> rfl

theorem chooseManagement_answer {s : State} {a : Answer} {rest : List Answer} (h : s.mgmt.answers = a :: rest) :
    chooseManagement s = sendB (.answer a) 0 { s with mgmt := { s.mgmt with answers := rest } } := by
  simp [chooseManagement, h]

theorem chooseManagement_report {s : State} {r : WindowReport} {rest : List WindowReport}
    (hanswers : s.mgmt.answers = []) (h : s.mgmt.reports = r :: rest) :
    chooseManagement s = sendB (.report r) 0 { s with mgmt := { s.mgmt with reports := rest } } := by
  simp [chooseManagement, hanswers, h]

theorem chooseManagement_none {s : State} (h : managementWaits s = false) : chooseManagement s = s := by
  have hnone : ¬(s.mgmt.answers ≠ [] ∨ s.mgmt.reports ≠ []) := managementWaits_iff.not.mp (by simp [h])
  simp only [ne_eq, not_or, not_not] at hnone
  obtain ⟨hanswers, hreports⟩ := hnone
  simp [chooseManagement, hanswers, hreports]

/-! ## The annex (R14 to R16, R198) -/

theorem annexOf_empty {s : State} {g : GroupId} (h : s.groups[g].result = none) :
    annexOf s g = [0xA7, BitVec.ofNat 8 g.val, BitVec.ofNat 8 (levelCode s.groups[g].levelUnit.level), 0xFF,
      BitVec.ofNat 8 (timingCode s.groups[g].tracker.timing), 0, 0, s.groups[g].generation] := by
  simp only [annexOf, h]
  rfl

theorem annexOf_result {s : State} {g : GroupId} {r : ResultRecord} (h : s.groups[g].result = some r) :
    annexOf s g = [0xA7, BitVec.ofNat 8 g.val, BitVec.ofNat 8 (levelCode s.groups[g].levelUnit.level),
      BitVec.ofNat 8 (rowLevelCode r.level), BitVec.ofNat 8 (timingCode s.groups[g].tracker.timing),
      if r.degraded then 1 else 0, r.number.setWidth 8, s.groups[g].generation] := by
  simp only [annexOf, h]
  rfl

theorem departing_annex {s : State} {f : ForwardFrame} {i : StreamId} (hstream : f.stream = some i)
    (hvalid : s.streams[i].valid = true) (hmode : s.streams[i].annexMode = .append)
    (henabled : s.groups[s.streams[i].annexGroup].enabled = true) (hlength : f.bytes.length + 4 ≤ 1510) :
    departing s f = f.bytes ++ annexOf s s.streams[i].annexGroup := by
  have hgroup : annexGroupOf s f = some s.streams[i].annexGroup := by
    simp only [annexGroupOf, hstream]
    exact if_pos ⟨hvalid, hmode, henabled, hlength⟩
  simp [departing, hgroup]

theorem departing_plain {s : State} {f : ForwardFrame}
    (h : ∀ i : StreamId, f.stream = some i → s.streams[i].valid = false ∨ s.streams[i].annexMode = .none ∨
      s.groups[s.streams[i].annexGroup].enabled = false ∨ 1510 < f.bytes.length + 4) : departing s f = f.bytes := by
  have hgroup : annexGroupOf s f = none := by
    unfold annexGroupOf
    split
    · rfl
    · rename_i i hi
      refine if_neg fun hall => ?_
      obtain ⟨hvalid, hmode, henabled, hlength⟩ := hall
      obtain h | h | h | h := h i hi
      · exact absurd (h.symm.trans hvalid) nofun
      · exact absurd (h.symm.trans hmode) nofun
      · exact absurd (h.symm.trans henabled) nofun
      · omega
  simp [departing, hgroup]

theorem levelCode_byte (l : Level) :
    BitVec.ofNat 8 (levelCode l) = match l with
      | .normal => 0
      | .alarm => 1
      | .tripped => 2 := by cases l <;> rfl

theorem timingCode_byte (t : Timing) :
    BitVec.ofNat 8 (timingCode t) = match t with
      | .disabled => 0
      | .noSignal => 1
      | .acquiring => 2
      | .tracking => 3
      | .holdover => 4
      | .aligning => 5 := by cases t <;> rfl

theorem rowLevelCode_byte (l : RowLevel) :
    BitVec.ofNat 8 (rowLevelCode l) = match l with
      | .clear => 0
      | .notice => 1
      | .alert => 2
      | .trip => 3 := by cases l <;> rfl

theorem starvationAfter_eq (s : State) :
    starvationAfter s = if s.mgmt.answers ≠ [] ∨ s.mgmt.reports ≠ [] then min 255 (s.path.starvation + 1) else 0 := by
  simp only [starvationAfter, managementWaits_iff]

/-- Settles O27: the port, then who is chosen, then the annex byte by byte and the frames that carry it. -/
theorem theArbiterChoosesAndCounts : Obligations.TheArbiterChoosesAndCounts := by
  intro s
  dsimp only
  refine ⟨fun hbusy => ?_, fun hport => ?_, fun g => ⟨fun hempty => ?_, fun r hr => ?_⟩,
    fun f => ⟨fun i => departing_annex, departing_plain⟩⟩
  · refine transmitArbiterChoice_does (arbiterChoice_not_ready ?_)
    obtain h | h := hbusy <;> simp [portReady, h, Option.isSome_iff_ne_none]
  · have hready : portReady s.path.portB = true := portReady_iff.mpr hport
    have passed (hp : s.path.forward = [] ∨ s.settings.starvationLimit ≤ s.path.starvation)
        (hw : managementWaits s = true) : arbiterChoice s = chooseManagement s :=
      arbiterChoice_management hready (hp.imp_right fun hk => passesForward_iff.mpr ⟨hk, hw⟩)
    refine ⟨fun f rest hforward hchosen => ?_, fun a rest hp ha => ?_, fun r rest hp ha hr => ?_,
      fun hempty hnone => ?_⟩
    · have hstays : passesForward s = false := by
        rw [Bool.eq_false_iff, ne_eq, passesForward_iff, managementWaits_iff]
        rintro ⟨hk, hw⟩
        exact hchosen.elim (fun h => absurd hk (Nat.not_le.mpr h)) (fun h => h hw)
      apply transmitArbiterChoice_does
      rw [arbiterChoice_forward hready hforward hstays, chooseForward, starvationAfter_eq]
      simp [sendB, hport]
    · apply transmitArbiterChoice_does
      rw [passed hp (managementWaits_iff.mpr (.inl (by simp [ha]))), chooseManagement_answer ha]
      simp [sendB, hport]
    · apply transmitArbiterChoice_does
      rw [passed hp (managementWaits_iff.mpr (.inr (by simp [hr]))), chooseManagement_report ha hr]
      simp [sendB, hport]
    · apply transmitArbiterChoice_does
      rw [arbiterChoice_management hready (.inl hempty), chooseManagement_none]
      rwa [Bool.eq_false_iff, ne_eq, managementWaits_iff]
  · have hannex := annexOf_empty hempty
    rw [levelCode_byte, timingCode_byte] at hannex
    exact hannex
  · have hannex := annexOf_result hr
    rw [levelCode_byte, timingCode_byte, rowLevelCode_byte] at hannex
    exact hannex

end Sys2Proof.Machine
end

section
/-! The end of a transmission (R3, R19, R186), and the bytes that a port sends: the fields of chapter 12 and the frames,
records and payloads built from them (R196, R197, R199, R200, R202). -/

namespace Sys2Proof.Machine

/-! ## Fields (R196) -/

/-- A field built from its last byte on is the field read off by powers of 256. -/
theorem beBytes_eq_fieldOf (n v : Nat) : beBytes n v = fieldOf n v := by
  induction n generalizing v with
  | zero => rfl
  | succ n ih =>
    have hlow : ∀ k ∈ List.range n,
        BitVec.ofNat 8 (v / 256 / 256 ^ (n - 1 - k)) = BitVec.ofNat 8 (v / 256 ^ (n - k)) := by
      intro k hk
      have hpow : 256 * 256 ^ (n - 1 - k) = 256 ^ (n - k) := by
        rw [← pow_succ', show n - 1 - k + 1 = n - k by have := List.mem_range.mp hk; omega]
      rw [Nat.div_div_eq_div_mul, hpow]
    rw [beBytes, ih, fieldOf, fieldOf, List.range_succ, List.map_append, List.map_congr_left hlow]
    simp

@[simp] theorem fieldOf_length (n v : Nat) : (fieldOf n v).length = n := by simp [fieldOf]

theorem beBytes_zero (n : Nat) : beBytes n 0 = List.replicate n 0 := by
  induction n with
  | zero => rfl
  | succ n ih => rw [beBytes, Nat.zero_div, ih, List.replicate_succ']; rfl

/-- A list laid out in pieces of one size. -/
theorem flatMap_length_of_const {α : Type} {f : α → List Byte} {k : Nat} (h : ∀ x, (f x).length = k) (l : List α) :
    (l.flatMap f).length = l.length * k := by
  rw [List.length_flatMap, List.map_congr_left fun x _ => h x, List.map_const', List.sum_replicate, smul_eq_mul]

/-! ## Records (R200) -/

@[simp] theorem cellBytes_length (x : Cell) : (cellBytes x).length = 3 := by cases x <;> rfl

/-- A result record takes 278 bytes. -/
@[simp] theorem recordBytes_length (r : ResultRecord) : (recordBytes r).length = 278 := by
  simp [recordBytes, flagByte, flatMap_length_of_const cellBytes_length,
    flatMap_length_of_const (beBytes_length 4)]

@[simp] theorem resultBytes_length (o : Option ResultRecord) : (resultBytes o).length = 278 := by
  cases o
  · simp [resultBytes, emptyRecordBytes]
  · exact recordBytes_length _

@[simp] theorem firstBytes_length (o : Option FirstRecord) (rows : BitVec 19) : (firstBytes o rows).length = 23 := by
  cases o <;> simp [firstBytes, flagByte]

@[simp] theorem reportPayload_length (r : WindowReport) : (reportPayload r).length = 288 := by
  simp [reportPayload, flagByte]

/-! ## The layouts, field by field (R197, R199, R200) -/

theorem flagByte_eq (b : Bool) : flagByte b = [if b then 1 else 0] := rfl

/-- The header and the summary of R199 before a payload, padded (R196). -/
theorem builtFrame_fields (dst src : Addr) (tag : BitVec 16) (code : Byte) (status : Status) (m : Summary)
    (p : List Byte) :
    builtFrame dst src tag code status m p =
      padFrame (fieldOf 6 dst.toNat ++ fieldOf 6 src.toNat ++ fieldOf 2 0xB5A1 ++ fieldOf 2 tag.toNat ++ [code] ++
        fieldOf 1 (statusCode status) ++ [m.tripped, m.alarmed] ++ fieldOf 1 m.eventsPending ++
        fieldOf 1 (storeStateCode m.store) ++
        fieldOf 1 (flagBit 0 m.defaulted + flagBit 1 m.forwardDrop + flagBit 2 m.reportSkipped) ++
        fieldOf 2 p.length ++ p) := by
  simp only [builtFrame, summaryBytes, beBytes_eq_fieldOf, List.append_assoc, List.cons_append, List.nil_append]

/-- A cell as R200 lays it out. -/
theorem cellBytes_eq :
    cellBytes = fun x => match x with
      | .absent => [0x00, 0, 0]
      | .notEvaluated => [0x01, 0, 0]
      | .value v l => fieldOf 1 (0x10 + l.rank) ++ fieldOf 2 v := by
  funext x
  cases x with
  | absent => rfl
  | notEvaluated => rfl
  | value v l => simp only [cellBytes, beBytes_eq_fieldOf, rowLevelCode]

/-- The code of a timing kind as one byte. -/
theorem kindCode_byte (k : WindowKind) :
    beBytes 1 (kindCode k) = [match k with
      | .unset => 0
      | .tracking => 3
      | .holdover => 4] := by cases k <;> rfl

/-- The result record of R200; its mean is signed (R196). -/
theorem recordBytes_fields (r : ResultRecord) :
    recordBytes r =
      [1] ++ fieldOf 4 r.number.toNat ++ fieldOf 2 r.startSeq ++ beBytes 1 (kindCode r.kind) ++ fieldOf 1 r.cycles ++
        fieldOf 2 r.m ++ fieldOf 4 r.frequency ++ fieldOf 2 r.held ++ fieldOf 2 r.clamped ++
        fieldOf 1 (recordMarks r) ++ [r.generation] ++ fieldOf 1 r.level.rank ++
        r.fundamentals.toList.flatMap (fieldOf 4) ++ fieldOf 4 (r.mean % 4294967296).toNat ++ fieldOf 4 r.rms ++
        fieldOf 4 r.spread ++ r.cells.toList.flatMap cellBytes := by
  have hfields : beBytes 4 = fieldOf 4 := funext (beBytes_eq_fieldOf 4)
  have hmean : signedBytes 4 r.mean = fieldOf 4 (r.mean % 4294967296).toNat := beBytes_eq_fieldOf ..
  rw [recordBytes, hmean, hfields]
  simp only [beBytes_eq_fieldOf, flagByte_eq, rowLevelCode, if_true]

/-- The payload of a window report (R200). -/
theorem reportPayload_fields (r : WindowReport) :
    reportPayload r =
      fieldOf 2 r.number.toNat ++ fieldOf 1 r.group.val ++ fieldOf 1 (levelCode r.levelUnit.level) ++
        fieldOf 1 r.levelUnit.bucket ++ fieldOf 1 r.levelUnit.leakCounter ++ fieldOf 1 r.levelUnit.run ++
        fieldOf 1 (timingCode r.timing) ++ [r.generation, if r.firstPresent then 1 else 0] ++
        recordBytes r.result := by
  simp only [reportPayload, beBytes_eq_fieldOf, flagByte_eq, List.append_assoc, List.cons_append, List.nil_append]

/-- The first-exceedance record and the next-row set, the record 0 where there is none (R146, R200). -/
theorem firstBytes_fields (o : Option FirstRecord) (rows : BitVec 19) :
    firstBytes o rows = match o with
      | none => List.replicate 20 0 ++ fieldOf 3 rows.toNat
      | some f =>
        [1] ++ fieldOf 4 f.number.toNat ++ fieldOf 1 f.row ++ fieldOf 1 f.slot.val ++ fieldOf 2 f.value ++
          fieldOf 2 f.threshold ++ fieldOf 1 f.level.rank ++ [f.generation, if f.degraded then 1 else 0] ++
          fieldOf 2 f.repeats ++ fieldOf 4 f.latest.toNat ++ fieldOf 3 rows.toNat := by
  cases o with
  | none => rw [firstBytes, beBytes_zero, beBytes_eq_fieldOf]
  | some f =>
    simp only [firstBytes, beBytes_eq_fieldOf, flagByte_eq, rowLevelCode, if_true, List.append_assoc, List.cons_append,
      List.nil_append]

/-- An empty result record is 0 but for its window level (R200). -/
theorem resultBytes_none : resultBytes none = List.replicate 21 0 ++ [0xFF] ++ List.replicate 256 0 := by
  rw [resultBytes, emptyRecordBytes, beBytes_zero, beBytes_zero]
  rfl

/-! ## The end of a transmission -/

theorem transmissionComplete_does {p : Port} {s t : State} (h : completeTransmission p s = t) :
    Does (.transmissionComplete p) s t := h ▸ rfl

theorem completeTransmission_free {s : State} {p : Port} (h : (portOf s p).sending = none) :
    completeTransmission p s = s := by
  simp [completeTransmission, h]

theorem completeTransmission_sending {s : State} {p : Port} {x : Transmission} (h : (portOf s p).sending = some x) :
    completeTransmission p s =
      if isResetAnswer x then resetByRequest s else setPort p { link := (portOf s p).link, sending := none } s := by
  simp [completeTransmission, h]

/-- Settles O28: the layouts by their fields, and the completion by what was under way at the port. -/
theorem transmissionCompletionFreesThePort : Obligations.TransmissionCompletionFreesThePort := by
  refine ⟨?_, fun s p => ⟨fun hfree => ?_, fun x hx hplain => ?_, fun a ha hreset => ?_⟩⟩
  · have hrecord (r : ResultRecord) := recordBytes_fields r
    simp only [kindCode_byte, cellBytes_eq] at hrecord
    refine ⟨fun t => rfl, fun l => rfl, fun a => ?_, fun r => ?_, rfl, fun check place => ?_, fun rows => ?_,
      fun o f rows => ⟨?_, ?_, ?_, ?_⟩, by decide⟩
    · exact builtFrame_fields ..
    · have hpayload := reportPayload_fields r
      rw [hrecord] at hpayload
      exact ⟨(builtFrame_fields ..).trans (hpayload ▸ rfl), hpayload ▸ reportPayload_length r⟩
    · exact congrArg₂ (· ++ ·) (beBytes_eq_fieldOf ..) (beBytes_eq_fieldOf ..)
    · exact beBytes_eq_fieldOf ..
    · simp [payloadBytes]
    · exact firstBytes_fields f rows
    · rintro rfl
      exact congrArg₂ (· ++ ·) resultBytes_none (firstBytes_fields f rows)
    · rintro r rfl
      exact congrArg₂ (· ++ ·) (hrecord r) (firstBytes_fields f rows)
  · exact transmissionComplete_does (completeTransmission_free hfree)
  · refine transmissionComplete_does ?_
    rw [completeTransmission_sending hx, hplain]
    rfl
  · refine ⟨_, transmissionComplete_does (t := resetByRequest s) ?_, partReset_isReset .released s, rfl⟩
    rw [completeTransmission_sending ha, isResetAnswer, hreset]
    rfl

end Sys2Proof.Machine
end

section
/-! READ ENTRY of the four tables (R23, R43, R111, R180). -/

namespace Sys2Proof.Machine

/-! ## A request of a table at the head of the queue -/

/-- A READ ENTRY or WRITE ENTRY at the head that names the command's table, with every fixed byte, is served (R174,
R179). -/
theorem serves_of_names {c : Instr} {k : RequestCode} {t : TableSelector} {n : Nat}
    {serve : Request → State → Reply} {s u : State} {r : Request} {rest : List Request} {st : Status} {p : Payload}
    (hexec : exec c s = act (takeRequest (hasTable k t) (withTable n serve) s)) (h : HeadNames s r rest k t n)
    (hserve : serve r (taken r rest s) = reply st p u) : Serves c s r st p u := by
  obtain ⟨hhead, hcode, htable, hcovers⟩ := h
  have hfixed : covers r 2 = true := by
    by_contra hno
    simp [tableOf, hno] at htable
  have hmine : hasTable k t r = true := by simp [hasTable, hasCode, hcode, htable]
  have hserved : withTable n serve r (taken r rest s) = reply st p u := by
    simp [withTable, withArgs, hfixed, htable, hcovers, hserve]
  rw [Serves, Does, hexec, takeRequest_of_head hhead hmine, hserved, placeAnswer_reply]
  rfl

/-! ## Arguments outside their range -/

theorem streamArg_eq_none {n : Nat} (h : 16 ≤ n) : streamArg n = none := dif_neg (Nat.not_lt.mpr h)

theorem groupArg_eq_none {n : Nat} (h : 8 ≤ n) : groupArg n = none := dif_neg (Nat.not_lt.mpr h)

theorem flagArg_eq_none {n : Nat} (h : 2 ≤ n) : flagArg n = none := by
  obtain ⟨m, rfl⟩ := Nat.exists_eq_add_of_le' h
  rfl

theorem rowsInRange_iff {first count : Nat} :
    rowsInRange first count = true ↔ first ≤ 18 ∧ 1 ≤ count ∧ count ≤ 19 ∧ first + count ≤ 19 := by
  simp [rowsInRange, and_assoc]

/-! ## READ ENTRY -/

theorem serveReadLimits_refused {r : Request}
    (h : 8 ≤ argOf r 1 ∨ 2 ≤ argOf r 2 ∨ rowsInRange (argOf r 3) (argOf r 4) = false) (s : State) :
    serveReadLimits r s = refuse .badField s := by
  unfold serveReadLimits
  obtain hgroup | hbank | hrows := h
  · rw [groupArg_eq_none hgroup]
  · rw [flagArg_eq_none hbank]
    cases groupArg (argOf r 1) <;> rfl
  · split
    · simp [hrows]
    · rfl

/-- Settles O46: each table's reader where its arguments name an entry, and where they do not. -/
theorem readEntryReturnsTheTables : Obligations.ReadEntryReturnsTheTables := by
  refine ⟨fun _ _ => rowsInRange_iff, fun s r rest => ⟨fun h => ⟨fun i hi => ?_, fun hout => ?_⟩,
    fun h => ⟨fun g hg => ?_, fun hout => ?_⟩, fun h => ⟨fun g next hg hnext hrows => ?_, fun hout => ?_⟩,
    fun h => serves_of_names rfl h rfl⟩⟩ <;>
  refine serves_of_names rfl h ?_
  · simp only [serveReadStream, hi]; rfl
  · simp only [serveReadStream, streamArg_eq_none hout]; rfl
  · simp only [serveReadGroup, hg]; rfl
  · simp only [serveReadGroup, groupArg_eq_none hout]; rfl
  · simp only [serveReadLimits, hg, hnext, hrows]; rfl
  · exact serveReadLimits_refused hout _

end Sys2Proof.Machine
end

section
/-! WRITE ENTRY of a stream entry (R21, R22, R39). -/

namespace Sys2Proof.Machine

/-! ## The entry that the arguments carry (R199) -/

theorem parseStreamEntry_eq_some {b : List Byte} {e : StreamEntry} :
    parseStreamEntry b = some e ↔
      flagArg (beNat b 2 1) = some e.valid ∧ e.matchId = be16 b 3 ∧ e.ignoreMask = be16 b 5 ∧
        rateArg (beNat b 7 2) = some e.rate ∧ e.valueCount = beNat b 9 1 ∧
        byteOrderArg (beNat b 10 1) = some e.byteOrder ∧ annexModeArg (beNat b 11 1) = some e.annexMode ∧
        groupArg (beNat b 12 1) = some e.annexGroup ∧ e.silence = beNat b 13 1 := by
  obtain ⟨valid, matchId, ignoreMask, rate, valueCount, byteOrder, annexMode, annexGroup, silence⟩ := e
  simp only [parseStreamEntry, bind, pure, Option.bind_eq_some_iff, Option.some.injEq, StreamEntry.mk.injEq]
  constructor
  · rintro ⟨_, hvalid, _, hrate, _, horder, _, hmode, _, hgroup, rfl, rfl, rfl, rfl, rfl, rfl, rfl, rfl, rfl⟩
    exact ⟨hvalid, rfl, rfl, hrate, rfl, horder, hmode, hgroup, rfl⟩
  · rintro ⟨hvalid, rfl, rfl, hrate, rfl, horder, hmode, hgroup, rfl⟩
    exact ⟨_, hvalid, _, hrate, _, horder, _, hmode, _, hgroup, rfl, rfl, rfl, rfl, rfl, rfl, rfl, rfl, rfl⟩

/-- A 16-bit field is known by its number. -/
theorem eq_be16_iff {x : BitVec 16} {l : List Byte} {i : Nat} : x = be16 l i ↔ x.toNat = numberAt l i 2 := by
  rw [← be16_toNat, BitVec.toNat_inj]

/-! ## The stream in use (R22, R30) -/

theorem names_iff {g : Group} {i : StreamId} : g.names i = true ↔ g.enabled = true ∧ g.config.stream = i := by
  simp [Group.names]

theorem streamNamed_iff {s : State} {i : StreamId} :
    streamNamed s i = true ↔ ∃ g : GroupId, s.groups[g].enabled = true ∧ s.groups[g].config.stream = i := by
  simp [streamNamed, names_iff, mem_groupIxs]

/-! ## The entries of a stream leave the Analysis Queue (R22, R39) -/

theorem discardStream_eq (p : PartSettings) (i : StreamId) (q : AnalysisQueue) :
    let kept := q.entries.filter (fun x => decide (x.stream ≠ i))
    let headGone : Bool := (q.entries.head?.map (fun x => decide (x.stream = i))).getD false
    discardStream p i q =
      { entries := kept
        served := if headGone then [] else q.served
        noticeAtLeave := q.noticeAtLeave && !headGone
        suspended := if kept.length < q.entries.length ∧ kept.length ≤ p.low then false else q.suspended } := by
  obtain ⟨entries, served, noticeAtLeave, suspended⟩ := q
  cases entries with
  | nil => simp [discardStream]
  | cons e l =>
    dsimp only [discardStream, List.head?_cons, Option.map_some, Option.getD_some]
    by_cases hless : ((e :: l).filter (fun x => decide (x.stream ≠ i))).length < (e :: l).length
    · rw [if_pos hless, resumeOnLeave]
      simp only [hless, true_and]
      split <;> rfl
    · rw [if_neg hless]
      simp only [hless, false_and, if_false]

/-! ## The write -/

/-- The answer to a write says DONE exactly when what is stored is what was carried (R176). -/
theorem doneIf_differs {α : Type} [DecidableEq α] (stored carried : α) (p : Payload) (s : State) :
    doneIf (decide (stored ≠ carried)) p s = reply (if stored = carried then .done else .doneClamped) p s := by
  by_cases h : stored = carried <;> simp [doneIf, h]

theorem serveWriteStream_refused {r : Request} (h : 16 ≤ argOf r 1 ∨ parseStreamEntry r.body = none) (s : State) :
    serveWriteStream r s = refuse .badField s := by
  unfold serveWriteStream
  obtain hindex | hentry := h
  · rw [streamArg_eq_none hindex]
  · rw [hentry]
    cases streamArg (argOf r 1) <;> rfl

/-- Settles O47: the fields of the entry one by one, the two refusals, the stored entry with its status, and the
queue. -/
theorem writeEntryStoresAStreamEntry : Obligations.WriteEntryStoresAStreamEntry := by
  refine ⟨fun b e => ?_, fun s r rest h => ⟨fun hout => serves_of_names rfl h (serveWriteStream_refused hout _),
    fun i e hi he => ⟨fun hused => ?_, fun hfree => ⟨?_, discardStream_eq ..⟩⟩⟩⟩
  · simp only [parseStreamEntry_eq_some, flagArg_eq_some, rateArg_eq_some, byteOrderArg_eq_some, annexModeArg_eq_some,
      groupArg_eq_some, eq_be16_iff, numberAt_eq_beNat]
  · refine serves_of_names rfl h ?_
    have hnamed : streamNamed (taken r rest s) i = true := streamNamed_iff.mpr hused
    simp only [serveWriteStream, hi, he, hnamed]
    rfl
  · refine serves_of_names rfl h ?_
    have hnamed : streamNamed (taken r rest s) i = false :=
      Bool.eq_false_iff.mpr fun hn => (streamNamed_iff.mp hn).elim hfree
    simp only [serveWriteStream, hi, he, hnamed]
    exact doneIf_differs ..

end Sys2Proof.Machine
end

section
/-! The rate check (R33), stream by stream in rising order. -/

namespace Sys2Proof.Machine

/-- A table whose members named by a list are replaced one after the other. -/
theorem foldl_upd_get {α : Type} {n : Nat} (f : Fin n → α) (l : List (Fin n)) (v : Vector α n) (j : Fin n) :
    (l.foldl (fun v i => upd v i (f i)) v)[j] = if j ∈ l then f j else v[j] := by
  induction l generalizing v with
  | nil => simp
  | cons i l ih =>
    rw [List.foldl_cons, ih, upd_get_fin]
    by_cases hl : j ∈ l
    · simp [hl]
    · by_cases hi : i = j
      · subst hi; simp
      · simp [hl, hi, Ne.symm hi]

/-- What the rate check raises at a stream: an event if its rate status changes (R33). -/
def rateEvent (s : State) (q : EventQueue) (i : StreamId) : EventQueue :=
  if rateStatus s.streams[i].rate s.supervision[i] = s.supervision[i].suspect then q
  else createEvent s.timer (if rateStatus s.streams[i].rate s.supervision[i] then .rateSuspect i else .rateOk i) none q

theorem rateCheckAt_eq (s : State) (i : StreamId) :
    rateCheckAt s i =
      { s with supervision := upd s.supervision i (rateRecord s.streams[i].rate s.supervision[i]),
               events := rateEvent s s.events i } := by
  dsimp only [rateCheckAt, rateEvent]
  split <;> rfl

/-- The check of distinct streams that have not been checked: each by its record as it stood before. -/
theorem foldl_rateCheckAt {s : State} {l : List StreamId} (hl : l.Nodup) {u : State}
    (hu : ∀ i ∈ l, u.supervision[i] = s.supervision[i]) (hstreams : u.streams = s.streams)
    (htimer : u.timer = s.timer) :
    l.foldl rateCheckAt u =
      { u with
          supervision := l.foldl (fun v i => upd v i (rateRecord s.streams[i].rate s.supervision[i])) u.supervision
          events := l.foldl (rateEvent s) u.events } := by
  induction l generalizing u with
  | nil => rfl
  | cons i l ih =>
    obtain ⟨hi, hl⟩ := List.nodup_cons.mp hl
    have hrecord := hu i List.mem_cons_self
    have hevent : rateEvent u u.events i = rateEvent s u.events i := by
      simp only [rateEvent, hrecord, hstreams, htimer]
    have hstep : rateCheckAt u i =
        { u with supervision := upd u.supervision i (rateRecord s.streams[i].rate s.supervision[i]),
                 events := rateEvent s u.events i } := by
      rw [rateCheckAt_eq, hrecord, hevent, hstreams]
    rw [List.foldl_cons, hstep]
    refine ih hl (fun j hj => ?_) hstreams htimer
    rw [upd_get_fin, if_neg (ne_of_mem_of_not_mem hj hi).symm]
    exact hu j (List.mem_cons_of_mem i hj)

theorem streamIxs_nodup : streamIxs.Nodup := by decide

/-- The rate check judges every stream by its record as it stood at the interval's end (R33). -/
theorem rateCheck_eq (s : State) :
    rateCheck s =
      { s with
          rateDue := false
          supervision :=
            streamIxs.foldl (fun v i => upd v i (rateRecord s.streams[i].rate s.supervision[i])) s.supervision
          events := streamIxs.foldl (rateEvent s) s.events } :=
  foldl_rateCheckAt streamIxs_nodup (u := { s with rateDue := false }) (fun _ _ => rfl) rfl rfl

/-- The judgement of R33 in numbers that are not negative. -/
theorem rateStatus_eq (rate : Rate) (r : Supervision) :
    rateStatus rate r =
      if r.activity = .active ∧ r.fullInterval = true then
        decide (rate.samples / 64 < r.count - rate.samples ∨ rate.samples / 64 < rate.samples - r.count)
      else r.suspect := by
  have htolerance : rate.samples / 64 < ((r.count : Int) - rate.samples).natAbs ↔
      rate.samples / 64 < r.count - rate.samples ∨ rate.samples / 64 < rate.samples - r.count := by omega
  simp only [rateStatus, rateJudged, outOfTolerance, Bool.and_eq_true, decide_eq_true_eq, htolerance]

/-- Settles O30: the check as one act on every record, and the judgement in its numbers. -/
theorem rateChecksJudgeEveryStream : Obligations.RateChecksJudgeEveryStream := by
  refine fun s => ⟨fun hnone => ?_, fun hdue => ⟨driveLines (rateCheck s), ?_, ?_, ?_, fun i => ?_⟩⟩
  · show act (takeRateCheck s) = _
    rw [takeRateCheck, hnone]
    rfl
  · show act (takeRateCheck s) = _
    rw [takeRateCheck, hdue]
    rfl
  · rw [rateCheck_eq]
    rfl
  · simp only [driveLines_events, rateCheck_eq, ← rateStatus_eq]
    rfl
  · simp only [driveLines_supervision, rateCheck_eq, foldl_upd_get, mem_streamIxs, if_true, rateRecord, rateStatus_eq]

end Sys2Proof.Machine
end

section
/-! The Stream Supervisor on an admitted frame (R27 to R31) and the entry that a taken one queues (R34 to R36, R39). -/

namespace Sys2Proof.Machine

/-! ## Differences modulo S (R29, R61) -/

/-- The difference modulo `size` that the model forms without leaving the natural numbers. -/
theorem wrapped_sub (q x : Nat) {size : Nat} (hsize : 0 < size) :
    (((q + size - x % size) % size : Nat) : Int) = ((q : Int) - x) % size := by
  have hle : x % size ≤ q + size := (Nat.mod_lt x hsize).le.trans (Nat.le_add_left size q)
  rw [Int.natCast_mod, Nat.cast_sub hle]
  refine Int.emod_eq_emod_iff_emod_sub_eq_zero.mpr (Int.emod_eq_zero_of_dvd ⟨1 + x / size, ?_⟩)
  have hx := Int.mul_ediv_add_emod (x : Int) size
  push_cast
  linarith

theorem samples_pos (r : Rate) : 0 < r.samples := by cases r <;> decide

theorem distance_le_iff {rate : Rate} {expected q bound : Nat} :
    distance rate expected q ≤ bound ↔ ¬((bound : Int) < ((q : Int) - expected) % rate.samples) := by
  rw [← wrapped_sub q expected (samples_pos rate), distance]
  omega

/-! ## The values of a frame (R34, R35) -/

theorem signed32_eq {x : Nat} (hx : x < 4294967296) :
    signed32 x = if (x : Int) < 2147483648 then (x : Int) else (x : Int) - 4294967296 := by
  rw [signed32, BitVec.toInt_eq_toNat_cond, BitVec.toNat_ofNat, Nat.mod_eq_of_lt hx]
  split <;> split <;> omega

theorem leNat_lt (l : List Byte) (i n : Nat) : leNat l i n < 256 ^ n := by
  induction n generalizing i with
  | zero => exact Nat.one_pos
  | succ n ih =>
    have hbyte := (byteAt l i).isLt
    have hrest := ih (i + 1)
    rw [leNat, pow_succ]
    omega

/-- A value position with its mark, byte by byte. -/
theorem takenValue_eq (l : List Byte) (o : ByteOrder) (n : Nat) :
    let b (k : Nat) : Int := (byteAt l (20 + 4 * n + k)).toNat
    let raw : Int :=
      if o = .big then ((b 0 * 256 + b 1) * 256 + b 2) * 256 + b 3 else ((b 3 * 256 + b 2) * 256 + b 1) * 256 + b 0
    let v : Int := if raw < 2147483648 then raw else raw - 4294967296
    intakeValue (validityOf l n) (rawValueOf l o n) =
      if (byteAt l 19).getLsbD n = false then { value := 0, mark := .invalid }
      else if 8388607 < v then { value := 8388607, mark := .clamped }
      else if v < -8388607 then { value := -8388607, mark := .clamped }
      else { value := v, mark := .plain } := by
  intro b raw v
  have hraw : rawValueOf l o n = v := by
    cases o with
    | big =>
      have hbytes : ((beNat l (20 + 4 * n) 4 : Nat) : Int) = raw := by
        simp [beNat, raw, b]
      rw [rawValueOf, signed32_eq (beNat_lt l _ 4), hbytes]
    | little =>
      have hbytes : ((leNat l (20 + 4 * n) 4 : Nat) : Int) = raw := by
        simp [leNat, raw, b]
        ring
      rw [rawValueOf, signed32_eq (leNat_lt l _ 4), hbytes]
  rw [hraw, intakeValue, validityOf]
  cases (byteAt l 19).getLsbD n <;> rfl

/-! ## The intake (R30, R35, R36, R39) -/

/-- The entry that a taken frame of stream `i` offers to the Analysis Queue (R35). -/
def takenEntry (s : State) (i : StreamId) (l : List Byte) : QueueEntry :=
  { stream := i, seq := seqOf l, values := intakeValues l s.streams[i].byteOrder s.streams[i].valueCount,
    suspect := s.supervision[i].suspect, silenceFollows := false }

/-- The Analysis Queue after a taken frame of stream `i`. -/
def queueAfter (s : State) (i : StreamId) (l : List Byte) : AnalysisQueue :=
  if streamNamed s i then offerEntry s.settings (takenEntry s i l) s.queue else s.queue

theorem intakeFrame_eq (i : StreamId) (l : List Byte) (s : State) :
    intakeFrame i l s = { s with queue := queueAfter s i l } := by
  unfold intakeFrame queueAfter
  split <;> rfl

theorem queueAfter_room {s : State} {i : StreamId} {l : List Byte}
    (hnamed : ∃ g : GroupId, s.groups[g].enabled = true ∧ s.groups[g].config.stream = i)
    (hroom : s.queue.entries.length < 48) :
    queueAfter s i l =
      { s.queue with
          entries := s.queue.entries ++ [takenEntry s i l]
          suspended := s.queue.suspended || decide (s.settings.high ≤ s.queue.entries.length + 1) } := by
  rw [queueAfter, if_pos (streamNamed_iff.mpr hnamed), offerEntry, if_pos hroom, suspendOnAdd]
  by_cases hhigh : s.settings.high ≤ s.queue.entries.length + 1 <;> simp [hhigh]

theorem queueAfter_kept {s : State} {i : StreamId} {l : List Byte}
    (h : ¬((∃ g : GroupId, s.groups[g].enabled = true ∧ s.groups[g].config.stream = i) ∧
      s.queue.entries.length < 48)) : queueAfter s i l = s.queue := by
  unfold queueAfter
  split
  · rename_i hnamed
    exact if_neg fun hroom => h ⟨streamNamed_iff.mp hnamed, hroom⟩
  · rfl

/-! ## Supervision (R27 to R31) -/

theorem rangeFrame_eq (i : StreamId) (s : State) :
    rangeFrame i s =
      { s with
          supervision := upd s.supervision i
            { s.supervision[i] with
                rangeMark := true
                deadline := if s.supervision[i].activity = .active then deadlineOf s i
                  else s.supervision[i].deadline }
          events := if s.supervision[i].rangeMark then s.events
            else createEvent s.timer (.sequenceRange i) none s.events } := by
  dsimp only [rangeFrame]
  by_cases hmark : s.supervision[i].rangeMark = true
  · rw [if_pos hmark, if_pos hmark]
    rfl
  · rw [if_neg hmark, if_neg hmark]
    rfl

/-- A record that keeps the rate status changes nothing of the entry. -/
theorem intakeFrame_setSupervision {s : State} {i : StreamId} {l : List Byte} {r : Supervision}
    (h : r.suspect = s.supervision[i].suspect) :
    intakeFrame i l (setSupervision i r s) =
      { s with supervision := upd s.supervision i r, queue := queueAfter s i l } := by
  have hentry : takenEntry (setSupervision i r s) i l = takenEntry s i l := by
    simp only [takenEntry, setSupervision_supervision, upd_get_same, h, setSupervision_streams]
  rw [intakeFrame_eq, queueAfter, hentry]
  rfl

theorem intakeFrame_raiseAt (e : Event) (i : StreamId) (l : List Byte) (s : State) :
    intakeFrame i l (raiseAt e s) = raiseAt e (intakeFrame i l s) := by
  simp only [intakeFrame_eq]
  rfl

theorem wakingFrame_eq (i : StreamId) (l : List Byte) (s : State) :
    wakingFrame i l s =
      { s with
          supervision := upd s.supervision i
            { s.supervision[i] with
                activity := .active, expected := (seqOf l + 1) % s.streams[i].rate.samples, deadline := deadlineOf s i,
                count := min 65535 (s.supervision[i].count + 1), fullInterval := false, rangeMark := false,
                lastSync := syncOf l }
          queue := queueAfter s i l
          events := createEvent s.timer (.streamActive i) none s.events } := by
  rw [wakingFrame, intakeFrame_raiseAt]
  refine (congrArg (raiseAt _) (intakeFrame_setSupervision ?_)).trans ?_ <;> rfl

theorem activeFrame_taken {i : StreamId} {l : List Byte} {s : State}
    (h : distance s.streams[i].rate s.supervision[i].expected (seqOf l) ≤ s.streams[i].rate.samples / 2) :
    activeFrame i l s =
      { s with
          supervision := upd s.supervision i
            { s.supervision[i] with
                expected := (seqOf l + 1) % s.streams[i].rate.samples, deadline := deadlineOf s i,
                count := min 65535 (s.supervision[i].count + 1), lastSync := syncOf l }
          queue := queueAfter s i l } := by
  rw [activeFrame]
  exact (if_pos h).trans (intakeFrame_setSupervision rfl)

theorem activeFrame_late {i : StreamId} {l : List Byte} {s : State}
    (h : ¬distance s.streams[i].rate s.supervision[i].expected (seqOf l) ≤ s.streams[i].rate.samples / 2) :
    activeFrame i l s = setSupervision i { s.supervision[i] with deadline := deadlineOf s i } s := if_neg h

/-- Of the supervision records only that of the frame's stream changes. -/
theorem superviseFrame_supervision (i : StreamId) (l : List Byte) (s : State) :
    ∃ r, (superviseFrame i l s).supervision = upd s.supervision i r := by
  unfold superviseFrame
  split
  · exact ⟨_, by rw [rangeFrame_eq]⟩
  · split
    · by_cases h : distance s.streams[i].rate s.supervision[i].expected (seqOf l) ≤ s.streams[i].rate.samples / 2
      · exact ⟨_, by rw [activeFrame_taken h]⟩
      · exact ⟨_, by rw [activeFrame_late h, setSupervision_supervision]⟩
    · exact ⟨_, by rw [wakingFrame_eq]⟩

/-! ## The arrival -/

/-- The state in which the supervisor meets an arriving frame: the frame has been offered to the Forward FIFO. -/
theorem arriveA_admitted {l : List Byte} {s : State} {i : StreamId} (htype : typeWord l = 0xB5A0)
    (hmatch : matchStream s (streamIdOf l) = some i) :
    ∃ path, arriveA l s = superviseFrame i l { s with path := path } := by
  have hm : matchOf s l = some i := by rw [matchOf, if_pos htype, hmatch]
  have harrive : arriveA l s = superviseFrame i l (offerForward { bytes := l, stream := some i } s) := by
    simp only [arriveA, hm]
  exact ⟨_, harrive.trans (congrArg (superviseFrame i l) (offerForward_eq ..))⟩

/-- Settles O24: the fields of a frame, then the four outcomes of supervision, each with its record, queue and
events. -/
theorem admittedFramesAreSupervised : Obligations.AdmittedFramesAreSupervised := by
  refine ⟨fun l => ⟨be16_toNat l 12, be16_toNat l 14, (numberAt_eq_beNat l 16 2).symm, rfl⟩, ?_⟩
  intro s f i harrives htype hmatch r size q late deadline raw value entry queued
  obtain ⟨path, harrive⟩ := arriveA_admitted htype hmatch
  have hentry : takenEntry s i f.bytes = entry := by
    simp only [takenEntry, intakeValues, takenValue_eq]
    rfl
  have hqueue : queueAfter s i f.bytes = queued := by
    by_cases hroom : (∃ g : GroupId, s.groups[g].enabled = true ∧ s.groups[g].config.stream = i) ∧
        s.queue.entries.length < 48
    · exact ((queueAfter_room hroom.1 hroom.2).trans (by rw [hentry])).trans (if_pos hroom).symm
    · exact (queueAfter_kept hroom).trans (if_neg hroom).symm
  have hlate : distance s.streams[i].rate s.supervision[i].expected (seqOf f.bytes) ≤ size / 2 ↔ ¬late :=
    distance_le_iff
  refine ⟨driveLines (superviseFrame i f.bytes { s with path := path }),
    frameArrival_does ((receiveFrame_a harrives).trans harrive), ?_, ?_, ?_, ?_, ?_, ?_⟩
  · intro j hj
    obtain ⟨record, hrecord⟩ := superviseFrame_supervision i f.bytes { s with path := path }
    rw [driveLines_supervision, hrecord, upd_get_ne _ _ hj.symm]
  · obtain ⟨_, _, _, hframe⟩ := superviseFrame_supervises i f.bytes { s with path := path }
    rw [hframe]
    rfl
  · intro hrange
    rw [superviseFrame, if_pos hrange, rangeFrame_eq]
    exact ⟨upd_get_same .., rfl, rfl⟩
  · intro hrange hactive
    rw [superviseFrame, if_neg (Nat.not_le.mpr hrange), if_neg hactive, wakingFrame_eq]
    exact ⟨upd_get_same .., hqueue, rfl⟩
  · intro hrange hactive hnotLate
    rw [superviseFrame, if_neg (Nat.not_le.mpr hrange), if_pos hactive,
      activeFrame_taken (s := { s with path := path }) (hlate.mpr hnotLate)]
    exact ⟨upd_get_same .., hqueue, rfl⟩
  · intro hrange hactive hisLate
    rw [superviseFrame, if_neg (Nat.not_le.mpr hrange), if_pos hactive,
      activeFrame_late (s := { s with path := path }) (fun h => hlate.mp h hisLate)]
    exact ⟨upd_get_same .., rfl, rfl⟩

end Sys2Proof.Machine
end

section
/-! A step on an empty queue: the due acts as the commands of the time limits take them, and the two clocks (R31, R33,
R186, R190, R192). -/

namespace Sys2Proof.Machine

/-! ## The acts of the time limits do not read the lines -/

/-- An act whose outcome does not depend on how the lines are driven, but for those lines. -/
def IgnoresLines (f : State → State) : Prop := 
  ∀ (s : State) (l : Lines), ∃ l', f { s with lines := l } = { f s with lines := l' }

theorem IgnoresLines.comp {f f' : State → State} (h : IgnoresLines f) (h' : IgnoresLines f') :
    IgnoresLines (f' ∘ f) := by
  intro s l
  obtain ⟨m, hm⟩ := h s l
  obtain ⟨n, hn⟩ := h' (f s) m
  exact ⟨n, by rw [Function.comp, hm, hn]; rfl⟩

theorem IgnoresLines.foldl {α : Type} {f : State → α → State} (h : ∀ a, IgnoresLines (f · a)) (l : List α) :
    IgnoresLines (l.foldl f ·) := by
  induction l with
  | nil => exact fun _ m => ⟨m, rfl⟩
  | cons a l ih => exact (h a).comp ih

theorem IgnoresLines.ite {c : State → Prop} [DecidablePred c] {f f' : State → State}
    (hc : ∀ s l, c { s with lines := l } ↔ c s) (h : IgnoresLines f) (h' : IgnoresLines f') :
    IgnoresLines fun s => if c s then f s else f' s := by
  intro s l
  by_cases hs : c s
  · simpa only [hs, hc, if_true] using h s l
  · simpa only [hs, hc, if_false] using h' s l

theorem startOnDefaults_ignoresLines : IgnoresLines startOnDefaults := fun _ l => ⟨l, rfl⟩

theorem id_ignoresLines : IgnoresLines id := fun _ l => ⟨l, rfl⟩

theorem imageReadTimeOut_ignoresLines : IgnoresLines imageReadTimeOut :=
  .ite (fun _ _ => Iff.rfl) startOnDefaults_ignoresLines id_ignoresLines

theorem faultStore_ignoresLines : IgnoresLines faultStore :=
  .ite (fun _ _ => Iff.rfl) (fun _ l => ⟨l, rfl⟩) id_ignoresLines

theorem storeTimeOut_ignoresLines : IgnoresLines storeTimeOut :=
  .ite (fun _ _ => Iff.rfl) faultStore_ignoresLines id_ignoresLines

theorem resetPartTimeOut_ignoresLines : IgnoresLines resetPartTimeOut := by
  intro s l
  unfold resetPartTimeOut
  dsimp only
  split
  · exact IgnoresLines.ite (c := fun s => limitReached s _ Config.resetPartLimit = true) (fun _ _ => Iff.rfl)
      (fun s _ => ⟨(resetByRequest s).lines, rfl⟩) id_ignoresLines s l
  · exact ⟨l, rfl⟩

theorem noticeGroup_ignoresLines (i : StreamId) (g : GroupId) : IgnoresLines (noticeGroup i · g) :=
  .ite (fun _ _ => Iff.rfl) (fun _ l => ⟨l, rfl⟩) id_ignoresLines

theorem placeNotice_ignoresLines (i : StreamId) : IgnoresLines (placeNotice i) :=
  .ite (fun _ _ => Iff.rfl) (fun _ l => ⟨l, rfl⟩)
    (.ite (fun _ _ => Iff.rfl) (fun _ l => ⟨l, rfl⟩) (.foldl (noticeGroup_ignoresLines i) groupIxs))

theorem goSilent_ignoresLines (i : StreamId) : IgnoresLines (goSilent i) :=
  IgnoresLines.comp (f' := placeNotice i) (fun _ l => ⟨l, rfl⟩) (placeNotice_ignoresLines i)

theorem takeDeadline_ignoresLines (i : StreamId) : IgnoresLines (takeDeadline · i) :=
  .ite (fun _ _ => Iff.rfl) (goSilent_ignoresLines i) id_ignoresLines

theorem takeRateCheck_ignoresLines : IgnoresLines takeRateCheck :=
  .ite (fun _ _ => Iff.rfl) (fun s l => ⟨l, by rw [rateCheck_eq, rateCheck_eq]; rfl⟩) id_ignoresLines

/-! ## The commands of the time limits -/

/-- The commands of the part's own time limits in the order that log entry 3 fixes. -/
def limitCommands : List Instr :=
  [.imageReadTimeLimit, .storeTimeLimit, .resetPartTimeLimit] ++ streamIxs.map .silenceDeadline ++ [.rateIntervalEnd]

/-- What a command of a time limit does before the lines are driven. -/
def limitAct (s : State) (c : Instr) : State :=
  match c with
  | .imageReadTimeLimit => imageReadTimeOut s
  | .storeTimeLimit => storeTimeOut s
  | .resetPartTimeLimit => resetPartTimeOut s
  | .silenceDeadline i => takeDeadline s i
  | .rateIntervalEnd => takeRateCheck s
  | _ => s

theorem exec_of_limit {c : Instr} (h : c ∈ limitCommands) (s : State) : exec c s = act (limitAct s c) := by
  simp only [limitCommands, List.cons_append, List.nil_append, List.mem_cons, List.mem_append, List.mem_map,
    List.not_mem_nil, or_false] at h
  obtain rfl | rfl | rfl | ⟨_, _, rfl⟩ | rfl := h <;> rfl

theorem limitAct_ignoresLines (c : Instr) : IgnoresLines (limitAct · c) := by
  unfold limitAct
  split
  · exact imageReadTimeOut_ignoresLines
  · exact storeTimeOut_ignoresLines
  · exact resetPartTimeOut_ignoresLines
  · exact takeDeadline_ignoresLines _
  · exact takeRateCheck_ignoresLines
  · exact id_ignoresLines

theorem foldl_limitAct (s : State) : limitCommands.foldl limitAct s = takeDue s := by
  simp only [limitCommands, List.foldl_append, List.foldl_map, List.foldl_cons, List.foldl_nil, limitAct, takeDue]

/-- Commands of time limits taken one after the other drive the lines in between, which no later act reads. -/
theorem foldl_exec {also : Host.Outcome State Fault Refusal → Instr → Host.Outcome State Fault Refusal}
    (halso : ∀ s c, also (.next s) c = exec c s) {cs : List Instr} (hcs : ∀ c ∈ cs, c ∈ limitCommands) (s : State)
    (l : Lines) :
    ∃ l', cs.foldl also (.next { s with lines := l }) = .next { cs.foldl limitAct s with lines := l' } := by
  induction cs generalizing s l with
  | nil => exact ⟨l, rfl⟩
  | cons c cs ih =>
    obtain ⟨m, hm⟩ : ∃ m, limitAct { s with lines := l } c = { limitAct s c with lines := m } :=
      limitAct_ignoresLines c s l
    rw [List.foldl_cons, List.foldl_cons, halso, exec_of_limit (hcs c List.mem_cons_self), hm]
    exact ih (fun d hd => hcs d (List.mem_cons_of_mem c hd)) (limitAct s c) _

/-! ## Where nothing is due -/

theorem takeDue_idle {s : State} (hpower : s.power = .released) (himage : ¬(s.switch = .bypass ∧ s.timer = 200))
    (hstore : ¬(s.store.busy = true ∧ s.timer - s.store.taken = 400))
    (hreset : ∀ t, s.mgmt.resetTaken = some t → s.timer - t ≠ 500)
    (hsilence : ∀ i : StreamId, ¬(s.supervision[i].activity = .active ∧ s.supervision[i].deadline = some s.timer))
    (hrate : s.rateDue = false) : takeDue s = s := by
  have hread : imageReadTimeOut s = s := if_neg fun ⟨hstart, hlimit⟩ => himage (by
    cases hswitch : s.switch <;> simp_all [State.startingUp, State.isInLine, limitReached])
  have hwrite : storeTimeOut s = s := by
    rw [storeTimeOut, faultStore]
    by_cases hbusy : s.store.busy = true
    · exact if_neg fun hlimit => hstore ⟨hbusy, of_decide_eq_true hlimit⟩
    · simp [hbusy]
  have hpending : resetPartTimeOut s = s := by
    unfold resetPartTimeOut
    split
    · rename_i t ht
      exact if_neg fun hlimit => hreset t ht (of_decide_eq_true hlimit)
    · rfl
  have hstream : ∀ i : StreamId, takeDeadline s i = s := fun i =>
    if_neg fun hdue => hsilence i (by simpa [silenceDue] using hdue)
  rw [takeDue, hread, hwrite, hpending, List.foldl_fixed' hstream, takeRateCheck, hrate]
  rfl

/-! ## The clocks (R33, R192) -/

theorem takeRateCheck_rateDue (s : State) : (takeRateCheck s).rateDue = false := by
  unfold takeRateCheck
  split
  · rw [rateCheck_eq]
  · simp_all

/-- With no rate check waiting, one falls due exactly where the interval clock returns to 0. -/
theorem countRate_countTimer {s : State} (h : s.rateDue = false) :
    countRate (countTimer s) =
      { s with timer := s.timer + 1, rateClock := if s.rateClock + 1 < 1000 then s.rateClock + 1 else 0,
               rateDue := decide (1000 ≤ s.rateClock + 1) } := by
  by_cases hclock : s.rateClock + 1 < 1000
  · simp [countRate, countTimer, hclock, Nat.not_le.mpr hclock, h]
  · simp [countRate, countTimer, hclock, Nat.not_lt.mp hclock]

theorem step_empty {s : State} (h : s.pending = []) : step s = act (tick s) := by rw [step, h]

theorem tick_released {s : State} (h : s.power = .released) : tick s = countRate (countTimer (takeDue s)) := if_pos h

/-- Settles O2: the due acts are those of the commands but for the lines, which no act reads and the end of the step
drives; then the clocks. -/
theorem emptyQueueLetsOneMillisecondPass : Obligations.EmptyQueueLetsOneMillisecondPass := by
  intro s hempty limits also counted
  refine ⟨fun hheld => ?_, fun hpower => ?_, fun hpower himage hstore hreset hsilence hrate => ?_⟩ <;>
  rw [step_empty hempty]
  · rw [tick, if_neg hheld]
    rfl
  · obtain ⟨l, hl⟩ := foldl_exec (also := also) (fun _ _ => rfl) (fun _ h => h) s s.lines
    refine ⟨_, hl, ?_⟩
    rw [tick_released hpower, countRate_countTimer (s := takeDue s) (takeRateCheck_rateDue _),
      foldl_limitAct]
    generalize takeDue s = u
    rfl
  · rw [tick_released hpower, takeDue_idle hpower himage hstore hreset hsilence hrate, countRate_countTimer hrate]
    rfl

end Sys2Proof.Machine
end

section
/-! The silence notice (R31, R32, R60): what it does at one group, at every group that names the stream, and at the
capture slots; where it is placed; and the deadline that places it. -/

namespace Sys2Proof.Machine

/-! ## A notice at one group (R60, R77) -/

/-- The set whose window a notice aborts: that of the open window (R58, R77). -/
def abortedIn (x : Group) : Option SetIx := if windowOpen x.tracker then setIn .accumulating x.sets else none

/-- The set that waits for a holdover window, which a notice clears (R58, R60). -/
def waitingIn (x : Group) : Option SetIx :=
  if windowOpen x.tracker = false ∧ x.tracker.timing = .holdover then setIn .accumulating x.sets else none

/-- The group in NO-SIGNAL with its marks and counts clear (R60). -/
def quieted (x : Group) : Group :=
  { x with
      tracker :=
        { x.tracker with
            timing := .noSignal, armed := false, cycleCount := none, lockCount := 0, winCycles := 0, winSamples := 0,
            expected := none } }

/-- The group after a notice (R60, R77). -/
def silenced (x : Group) : Group :=
  match abortedIn x with
  | some k =>
    { quieted x with counter := x.counter + 1, buffer := [], sets := upd x.sets k (clearSet .idle x.sets[k]) }
  | none =>
    match waitingIn x with
    | some k => { quieted x with sets := upd x.sets k (clearSet .idle x.sets[k]) }
    | none => quieted x

theorem silenced_aborted {x : Group} {k : SetIx} (h : abortedIn x = some k) :
    silenced x =
      { quieted x with counter := x.counter + 1, buffer := [], sets := upd x.sets k (clearSet .idle x.sets[k]) } := by
  rw [silenced, h]

theorem silenced_waiting {x : Group} {k : SetIx} (h : abortedIn x = none) (hk : waitingIn x = some k) :
    silenced x = { quieted x with sets := upd x.sets k (clearSet .idle x.sets[k]) } := by
  rw [silenced, h, hk]

theorem silenced_quiet {x : Group} (h : abortedIn x = none) (hk : waitingIn x = none) : silenced x = quieted x := by
  rw [silenced, h, hk]

theorem waitingIn_eq_some {x : Group} {k : SetIx} :
    waitingIn x = some k ↔
      x.tracker.timing = .holdover ∧ windowOpen x.tracker = false ∧ setIn .accumulating x.sets = some k := by
  unfold waitingIn
  by_cases h : windowOpen x.tracker = false ∧ x.tracker.timing = .holdover
  · simp only [h, and_self, if_true, true_and]
  · simp only [if_neg h, reduceCtorEq, false_iff]
    exact fun ⟨htiming, hopen, _⟩ => h ⟨hopen, htiming⟩

/-- A set waits where no window is open, so that none is aborted. -/
theorem abortedIn_of_waiting {x : Group} {k : SetIx} (h : waitingIn x = some k) : abortedIn x = none := by
  rw [abortedIn, (waitingIn_eq_some.mp h).2.1]
  rfl

/-- The events of a notice at group `g` (R60, R77). -/
def noticeEvents (stamp : BitVec 32) (g : GroupId) (x : Group) (q : EventQueue) : EventQueue :=
  let q1 := match abortedIn x with
    | some k => createEvent stamp (.windowAborted g .silence) (some (low16 x.sets[k].number)) q
    | none => q
  if x.tracker.timing = .noSignal then q1 else createEvent stamp (.timing g .noSignal) none q1

/-- The captures after a notice at group `g` (R164). -/
def noticeCaptures (g : GroupId) (x : Group) (c : Captures) : Captures :=
  if (abortedIn x).isSome then captureAbort g c else c

/-- The end of the open window, or of the set that waits for one, with which a notice begins (R58, R60, R77). -/
def windowEnded (c : GroupContext) (v : GroupView) : GroupView :=
  if windowOpen v.grp.tracker then abortWindow c .silence false v
  else if v.grp.tracker.timing = .holdover then dropWaitingSet v
  else v

theorem windowEnded_cases (c : GroupContext) (v : GroupView) :
    (∃ k, abortedIn v.grp = some k ∧
      windowEnded c v =
        { v with
            grp := { v.grp with counter := v.grp.counter + 1, buffer := [],
                                sets := upd v.grp.sets k (clearSet .idle v.grp.sets[k]) }
            events := createEvent c.stamp (.windowAborted c.group .silence) (some (low16 v.grp.sets[k].number)) v.events
            captures := captureAbort c.group v.captures }) ∨
    (abortedIn v.grp = none ∧
      ((∃ k, waitingIn v.grp = some k ∧
        windowEnded c v = { v with grp := { v.grp with sets := upd v.grp.sets k (clearSet .idle v.grp.sets[k]) } }) ∨
      (waitingIn v.grp = none ∧ windowEnded c v = v))) := by
  unfold abortedIn waitingIn windowEnded
  cases hopen : windowOpen v.grp.tracker with
  | true =>
    cases hset : setIn .accumulating v.grp.sets with
    | some k => exact .inl ⟨k, rfl, by simp only [abortWindow, hset]; rfl⟩
    | none => exact .inr ⟨rfl, .inr ⟨rfl, by simp only [abortWindow, hset]; rfl⟩⟩
  | false =>
    refine .inr ⟨rfl, ?_⟩
    by_cases hhold : v.grp.tracker.timing = .holdover
    · cases hset : setIn .accumulating v.grp.sets with
      | some k => exact .inl ⟨k, by simp [hhold], by simp [hhold, dropWaitingSet, hset]⟩
      | none => exact .inr ⟨by simp, by simp [hhold, dropWaitingSet, hset]⟩
    · exact .inr ⟨by simp [hhold], by simp [hhold]⟩

theorem windowEnded_tracker (c : GroupContext) (v : GroupView) : (windowEnded c v).grp.tracker = v.grp.tracker := by
  obtain ⟨_, _, h⟩ | ⟨_, ⟨_, _, h⟩ | ⟨_, h⟩⟩ := windowEnded_cases c v <;> rw [h]

theorem silenceNotice_windowEnded (c : GroupContext) (v : GroupView) :
    silenceNotice c v =
      { windowEnded c v with
          grp := quieted (windowEnded c v).grp
          events := if v.grp.tracker.timing = .noSignal then (windowEnded c v).events
            else createEvent c.stamp (.timing c.group .noSignal) none (windowEnded c v).events } := by
  have htracker := windowEnded_tracker c v
  rw [silenceNotice]
  change onTracker _ (if v.grp.tracker.timing = .noSignal then windowEnded c v
    else enterTiming c .noSignal (windowEnded c v)) = _
  by_cases hsilent : v.grp.tracker.timing = .noSignal
  · simp only [hsilent, if_true, onTracker, quieted, htracker]
  · simp only [hsilent, if_false]
    rfl

/-- A notice at one group, block by block. -/
theorem silenceNotice_eq (c : GroupContext) (v : GroupView) :
    silenceNotice c v =
      { v with grp := silenced v.grp, events := noticeEvents c.stamp c.group v.grp v.events,
               captures := noticeCaptures c.group v.grp v.captures } := by
  rw [silenceNotice_windowEnded]
  unfold silenced noticeEvents noticeCaptures
  obtain ⟨k, hk, h⟩ | ⟨hno, ⟨k, hk, h⟩ | ⟨hnone, h⟩⟩ := windowEnded_cases c v
  · rw [h, hk]; rfl
  · rw [h, hno, hk]; rfl
  · rw [h, hno, hnone]; rfl

/-! ## A notice at every group that names the stream (R32; log entry 5) -/

theorem upd_self {α : Type} {n : Nat} (v : Vector α n) (i : Fin n) : upd v i v[i] = v := by
  simp [upd]

/-- A group after the notice of stream `i`, whether it names it or not. -/
def silencedBy (i : StreamId) (x : Group) : Group := if x.names i then silenced x else x

/-- The events that the notice of stream `i` raises at group `g`. -/
def eventsBy (i : StreamId) (s : State) (q : EventQueue) (g : GroupId) : EventQueue :=
  if s.groups[g].names i then noticeEvents s.timer g s.groups[g] q else q

/-- The captures after the notice of stream `i` at group `g`. -/
def capturesBy (i : StreamId) (s : State) (c : Captures) (g : GroupId) : Captures :=
  if s.groups[g].names i then noticeCaptures g s.groups[g] c else c

theorem noticeGroup_eq (i : StreamId) (s : State) (g : GroupId) :
    noticeGroup i s g =
      { s with groups := upd s.groups g (silencedBy i s.groups[g]), events := eventsBy i s s.events g,
               captures := capturesBy i s s.captures g } := by
  unfold noticeGroup silencedBy eventsBy capturesBy
  cases hnames : s.groups[g].names i with
  | true =>
    simp only [if_true, actOn, silenceNotice_eq]
    rfl
  | false => simp only [Bool.false_eq_true, if_false, upd_self]

/-- Notices at distinct groups: each by its group as it stood before. -/
theorem foldl_noticeGroup (i : StreamId) {s : State} {l : List GroupId} (hl : l.Nodup) {u : State}
    (hu : ∀ g ∈ l, u.groups[g] = s.groups[g]) (htimer : u.timer = s.timer) :
    l.foldl (noticeGroup i) u =
      { u with groups := l.foldl (fun v g => upd v g (silencedBy i s.groups[g])) u.groups
               events := l.foldl (eventsBy i s) u.events
               captures := l.foldl (capturesBy i s) u.captures } := by
  induction l generalizing u with
  | nil => rfl
  | cons g l ih =>
    obtain ⟨hg, hl⟩ := List.nodup_cons.mp hl
    have hgroup := hu g List.mem_cons_self
    have hstep : noticeGroup i u g =
        { u with groups := upd u.groups g (silencedBy i s.groups[g]), events := eventsBy i s u.events g,
                 captures := capturesBy i s u.captures g } := by
      simp only [noticeGroup_eq, eventsBy, capturesBy, hgroup, htimer]
    rw [List.foldl_cons, hstep]
    refine ih hl (fun h hh => ?_) htimer
    rw [upd_get_fin, if_neg (ne_of_mem_of_not_mem hh hg).symm]
    exact hu h (List.mem_cons_of_mem g hh)

theorem groupIxs_nodup : groupIxs.Nodup := by decide

theorem deliverNotice_eq (i : StreamId) (s : State) :
    deliverNotice i s =
      { s with groups := groupIxs.foldl (fun v g => upd v g (silencedBy i s.groups[g])) s.groups
               events := groupIxs.foldl (eventsBy i s) s.events
               captures := groupIxs.foldl (capturesBy i s) s.captures } :=
  foldl_noticeGroup i groupIxs_nodup (fun _ _ => rfl) rfl

theorem deliverNotice_group (i : StreamId) (s : State) (g : GroupId) :
    (deliverNotice i s).groups[g] = silencedBy i s.groups[g] := by
  simp only [deliverNotice_eq, foldl_upd_get, mem_groupIxs, if_true]

/-! ## The capture slots under the notice (R156, R164) -/

/-- A FILLING slot armed again, its content discarded (R156, R164). -/
def rearmed (x : CaptureSlot) : CaptureSlot :=
  { CaptureSlot.free with
      state := .armed, owner := x.owner, holds := x.holds, auto := x.auto, trigger := x.trigger }

/-- No group owns both slots (R158). -/
def OwnersDiffer (c : Captures) : Prop :=
  ∀ g : GroupId, ¬(c.slots[0].owner = some g ∧ c.slots[1].owner = some g)

theorem captureAbort_slot {c : Captures} (hc : OwnersDiffer c) (g : GroupId) (j : CaptureIx) :
    (captureAbort g c).slots[j] =
      if c.slots[j].owner = some g ∧ c.slots[j].state = .filling then rearmed c.slots[j] else c.slots[j] := by
  unfold captureAbort
  split
  · rename_i i hi
    obtain ⟨howner, hfilling⟩ := fillingSlot_some hi
    rw [setSlot, upd_get_fin]
    by_cases hij : i = j
    · subst hij
      rw [if_pos rfl, if_pos ⟨howner, hfilling⟩]
      rfl
    · rw [if_neg hij, if_neg fun hj => hij (owner_unique (hc g) howner hj.1)]
  · rename_i hnone
    rw [if_neg fun hj => fillingSlot_none (hc g) hnone j hj.1 hj.2]

theorem captureAbort_marker (g : GroupId) (c : Captures) : (captureAbort g c).marker = c.marker := by
  unfold captureAbort
  split <;> rfl

theorem captureAbort_owner {c : Captures} (hc : OwnersDiffer c) (g : GroupId) (j : CaptureIx) :
    (captureAbort g c).slots[j].owner = c.slots[j].owner := by
  rw [captureAbort_slot hc]
  split <;> rfl

/-- Aborts at the groups of a list that `aborts` names. -/
def abortAll (aborts : GroupId → Bool) (l : List GroupId) (c : Captures) : Captures :=
  l.foldl (fun c g => if aborts g then captureAbort g c else c) c

/-- Whether an abort at some group of the list reaches a slot. -/
def Reaches (aborts : GroupId → Bool) (l : List GroupId) (x : CaptureSlot) : Prop :=
  (∃ g ∈ l, aborts g = true ∧ x.owner = some g) ∧ x.state = .filling

theorem abortAll_slot (aborts : GroupId → Bool) (l : List GroupId) {c : Captures} (hc : OwnersDiffer c) :
    (abortAll aborts l c).marker = c.marker ∧
      ∀ j : CaptureIx,
        (Reaches aborts l c.slots[j] → (abortAll aborts l c).slots[j] = rearmed c.slots[j]) ∧
        (¬Reaches aborts l c.slots[j] → (abortAll aborts l c).slots[j] = c.slots[j]) := by
  induction l generalizing c with
  | nil => exact ⟨rfl, fun j => ⟨fun h => by simp [Reaches] at h, fun _ => rfl⟩⟩
  | cons g l ih =>
    cases hg : aborts g with
    | false =>
      have hskip : abortAll aborts (g :: l) c = abortAll aborts l c := by simp [abortAll, hg]
      have hreach (x : CaptureSlot) : Reaches aborts (g :: l) x ↔ Reaches aborts l x := by simp [Reaches, hg]
      simpa only [hskip, hreach] using ih hc
    | true =>
      have hfirst : abortAll aborts (g :: l) c = abortAll aborts l (captureAbort g c) := by simp [abortAll, hg]
      have howners : OwnersDiffer (captureAbort g c) := fun h ⟨hzero, hone⟩ =>
        hc h ⟨(captureAbort_owner hc g 0).symm.trans hzero, (captureAbort_owner hc g 1).symm.trans hone⟩
      obtain ⟨hmarker, hslots⟩ := ih howners
      refine ⟨by rw [hfirst, hmarker, captureAbort_marker], fun j => ?_⟩
      obtain ⟨hreached, hkept⟩ := hslots j
      rw [captureAbort_slot hc] at hreached hkept
      rw [hfirst]
      by_cases hown : c.slots[j].owner = some g ∧ c.slots[j].state = .filling
      · rw [if_pos hown] at hreached hkept
        have hno : ¬Reaches aborts l (rearmed c.slots[j]) := fun h => by simp [Reaches, rearmed] at h
        exact ⟨fun _ => hkept hno, fun h => absurd ⟨⟨g, List.mem_cons_self, hg, hown.1⟩, hown.2⟩ h⟩
      · rw [if_neg hown] at hreached hkept
        have hreach : Reaches aborts (g :: l) c.slots[j] ↔ Reaches aborts l c.slots[j] := by
          simp only [Reaches, List.mem_cons, exists_eq_or_imp, hg, true_and]
          tauto
        rw [hreach]
        exact ⟨hreached, hkept⟩

/-- Aborts at every group that has a window to abort: its FILLING slot is armed again, and no other slot changes. -/
theorem abortAll_windows (aborted : GroupId → Option SetIx) {c : Captures} (hc : CapturesLawful c) :
    let c' := abortAll (fun g => (aborted g).isSome) groupIxs c
    c'.marker = c.marker ∧
      ∀ j : CaptureIx,
        ((∃ g : GroupId, c.slots[j].owner = some g ∧ (aborted g).isSome = true) → c.slots[j].state = .filling →
          c'.slots[j] = rearmed c.slots[j]) ∧
        ((∀ g : GroupId, c.slots[j].owner = some g → aborted g = none) ∨ c.slots[j].state ≠ .filling →
          c'.slots[j] = c.slots[j]) := by
  obtain ⟨hmarker, hslots⟩ := abortAll_slot (fun g => (aborted g).isSome) groupIxs hc.2
  refine ⟨hmarker, fun j => ⟨fun ⟨g, howner, hg⟩ hfilling => ?_, fun hkept => ?_⟩⟩
  · exact (hslots j).1 ⟨⟨g, mem_groupIxs g, hg, howner⟩, hfilling⟩
  · refine (hslots j).2 fun ⟨⟨g, _, hg, howner⟩, hfilling⟩ => ?_
    obtain hno | hstate := hkept
    · simp [hno g howner] at hg
    · exact hstate hfilling

/-! ## Where the notice is placed (R32) -/

theorem newestUnderApplication_iff {i : StreamId} {q : AnalysisQueue} :
    newestUnderApplication i q = true ↔
      q.served ≠ [] ∧ ∃ e l, q.entries = e :: l ∧ e.stream = i ∧ ∀ x ∈ l, x.stream ≠ i := by
  unfold newestUnderApplication
  cases hentries : q.entries with
  | nil => simp
  | cons e l => simp [and_comm]

theorem markNewest_split {i : StreamId} {e : QueueEntry} {after : List QueueEntry} (he : e.stream = i)
    (hafter : ∀ x ∈ after, x.stream ≠ i) (before : List QueueEntry) :
    markNewest i (before ++ e :: after) = before ++ { e with silenceFollows := true } :: after := by
  induction before with
  | nil =>
    have hnone : ¬after.any (fun x => decide (x.stream = i)) = true := by simpa using hafter
    rw [List.nil_append, List.nil_append, markNewest, if_neg hnone, if_pos he]
  | cons x before ih => simp [markNewest, he, ih]

theorem placeNotice_atLeave {i : StreamId} {s : State} (h : newestUnderApplication i s.queue = true) :
    placeNotice i s = { s with queue := { s.queue with noticeAtLeave := true } } := if_pos h

theorem placeNotice_marked {i : StreamId} {s : State} {before after : List QueueEntry} {e : QueueEntry}
    (h : ¬newestUnderApplication i s.queue = true) (hsplit : s.queue.entries = before ++ e :: after)
    (he : e.stream = i) (hafter : ∀ x ∈ after, x.stream ≠ i) :
    placeNotice i s =
      { s with queue := { s.queue with entries := before ++ { e with silenceFollows := true } :: after } } := by
  have hqueued : s.queue.entries.any (fun x => decide (x.stream = i)) = true := by simp [hsplit, he]
  rw [placeNotice, if_neg h, if_pos hqueued, hsplit, markNewest_split he hafter]

theorem placeNotice_delivered {i : StreamId} {s : State} (h : ∀ e ∈ s.queue.entries, e.stream ≠ i) :
    placeNotice i s = deliverNotice i s := by
  have hhead : ¬newestUnderApplication i s.queue = true := fun hnew => by
    obtain ⟨_, e, l, hentries, he, _⟩ := newestUnderApplication_iff.mp hnew
    exact h e (hentries ▸ List.mem_cons_self) he
  have hnone : ¬s.queue.entries.any (fun x => decide (x.stream = i)) = true := by simpa using h
  rw [placeNotice, if_neg hhead, if_neg hnone]

theorem placeNotice_frame (i : StreamId) (s : State) :
    ∃ queue groups events captures,
      placeNotice i s = { s with queue := queue, groups := groups, events := events, captures := captures } := by
  unfold placeNotice
  split
  · exact ⟨_, _, _, _, rfl⟩
  · split
    · exact ⟨_, _, _, _, rfl⟩
    · exact ⟨_, _, _, _, deliverNotice_eq i s⟩

/-! ## The deadline (R31) -/

theorem silenceDue_iff {s : State} {i : StreamId} :
    silenceDue s i = true ↔ s.supervision[i].activity = .active ∧ s.supervision[i].deadline = some s.timer := by
  simp [silenceDue]

theorem silenceDeadline_does {i : StreamId} {s t : State} (h : takeDeadline s i = t) : Does (.silenceDeadline i) s t :=
  h ▸ rfl

/-- The state in which the notice of a stream that goes silent is placed: its record and its event (R31). -/
def silentStream (i : StreamId) (s : State) : State :=
  { s with
      supervision := upd s.supervision i
        { s.supervision[i] with activity := .silent, deadline := none, fullInterval := false, rangeMark := false }
      events := createEvent s.timer (.streamSilent i) none s.events }

theorem takeDeadline_due {i : StreamId} {s : State} (hactive : s.supervision[i].activity = .active)
    (hdeadline : s.supervision[i].deadline = some s.timer) : takeDeadline s i = placeNotice i (silentStream i s) :=
  if_pos (silenceDue_iff.mpr ⟨hactive, hdeadline⟩)

/-- Whether the notice of stream `i` aborts a window of a group. -/
def abortsBy (i : StreamId) (s : State) (g : GroupId) : Bool :=
  s.groups[g].names i && (abortedIn s.groups[g]).isSome

theorem foldl_capturesBy (i : StreamId) (s : State) (c : Captures) :
    groupIxs.foldl (capturesBy i s) c = abortAll (abortsBy i s) groupIxs c := by
  have hstep : capturesBy i s = fun c g => if abortsBy i s g then captureAbort g c else c := by
    funext c g
    unfold capturesBy noticeCaptures abortsBy
    cases s.groups[g].names i <;> rfl
  rw [hstep, abortAll]

/-- Settles O29: the deadline that is due, the three places of the notice, and what it does at each group and slot. -/
theorem silenceDeadlinesSilenceTheStream : Obligations.SilenceDeadlinesSilenceTheStream := by
  intro s i
  refine ⟨fun hidle => silenceDeadline_does (if_neg (silenceDue_iff.not.mpr hidle)), fun hactive hdeadline => ?_⟩
  have hdue := takeDeadline_due hactive hdeadline
  refine ⟨driveLines (placeNotice i (silentStream i s)), silenceDeadline_does hdue, ?_⟩
  obtain ⟨_, _, _, _, hframe⟩ := placeNotice_frame i (silentStream i s)
  refine ⟨?_, fun j hj => ?_, ?_, ⟨fun hhead => ?_, fun before e after hhead hsplit he hafter => ?_⟩, fun hnone => ?_⟩
  · rw [hframe]
    exact upd_get_same ..
  · rw [hframe]
    exact upd_get_ne _ _ hj.symm
  · rw [hframe]
    rfl
  · rw [placeNotice_atLeave (s := silentStream i s) (newestUnderApplication_iff.mpr hhead)]
    exact ⟨rfl, rfl, rfl, rfl⟩
  · rw [placeNotice_marked (s := silentStream i s) (newestUnderApplication_iff.not.mpr hhead) hsplit he hafter]
    exact ⟨rfl, rfl, rfl, rfl⟩
  · intro reached opened aborted notice
    have haborted (g : GroupId) (hreached : reached g = true) : aborted g = abortedIn s.groups[g] := by
      simp only [aborted, hreached, Bool.true_and]
      rfl
    have hunreached (g : GroupId) (hother : reached g = false) : aborted g = none := by
      simp only [aborted, hother, Bool.false_and, Bool.false_eq_true, if_false]
    have hnotice : eventsBy i (silentStream i s) = notice := by
      funext q g
      cases hg : reached g with
      | false => exact (if_neg (Bool.eq_false_iff.mp hg)).trans (if_neg (Bool.eq_false_iff.mp hg)).symm
      | true =>
        refine (if_pos hg).trans (Eq.trans ?_ (if_pos hg).symm)
        rw [haborted g hg]
        rfl
    have haborts : abortsBy i (silentStream i s) = fun g => (aborted g).isSome := by
      funext g
      cases hg : reached g with
      | false => rw [hunreached g hg]; exact congrArg (· && _) hg
      | true => rw [haborted g hg]; exact (congrArg (· && _) hg).trans (Bool.true_and _)
    have hcaptures : (deliverNotice i (silentStream i s)).captures =
        abortAll (fun g => (aborted g).isSome) groupIxs s.captures := by
      rw [deliverNotice_eq, ← haborts]
      exact foldl_capturesBy i (silentStream i s) s.captures
    have hgroup (g : GroupId) : (deliverNotice i (silentStream i s)).groups[g] = silencedBy i s.groups[g] :=
      deliverNotice_group i (silentStream i s) g
    rw [placeNotice_delivered (s := silentStream i s) hnone]
    simp only [driveLines_captures, driveLines_groups, driveLines_events, hcaptures, hgroup]
    refine ⟨by rw [deliverNotice_eq]; rfl, by rw [deliverNotice_eq, hnotice]; rfl, fun hlawful => ?_, fun g => ?_⟩
    · exact abortAll_windows aborted hlawful
    · refine ⟨fun hother => if_neg (Bool.eq_false_iff.mp hother), fun hreached => ?_⟩
      have hsilenced : silencedBy i s.groups[g] = silenced s.groups[g] := if_pos hreached
      rw [hsilenced, haborted g hreached]
      refine ⟨fun k hk => silenced_aborted hk, fun k hk => ?_, fun hno hnowait => silenced_quiet hno ?_⟩
      · have hwaits : waitingIn s.groups[g] = some k := waitingIn_eq_some.mpr hk
        exact silenced_waiting (abortedIn_of_waiting hwaits) hwaits
      · exact Option.eq_none_iff_forall_ne_some.mpr fun k hk => hnowait k (waitingIn_eq_some.mp hk)

end Sys2Proof.Machine
end

section
/-! What a pass leaves of its group (R49): every act at a sample, and the pass as a whole, keeps the group's record, its
results and its Level Unit, and leaves an enabled group enabled; only the real sample gives the slots new last
values. -/

namespace Sys2Proof.Machine

/-- From the group `x` to the group `y` nothing changes that no sample changes (R49, R50). -/
structure SampleKeeps (x y : Group) : Prop where
  config : y.config = x.config
  result : y.result = x.result
  first : y.first = x.first
  nextRows : y.nextRows = x.nextRows
  levelUnit : y.levelUnit = x.levelUnit
  nextBank : y.nextBank = x.nextBank
  last : y.tracker.last = x.tracker.last
  enabled : x.enabled = true → y.enabled = true

namespace SampleKeeps

theorem refl (x : Group) : SampleKeeps x x := ⟨rfl, rfl, rfl, rfl, rfl, rfl, rfl, id⟩

theorem trans {x y z : Group} (h : SampleKeeps x y) (k : SampleKeeps y z) : SampleKeeps x z where
  config := k.config.trans h.config
  result := k.result.trans h.result
  first := k.first.trans h.first
  nextRows := k.nextRows.trans h.nextRows
  levelUnit := k.levelUnit.trans h.levelUnit
  nextBank := k.nextBank.trans h.nextBank
  last := k.last.trans h.last
  enabled := k.enabled ∘ h.enabled

end SampleKeeps

section
variable {x : Group} {v : GroupView} (c : GroupContext)

/-! ## Timing states and windows -/

theorem enterTiming_sampleKeeps {t : Timing} (ht : t ≠ .disabled) (h : SampleKeeps x v.grp) :
    SampleKeeps x (enterTiming c t v).grp :=
  h.trans ⟨rfl, rfl, rfl, rfl, rfl, rfl, rfl, fun _ => decide_eq_true ht⟩

/-- A change of the marks and counts alone. -/
theorem onTracker_sampleKeeps {f : Tracker → Tracker} (hlast : ∀ t, (f t).last = t.last)
    (htiming : ∀ t, (f t).timing = t.timing) (h : SampleKeeps x v.grp) : SampleKeeps x (onTracker f v).grp :=
  h.trans ⟨rfl, rfl, rfl, rfl, rfl, rfl, hlast _, fun he => by simpa [onTracker, Group.enabled, htiming] using he⟩

theorem openWindow_sampleKeeps (kind : WindowKind) (seq : Nat) (h : SampleKeeps x v.grp) :
    SampleKeeps x (openWindow c kind seq v).grp := h.trans ⟨rfl, rfl, rfl, rfl, rfl, rfl, rfl, id⟩

theorem onOpenSet_sampleKeeps (f : AccSet → AccSet) (g : Group) : SampleKeeps g (onOpenSet f g) := by
  unfold onOpenSet
  split
  · exact ⟨rfl, rfl, rfl, rfl, rfl, rfl, rfl, id⟩
  · exact .refl g

theorem takePending_sampleKeeps (w : Option (BitVec 32)) (h : SampleKeeps x v.grp) :
    SampleKeeps x (takePending c w v).grp := by
  unfold takePending
  split
  · exact h.trans ⟨rfl, rfl, rfl, rfl, rfl, rfl, rfl, id⟩
  · exact h

theorem captureClose_sampleKeeps (h : SampleKeeps x v.grp) : SampleKeeps x (captureClose c v).grp := by
  unfold captureClose
  split <;> exact h

theorem closeSets_sampleKeeps (i : SetIx) (follows : Bool) (h : SampleKeeps x v.grp) :
    SampleKeeps x (closeSets c i follows v).grp := by
  dsimp only [closeSets]
  split <;> exact h.trans ⟨rfl, rfl, rfl, rfl, rfl, rfl, rfl, id⟩

theorem closeWindow_sampleKeeps (follows : Bool) (h : SampleKeeps x v.grp) :
    SampleKeeps x (closeWindow c follows v).grp := by
  obtain ⟨_, hw⟩ | ⟨i, _, hw⟩ := closeWindow_cases c follows v <;> rw [hw]
  · exact h
  · apply captureClose_sampleKeeps
    apply takePending_sampleKeeps
    exact (closeSets_sampleKeeps c i follows h).trans ⟨rfl, rfl, rfl, rfl, rfl, rfl, rfl, id⟩

theorem abortWindow_sampleKeeps (reason : AbortReason) (follows : Bool) (h : SampleKeeps x v.grp) :
    SampleKeeps x (abortWindow c reason follows v).grp := by
  unfold abortWindow
  split
  · exact h.trans ⟨rfl, rfl, rfl, rfl, rfl, rfl, rfl, id⟩
  · exact h

/-! ## Samples (R51 to R59) -/

theorem trackSample_sampleKeeps (y : Sample) (g : Group) : SampleKeeps g (trackSample c y g) :=
  ⟨rfl, rfl, rfl, rfl, rfl, rfl, rfl, id⟩

theorem bufferSample_sampleKeeps (y : Sample) (h : SampleKeeps x v.grp) : SampleKeeps x (bufferSample c y v).grp :=
  h.trans ⟨rfl, rfl, rfl, rfl, rfl, rfl, rfl, id⟩

theorem openTracking_sampleKeeps (seq : Nat) (y : Sample) (h : SampleKeeps x v.grp) :
    SampleKeeps x (openTracking c seq y v).grp := h.trans ⟨rfl, rfl, rfl, rfl, rfl, rfl, rfl, id⟩

theorem beginTracking_sampleKeeps (seq : Nat) (y : Sample) (h : SampleKeeps x v.grp) :
    SampleKeeps x (beginTracking c seq y v).grp := by
  apply openTracking_sampleKeeps
  apply enterTiming_sampleKeeps c (by decide)
  exact onTracker_sampleKeeps (fun _ => rfl) (fun _ => rfl) h

theorem enterAcquiring_sampleKeeps (h : SampleKeeps x v.grp) : SampleKeeps x (enterAcquiring c v).grp :=
  enterTiming_sampleKeeps c (by decide) (onTracker_sampleKeeps (fun _ => rfl) (fun _ => rfl) h)

theorem enterHoldover_sampleKeeps (h : SampleKeeps x v.grp) : SampleKeeps x (enterHoldover c v).grp :=
  enterTiming_sampleKeeps c (by decide) (onTracker_sampleKeeps (fun _ => rfl) (fun _ => rfl) h)

theorem acquiringSample_sampleKeeps (seq : Nat) (y : Sample) (w : Verdict) (h : SampleKeeps x v.grp) :
    SampleKeeps x (acquiringSample c seq y w v).grp := by
  have counted := onTracker_sampleKeeps (f := fun t => { t with acqCount := t.acqCount + 1 }) (fun _ => rfl)
    (fun _ => rfl) h
  dsimp only [acquiringSample]
  split
  · exact beginTracking_sampleKeeps c seq y counted
  · split
    · exact enterHoldover_sampleKeeps c counted
    · exact counted

theorem acceptedCycle_sampleKeeps (seq : Nat) (y : Sample) (len : Nat) (h : SampleKeeps x v.grp) :
    SampleKeeps x (acceptedCycle c seq y len v).grp := by
  have added := (h.trans (onOpenSet_sampleKeeps (addCycle v.grp.config len v.grp.buffer 0) v.grp)).trans
    (z := { onOpenSet (addCycle v.grp.config len v.grp.buffer 0) v.grp with buffer := [] })
    ⟨rfl, rfl, rfl, rfl, rfl, rfl, rfl, id⟩
  dsimp only [acceptedCycle]
  split
  · exact openTracking_sampleKeeps c seq y (closeWindow_sampleKeeps c true added)
  · exact bufferSample_sampleKeeps c y (onTracker_sampleKeeps (fun _ => rfl) (fun _ => rfl) added)

theorem trackingSample_sampleKeeps (seq : Nat) (y : Sample) (w : Verdict) (h : SampleKeeps x v.grp) :
    SampleKeeps x (trackingSample c seq y w v).grp := by
  have lost : SampleKeeps x (enterHoldover c (abortWindow c .timingLoss true v)).grp :=
    enterHoldover_sampleKeeps c (abortWindow_sampleKeeps c .timingLoss true h)
  cases w with
  | none => exact bufferSample_sampleKeeps c y (onTracker_sampleKeeps (fun _ => rfl) (fun _ => rfl) h)
  | accepted len => exact acceptedCycle_sampleKeeps c seq y len h
  | early => exact lost
  | late => exact lost

theorem closeHoldover_sampleKeeps (h : SampleKeeps x v.grp) : SampleKeeps x (closeHoldover c v).grp := by
  dsimp only [closeHoldover]
  split
  · apply enterTiming_sampleKeeps c (by decide)
    exact onTracker_sampleKeeps (fun _ => rfl) (fun _ => rfl) (closeWindow_sampleKeeps c false h)
  · exact onTracker_sampleKeeps (fun _ => rfl) (fun _ => rfl) (closeWindow_sampleKeeps c true h)

theorem holdoverSample_sampleKeeps (seq : Nat) (y : Sample) (h : SampleKeeps x v.grp) :
    SampleKeeps x (holdoverSample c seq y v).grp := by
  have opened : SampleKeeps x (if v.grp.tracker.winSamples = 0 then openWindow c .holdover seq v else v).grp := by
    split
    · exact openWindow_sampleKeeps c .holdover seq h
    · exact h
  dsimp only [holdoverSample]
  generalize (if v.grp.tracker.winSamples = 0 then openWindow c .holdover seq v else v) = v1 at opened ⊢
  have added (f : AccSet → AccSet) : SampleKeeps x (onTracker (fun t => { t with winSamples := t.winSamples + 1 })
      { v1 with grp := onOpenSet f v1.grp }).grp :=
    onTracker_sampleKeeps (fun _ => rfl) (fun _ => rfl) (opened.trans (onOpenSet_sampleKeeps f v1.grp))
  split
  · exact closeHoldover_sampleKeeps c (added _)
  · exact added _

theorem aligningSample_sampleKeeps (seq : Nat) (y : Sample) (crossing : Bool) (w : Verdict)
    (h : SampleKeeps x v.grp) : SampleKeeps x (aligningSample c seq y crossing w v).grp := by
  unfold aligningSample
  split
  · exact beginTracking_sampleKeeps c seq y h
  · split
    · exact holdoverSample_sampleKeeps c seq y (enterHoldover_sampleKeeps c h)
    · exact h

theorem handleSample_sampleKeeps (seq : Nat) (y : Sample) (h : SampleKeeps x v.grp) :
    SampleKeeps x (handleSample c seq y v).grp := by
  have tracked : SampleKeeps x { v with grp := trackSample c y v.grp }.grp :=
    h.trans (trackSample_sampleKeeps c y v.grp)
  dsimp only [handleSample]
  generalize { v with grp := trackSample c y v.grp } = v1 at tracked ⊢
  split
  · exact tracked
  · exact tracked
  · exact acquiringSample_sampleKeeps c seq y _ tracked
  · exact trackingSample_sampleKeeps c seq y _ tracked
  · exact holdoverSample_sampleKeeps c seq y tracked
  · exact aligningSample_sampleKeeps c seq y _ _ tracked

/-! ## Gaps (R61 to R63) -/

theorem largeGap_sampleKeeps (h : SampleKeeps x v.grp) : SampleKeeps x (largeGap c v).grp := by
  dsimp only [largeGap]
  split
  · exact enterAcquiring_sampleKeeps c (abortWindow_sampleKeeps c .gap false h)
  · exact enterAcquiring_sampleKeeps c h
  · exact onTracker_sampleKeeps (fun _ => rfl) (fun _ => rfl) h
  · refine onTracker_sampleKeeps (fun _ => rfl) (fun _ => rfl)
      (onTracker_sampleKeeps (fun _ => rfl) (fun _ => rfl) ?_)
    split
    · exact abortWindow_sampleKeeps c .gap true h
    · exact h
  · exact h
  · exact h

theorem heldSamples_sampleKeeps (e : QueueEntry) (seqs : List Nat) (h : SampleKeeps x v.grp) :
    SampleKeeps x (seqs.foldl (fun u n => handleSample c n (heldSample e u.grp) u) v).grp := by
  induction seqs generalizing v with
  | nil => exact h
  | cons n seqs ih => exact ih (handleSample_sampleKeeps c n _ h)

end

/-! ## The pass (R49) -/

/-- The beginning of a pass at a group to which the signal returns (R60). -/
def signalReturned (c : GroupContext) (v : GroupView) : GroupView :=
  if v.grp.tracker.timing = .noSignal then enterAcquiring c v else v

theorem signalReturned_sampleKeeps (c : GroupContext) (v : GroupView) :
    SampleKeeps v.grp (signalReturned c v).grp := by
  unfold signalReturned
  split
  · exact enterAcquiring_sampleKeeps c (.refl _)
  · exact .refl _

theorem signalReturned_expected (c : GroupContext) (v : GroupView) :
    (signalReturned c v).grp.tracker.expected = v.grp.tracker.expected := by
  unfold signalReturned
  split <;> rfl

theorem gapOf_congr {t u : Tracker} (h : t.expected = u.expected) (c : GroupContext) (e : QueueEntry) :
    gapOf c e t = gapOf c e u := by
  rw [gapOf, gapOf, h]

theorem beginPass_eq (c : GroupContext) (e : QueueEntry) (v : GroupView) :
    beginPass c e v =
      if v.grp.config.gapLimit < gapOf c e v.grp.tracker then largeGap c (signalReturned c v)
      else signalReturned c v := by
  show (if (signalReturned c v).grp.config.gapLimit < gapOf c e (signalReturned c v).grp.tracker
    then largeGap c (signalReturned c v) else signalReturned c v) = _
  rw [(signalReturned_sampleKeeps c v).config, gapOf_congr (signalReturned_expected c v)]

/-- The end of a pass: the real sample, which gives the slots their last values, and E_g (R49, R50). -/
def passFinished (c : GroupContext) (e : QueueEntry) (u : GroupView) : GroupView :=
  onTracker (fun t => { t with expected := some ((e.seq + 1) % c.rate.samples) })
    (handleInstant c e u (.real e.seq))

/-- The numbers that the held samples of a pass stand for (R62). -/
def heldSeqs (c : GroupContext) (e : QueueEntry) (t : Tracker) : List Nat :=
  (List.range (gapOf c e t)).map fun k => (t.expected.getD e.seq + k) % c.rate.samples

theorem passEntry_small {c : GroupContext} {e : QueueEntry} {v : GroupView}
    (h : gapOf c e v.grp.tracker ≤ v.grp.config.gapLimit) :
    passEntry c e v =
      passFinished c e
        ((heldSeqs c e v.grp.tracker).foldl (fun u n => handleSample c n (heldSample e u.grp) u)
          (signalReturned c v)) := by
  have hinstants : instantsOf c e v.grp = (heldSeqs c e v.grp.tracker).map Instant.held ++ [.real e.seq] := by
    simp only [instantsOf, h, if_true, heldSeqs, List.map_map]
    rfl
  rw [passEntry, beginPass_eq, if_neg (Nat.not_lt.mpr h), hinstants, List.foldl_append, List.foldl_map]
  rfl

theorem passEntry_large {c : GroupContext} {e : QueueEntry} {v : GroupView}
    (h : v.grp.config.gapLimit < gapOf c e v.grp.tracker) :
    passEntry c e v = passFinished c e (largeGap c (signalReturned c v)) := by
  have hinstants : instantsOf c e v.grp = [.real e.seq] := by
    simp only [instantsOf, Nat.not_le.mpr h, if_false, List.nil_append]
  rw [passEntry, beginPass_eq, if_pos h, hinstants]
  rfl

/-- Before its real sample a pass keeps what samples keep. -/
theorem passEntry_before_real (c : GroupContext) (e : QueueEntry) (v : GroupView) :
    ∃ u, passEntry c e v = passFinished c e u ∧ SampleKeeps v.grp u.grp := by
  obtain h | h := Nat.lt_or_ge v.grp.config.gapLimit (gapOf c e v.grp.tracker)
  · exact ⟨_, passEntry_large h, largeGap_sampleKeeps c (signalReturned_sampleKeeps c v)⟩
  · exact ⟨_, passEntry_small h, heldSamples_sampleKeeps c e _ (signalReturned_sampleKeeps c v)⟩

/-- From the group `x` to the group `y` nothing changes that no pass of the entry changes (R49, R50). -/
structure PassKeeps (c : GroupContext) (e : QueueEntry) (x y : Group) : Prop where
  frame : y = { x with tracker := y.tracker, sets := y.sets, buffer := y.buffer, counter := y.counter,
                       nowBank := y.nowBank, generation := y.generation, commitPending := y.commitPending }
  last : y.tracker.last = lastAfter e x
  expected : y.tracker.expected = some ((e.seq + 1) % c.rate.samples)
  enabled : x.enabled = true → y.enabled = true

theorem lastAfter_congr {x y : Group} (hconfig : y.config = x.config) (hlast : y.tracker.last = x.tracker.last)
    (e : QueueEntry) : lastAfter e y = lastAfter e x := by
  simp only [lastAfter, realSample, hconfig, hlast]

theorem passEntry_keepsGroup (c : GroupContext) (e : QueueEntry) (v : GroupView) :
    PassKeeps c e v.grp (passEntry c e v).grp := by
  obtain ⟨u, hu, before⟩ := passEntry_before_real c e v
  have real := handleSample_sampleKeeps c e.seq (realSample e u.grp)
    (v := onTracker (fun t => { t with last := lastAfter e u.grp }) u) (.refl _)
  rw [hu]
  refine ⟨?_, ?_, rfl, fun he => real.enabled (before.enabled he)⟩
  · have hconfig := real.config.trans before.config
    have hresult := real.result.trans before.result
    have hfirst := real.first.trans before.first
    have hrows := real.nextRows.trans before.nextRows
    have hlevel := real.levelUnit.trans before.levelUnit
    have hbank := real.nextBank.trans before.nextBank
    rw [← hconfig, ← hresult, ← hfirst, ← hrows, ← hlevel, ← hbank]
    rfl
  · exact real.last.trans (lastAfter_congr before.config before.last e)

end Sys2Proof.Machine
end

section
/-! The samples of a pass (R50), what a gap above G_max does (R63), and the Cycle Tracker at one sample (R51, R52), each
as its rule says it. -/

namespace Sys2Proof.Machine

/-! ## The Cycle Tracker (R51, R52) -/

theorem crossesAt_iff {g : Group} {x : Sample} : isCrossing g.tracker (refValue g x) = true ↔ CrossesAt g x := by
  rw [isCrossing, Bool.and_eq_true]
  exact and_congr_right fun _ => decide_eq_true_iff

theorem cycleAccepted_iff {c : GroupContext} {g : Group} {len : Nat} :
    cycleAccepted c.rate g.config.freq len = true ↔ LengthAccepted c g len := by
  simp [cycleAccepted, LengthAccepted]

/-- A cycle that one more sample would make longer than any accepted one stands at the longest length or beyond. -/
theorem longestCycle_le_iff {r : Rate} {f : Freq} {n : Nat} :
    ¬n < longestCycle r f ↔ 17 * r.samples < 16 * (n + 1) * f.hertz := by
  have hhertz : 0 < 16 * f.hertz := by cases f <;> decide
  rw [longestCycle, ← Nat.succ_le_iff, Nat.le_div_iff_mul_le hhertz, Nat.not_le,
    show (n + 1) * (16 * f.hertz) = 16 * (n + 1) * f.hertz by ring]

theorem nextArmed_no_crossing (deadband : Nat) (x : Int) (armed : Bool) :
    nextArmed deadband false x armed = (armed || decide (x < -(deadband : Int))) := by
  by_cases hx : x < -(deadband : Int) <;> simp [nextArmed, hx]

section
variable {c : GroupContext} {g : Group} {x : Sample}

theorem trackSample_accepted {len : Nat} (h : EndsAccepted c g x len) :
    (trackSample c x g).tracker =
      { g.tracker with armed := false, cycleCount := some 1, lockCount := min 255 (g.tracker.lockCount + 1) } := by
  obtain ⟨hcrosses, hcount, hlength⟩ := h
  simp only [trackSample, sampleVerdict, crossesAt_iff.mpr hcrosses, hcount, verdictOf, cycleAccepted_iff.mpr hlength]
  rfl

theorem trackSample_early (h : EndsEarly c g x) :
    (trackSample c x g).tracker = { g.tracker with armed := false, cycleCount := some 1, lockCount := 0 } := by
  obtain ⟨hcrosses, len, hcount, hlength⟩ := h
  simp only [trackSample, sampleVerdict, crossesAt_iff.mpr hcrosses, hcount, verdictOf,
    Bool.eq_false_iff.mpr (cycleAccepted_iff.not.mpr hlength)]
  rfl

theorem trackSample_first (hcrosses : CrossesAt g x) (hcount : g.tracker.cycleCount = none) :
    (trackSample c x g).tracker = { g.tracker with armed := false, cycleCount := some 1 } := by
  simp only [trackSample, sampleVerdict, crossesAt_iff.mpr hcrosses, hcount, verdictOf]
  rfl

theorem trackSample_late (h : EndsLate c g x) :
    (trackSample c x g).tracker =
      { g.tracker with
          armed := g.tracker.armed || decide (x.vals[g.config.refSlot] < -(g.config.deadband : Int))
          cycleCount := none, lockCount := 0 } := by
  obtain ⟨hcrosses, n, hcount, hlate⟩ := h
  simp only [trackSample, sampleVerdict, Bool.eq_false_iff.mpr (crossesAt_iff.not.mpr hcrosses), hcount, verdictOf,
    nextCount, longestCycle_le_iff.mpr hlate, if_false, nextArmed_no_crossing]
  rfl

theorem trackSample_counts {n : Nat} (hcrosses : ¬CrossesAt g x) (hlate : ¬EndsLate c g x)
    (hcount : g.tracker.cycleCount = some n) :
    (trackSample c x g).tracker =
      { g.tracker with
          armed := g.tracker.armed || decide (x.vals[g.config.refSlot] < -(g.config.deadband : Int))
          cycleCount := some (n + 1) } := by
  have hroom : n < longestCycle c.rate g.config.freq :=
    not_not.mp fun h => hlate ⟨hcrosses, n, hcount, longestCycle_le_iff.mp h⟩
  simp only [trackSample, sampleVerdict, Bool.eq_false_iff.mpr (crossesAt_iff.not.mpr hcrosses), hcount, verdictOf,
    nextCount, hroom, if_true, nextArmed_no_crossing]
  rfl

theorem trackSample_waits (hcrosses : ¬CrossesAt g x) (hcount : g.tracker.cycleCount = none) :
    (trackSample c x g).tracker =
      { g.tracker with
          armed := g.tracker.armed || decide (x.vals[g.config.refSlot] < -(g.config.deadband : Int)) } := by
  simp only [trackSample, sampleVerdict, Bool.eq_false_iff.mpr (crossesAt_iff.not.mpr hcrosses), hcount, verdictOf,
    nextArmed_no_crossing]
  rfl

end

/-! ## The samples that a group forms (R50) -/

theorem slotMarked_iff {e : QueueEntry} {m : Mark} {u : SlotUse} :
    slotMarked e m u = true ↔ ∃ kind i, u = .used kind i ∧ (entryValue e i).mark = m := by
  cases u <;> simp [slotMarked]

theorem mem_slotIxs (k : SlotIx) : k ∈ slotIxs := by revert k; decide

theorem any_slotMarked_iff {e : QueueEntry} {m : Mark} {slots : Vector SlotUse 4} :
    slotIxs.any (fun k => slotMarked e m slots[k]) = true ↔
      ∃ (k : SlotIx) (kind : Kind) (i : Fin 8), slots[k] = .used kind i ∧ (entryValue e i).mark = m := by
  simp [slotMarked_iff, mem_slotIxs]

theorem ofFn_get {α : Type} {n : Nat} (f : Fin n → α) (k : Fin n) : (Vector.ofFn f)[k] = f k := by simp

theorem realSample_val (e : QueueEntry) (g : Group) (k : SlotIx) :
    (realSample e g).vals[k] = slotValue e g.tracker.last[k] g.config.slots[k] := ofFn_get _ k

theorem heldSample_val (e : QueueEntry) (g : Group) (k : SlotIx) :
    (heldSample e g).vals[k] = if g.config.slots[k] = .unused then 0 else g.tracker.last[k] := by
  refine (ofFn_get _ k).trans ?_
  cases g.config.slots[k] <;> simp

theorem lastAfter_unused {e : QueueEntry} {g : Group} {k : SlotIx} (h : g.config.slots[k] = .unused) :
    (lastAfter e g)[k] = g.tracker.last[k] := by
  refine (ofFn_get _ k).trans ?_
  rw [h]

theorem lastAfter_used {e : QueueEntry} {g : Group} {k : SlotIx} {kind : Kind} {i : Fin 8}
    (h : g.config.slots[k] = .used kind i) :
    (lastAfter e g)[k] =
      if (entryValue e i).mark = .invalid then g.tracker.last[k] else (entryValue e i).value := by
  refine (ofFn_get _ k).trans ?_
  rw [h]
  exact (realSample_val e g k).trans (by rw [h]; rfl)

/-! ## The gap (R61) -/

theorem gapOf_none {c : GroupContext} {e : QueueEntry} {t : Tracker} (h : t.expected = none) : gapOf c e t = 0 := by
  rw [gapOf, h]

theorem gapOf_some {c : GroupContext} {e : QueueEntry} {t : Tracker} {x : Nat} (h : t.expected = some x) :
    gapOf c e t = (((e.seq : Int) - x) % c.rate.samples).toNat := by
  rw [gapOf, h, ← wrapped_sub e.seq x (samples_pos c.rate), Int.toNat_natCast]

/-! ## A gap above G_max (R63, R77) -/

theorem abortWindow_eq {c : GroupContext} {v : GroupView} {i : SetIx} (h : setIn .accumulating v.grp.sets = some i)
    (reason : AbortReason) (follows : Bool) :
    abortWindow c reason follows v =
      { v with
          grp := { v.grp with
            counter := v.grp.counter + 1, buffer := []
            sets := upd v.grp.sets i (clearSet (if follows then .accumulating else .idle) v.grp.sets[i]) }
          events := createEvent c.stamp (.windowAborted c.group reason) (some (low16 v.grp.sets[i].number)) v.events
          captures := captureAbort c.group v.captures } := by
  rw [abortWindow, h]
  rfl

theorem largeGap_tracking {c : GroupContext} {v : GroupView} (h : v.grp.tracker.timing = .tracking) :
    largeGap c v = enterAcquiring c (abortWindow c .gap false v) := by
  simp only [largeGap, h]

theorem largeGap_aligning {c : GroupContext} {v : GroupView} (h : v.grp.tracker.timing = .aligning) :
    largeGap c v = enterAcquiring c v := by
  simp only [largeGap, h]

theorem largeGap_acquiring {c : GroupContext} {v : GroupView} (h : v.grp.tracker.timing = .acquiring) :
    largeGap c v = onTracker (fun t => { t with armed := false, cycleCount := none, lockCount := 0 }) v := by
  simp only [largeGap, h]

theorem largeGap_holdover {c : GroupContext} {v : GroupView} (h : v.grp.tracker.timing = .holdover) :
    largeGap c v =
      onTracker
        (fun t => { t with armed := false, cycleCount := none, lockCount := 0, winCycles := 0, winSamples := 0 })
        (if v.grp.tracker.winSamples ≠ 0 then abortWindow c .gap true v else v) := by
  have hopen : windowOpen v.grp.tracker = decide (v.grp.tracker.winSamples ≠ 0) := by simp [windowOpen, h]
  simp only [largeGap, h, hopen, decide_eq_true_eq]
  rfl

end Sys2Proof.Machine
end

section
/-! The application of the head entry of the Analysis Queue (R32, R37, R39, R49, R80): which groups it has still to
reach, its pass, and its leaving. -/

namespace Sys2Proof.Machine

/-! ## The groups that the head entry has still to reach (R37) -/

theorem unserved_iff {s : State} {e : QueueEntry} {g : GroupId} :
    unserved s e g = true ↔
      (s.groups[g].enabled = true ∧ s.groups[g].config.stream = e.stream) ∧ g ∉ s.queue.served := by
  simp [unserved, names_iff]

theorem anyUnserved_iff {s : State} {e : QueueEntry} :
    anyUnserved s e = true ↔ ∃ g : GroupId, unserved s e g = true := by
  simp [anyUnserved, mem_groupIxs]

theorem leaveIfDone_stays {s : State} {e : QueueEntry} (h : ∃ g : GroupId, unserved s e g = true) :
    leaveIfDone e s = s := if_pos (anyUnserved_iff.mpr h)

theorem leaveIfDone_leaves {s : State} {e : QueueEntry} (h : ∀ g : GroupId, unserved s e g = false) :
    leaveIfDone e s = finishEntry e s :=
  if_neg fun hany => by
    obtain ⟨g, hg⟩ := anyUnserved_iff.mp hany
    simp [h g] at hg

/-! ## The leaving (R32, R37, R39) -/

/-- The queue that the head entry leaves behind (R37, R39). -/
def queueLeft (p : PartSettings) (q : AnalysisQueue) (rest : List QueueEntry) : AnalysisQueue :=
  { entries := rest, served := [], noticeAtLeave := false,
    suspended := if rest.length ≤ p.low then false else q.suspended }

theorem removeHead_eq {p : PartSettings} {q : AnalysisQueue} {e : QueueEntry} {rest : List QueueEntry}
    (h : q.entries = e :: rest) : removeHead p q = queueLeft p q rest := by
  simp only [removeHead, h, List.tail_cons, resumeOnLeave, queueLeft]
  split <;> rfl

theorem finishEntry_quiet {s : State} {e : QueueEntry} {rest : List QueueEntry} (h : s.queue.entries = e :: rest)
    (hfollows : e.silenceFollows = false) (hnotice : s.queue.noticeAtLeave = false) :
    finishEntry e s = { s with queue := queueLeft s.settings s.queue rest } := by
  simp only [finishEntry, hfollows, hnotice, Bool.or_self, Bool.false_eq_true, if_false, removeHead_eq h]

theorem finishEntry_notice {s : State} {e : QueueEntry} {rest : List QueueEntry} (h : s.queue.entries = e :: rest)
    (hnotice : e.silenceFollows = true ∨ s.queue.noticeAtLeave = true) :
    finishEntry e s = { deliverNotice e.stream s with queue := queueLeft s.settings s.queue rest } := by
  have hfollows : (e.silenceFollows || s.queue.noticeAtLeave) = true := by simpa using hnotice
  have hsame : (deliverNotice e.stream s).settings = s.settings ∧ (deliverNotice e.stream s).queue = s.queue := by
    rw [deliverNotice_eq]
    exact ⟨rfl, rfl⟩
  simp only [finishEntry, hfollows, if_true, hsame, removeHead_eq h]

/-- A notice that no enabled group takes changes nothing. -/
theorem deliverNotice_unnamed {i : StreamId} {s : State} (h : ∀ g : GroupId, ¬s.groups[g].names i = true) :
    deliverNotice i s = s :=
  List.foldl_fixed' (fun g => if_neg (h g)) groupIxs

theorem silenced_signal (x : Group) :
    (silenced x).tracker.timing = .noSignal ∧ (silenced x).tracker.expected = none := by
  unfold silenced
  split
  · exact ⟨rfl, rfl⟩
  · split <;> exact ⟨rfl, rfl⟩

/-- The groups after an entry with a silence notice has left (R32, R60). -/
theorem finishEntry_groups {s : State} {e : QueueEntry} {rest : List QueueEntry} (h : s.queue.entries = e :: rest)
    (hnotice : e.silenceFollows = true ∨ s.queue.noticeAtLeave = true) (g : GroupId) :
    (finishEntry e s).groups[g] = silencedBy e.stream s.groups[g] := by
  rw [finishEntry_notice h hnotice, ← deliverNotice_group e.stream s g]

theorem silencedBy_named {i : StreamId} {x : Group} (h : x.names i = true) :
    (silencedBy i x).tracker.timing = .noSignal ∧ (silencedBy i x).tracker.expected = none := by
  rw [silencedBy, if_pos h]
  exact silenced_signal x

theorem silencedBy_other {i : StreamId} {x : Group} (h : ¬x.names i = true) : silencedBy i x = x := if_neg h

/-- An entry that no enabled group names leaves, and a notice that follows it reaches no group. -/
theorem finishEntry_unnamed {s : State} {e : QueueEntry} {rest : List QueueEntry} (h : s.queue.entries = e :: rest)
    (hnone : ∀ g : GroupId, ¬s.groups[g].names e.stream = true) :
    finishEntry e s = { s with queue := queueLeft s.settings s.queue rest } := by
  simp only [finishEntry, deliverNotice_unnamed hnone, ite_self, removeHead_eq h]

theorem finishEntry_queue {s : State} {e : QueueEntry} {rest : List QueueEntry} (h : s.queue.entries = e :: rest) :
    ∃ groups events captures,
      finishEntry e s =
        { s with queue := queueLeft s.settings s.queue rest, groups := groups, events := events,
                 captures := captures } := by
  by_cases hnotice : e.silenceFollows = true ∨ s.queue.noticeAtLeave = true
  · rw [finishEntry_notice h hnotice, deliverNotice_eq]
    exact ⟨_, _, _, rfl⟩
  · obtain ⟨hfollows, hwaits⟩ := not_or.mp hnotice
    rw [finishEntry_quiet h (Bool.eq_false_iff.mpr hfollows) (Bool.eq_false_iff.mpr hwaits)]
    exact ⟨_, _, _, rfl⟩

/-- What the leaving of an entry may change. -/
theorem finishEntry_frame (e : QueueEntry) (s : State) :
    ∃ queue groups events captures,
      finishEntry e s = { s with queue := queue, groups := groups, events := events, captures := captures } := by
  unfold finishEntry
  split
  · rw [deliverNotice_eq]
    exact ⟨_, _, _, _, rfl⟩
  · exact ⟨_, _, _, _, rfl⟩

theorem leaveIfDone_frame (e : QueueEntry) (s : State) :
    ∃ queue groups events captures,
      leaveIfDone e s = { s with queue := queue, groups := groups, events := events, captures := captures } := by
  unfold leaveIfDone
  split
  · exact ⟨_, _, _, _, rfl⟩
  · exact finishEntry_frame e s

/-! ## The pass and the engine (R49, R80) -/

theorem engineTake_busy {s : State} (h : s.engine ≠ none ∨ s.waitList = []) : engineTake s = s := by
  obtain ⟨heq, _⟩ | ⟨g, l, hengine, hwait, _⟩ := engineTake_cases s
  · exact heq
  · simp [hengine, hwait] at h

theorem engineTake_head {s : State} {g : GroupId} {l : List GroupId} (hengine : s.engine = none)
    (hwait : s.waitList = g :: l) :
    engineTake s =
      { s with engine := some g, waitList := l, groups := upd s.groups g (beginEvaluation s.groups[g]) } := by
  rw [engineTake, hengine, hwait]

/-- The state after the pass of the head entry over group `g`, before the engine looks at its wait list. -/
def afterPass (e : QueueEntry) (g : GroupId) (s : State) : State :=
  let w := passEntry (contextOf s g) e (viewGroup s g)
  { s with groups := upd s.groups g w.grp, events := w.events, captures := w.captures, waitList := w.waitList,
           queue := { s.queue with served := s.queue.served ++ [g] } }

/-- The engine's taking and the record of the group served concern different blocks. -/
theorem passGroup_eq (e : QueueEntry) (g : GroupId) (s : State) : passGroup e g s = engineTake (afterPass e g s) := by
  obtain ⟨_, hbusy⟩ | ⟨h, l, hengine, hwait, _⟩ := engineTake_cases (afterPass e g s)
  · rw [passGroup, engineTake_busy hbusy, engineTake_busy (s := actOn s g fun c => passEntry c e) hbusy]
    rfl
  · rw [passGroup, engineTake_head hengine hwait,
      engineTake_head (s := actOn s g fun c => passEntry c e) hengine hwait]
    rfl

/-- The engine's taking at each group: the group stays, or its WAITING set is EVALUATING (R80). -/
theorem engineTake_group (s : State) (h : GroupId) :
    (engineTake s).groups[h] = s.groups[h] ∨ (engineTake s).groups[h] = beginEvaluation s.groups[h] := by
  obtain ⟨heq, _⟩ | ⟨g, l, _, _, heq⟩ := engineTake_cases s <;> rw [heq]
  · exact .inl rfl
  · by_cases hgh : g = h
    · subst hgh
      exact .inr (upd_get_same ..)
    · exact .inl (upd_get_ne _ _ hgh)

theorem beginEvaluation_same (x : Group) :
    (beginEvaluation x).tracker = x.tracker ∧ (beginEvaluation x).config = x.config := by
  obtain ⟨_, h⟩ := beginEvaluation_frame x
  rw [h]
  exact ⟨rfl, rfl⟩

theorem afterPass_group_same (e : QueueEntry) (g : GroupId) (s : State) :
    (afterPass e g s).groups[g] = (passEntry (contextOf s g) e (viewGroup s g)).grp := upd_get_same ..

theorem afterPass_group_other (e : QueueEntry) {g h : GroupId} (hgh : h ≠ g) (s : State) :
    (afterPass e g s).groups[h] = s.groups[h] := upd_get_ne _ _ hgh.symm

theorem passGroup_other (e : QueueEntry) {g h : GroupId} (hgh : h ≠ g) (s : State) :
    (passGroup e g s).groups[h] = s.groups[h] ∨ (passGroup e g s).groups[h] = beginEvaluation s.groups[h] := by
  rw [passGroup_eq, ← afterPass_group_other e hgh s]
  exact engineTake_group _ h

/-- The tracker and the record of the group after its pass. -/
theorem passGroup_same (e : QueueEntry) (g : GroupId) (s : State) :
    (passGroup e g s).groups[g].tracker = (passEntry (contextOf s g) e (viewGroup s g)).grp.tracker ∧
      (passGroup e g s).groups[g].config = (passEntry (contextOf s g) e (viewGroup s g)).grp.config := by
  rw [passGroup_eq, ← afterPass_group_same]
  obtain h | h := engineTake_group (afterPass e g s) g <;> rw [h]
  · exact ⟨rfl, rfl⟩
  · exact beginEvaluation_same _

theorem passGroup_expected (e : QueueEntry) (g : GroupId) (s : State) :
    (passGroup e g s).groups[g].tracker.expected = some ((e.seq + 1) % (contextOf s g).rate.samples) := by
  rw [(passGroup_same e g s).1]
  exact (passEntry_keepsGroup ..).expected

theorem names_congr {x y : Group} (ht : y.tracker = x.tracker) (hc : y.config = x.config) (i : StreamId) :
    y.names i = x.names i := by
  simp only [Group.names, Group.enabled, ht, hc]

/-- A group other than the one passed names the streams that it named. -/
theorem passGroup_names_other (e : QueueEntry) {g h : GroupId} (hgh : h ≠ g) (s : State) (i : StreamId) :
    (passGroup e g s).groups[h].names i = s.groups[h].names i := by
  obtain heq | heq := passGroup_other e hgh s <;> rw [heq]
  obtain ⟨ht, hc⟩ := beginEvaluation_same s.groups[h]
  exact names_congr ht hc i

/-- The group passed still names its stream. -/
theorem passGroup_names_same {e : QueueEntry} {g : GroupId} {s : State} {i : StreamId}
    (h : s.groups[g].names i = true) : (passGroup e g s).groups[g].names i = true := by
  obtain ⟨ht, hc⟩ := passGroup_same e g s
  obtain ⟨henabled, hstream⟩ := names_iff.mp h
  have keeps := passEntry_keepsGroup (contextOf s g) e (viewGroup s g)
  rw [names_congr ht hc, names_iff]
  exact ⟨keeps.enabled henabled, by rw [keeps.frame]; exact hstream⟩

theorem engineTake_queue (s : State) : (engineTake s).queue = s.queue ∧ (engineTake s).settings = s.settings := by
  obtain ⟨_, _, hqueue, _, _, _, _, _, _, hsettings, _⟩ := engineTake_frame s
  exact ⟨hqueue, hsettings⟩

theorem passGroup_queue (e : QueueEntry) (g : GroupId) (s : State) :
    (passGroup e g s).queue = { s.queue with served := s.queue.served ++ [g] } := by
  rw [passGroup_eq, (engineTake_queue _).1]
  rfl

theorem passGroup_settings (e : QueueEntry) (g : GroupId) (s : State) : (passGroup e g s).settings = s.settings := by
  rw [passGroup_eq, (engineTake_queue _).2]
  rfl

theorem passGroup_frame (e : QueueEntry) (g : GroupId) (s : State) :
    ∃ queue groups events captures engine waitList,
      passGroup e g s =
        { s with queue := queue, groups := groups, events := events, captures := captures, engine := engine,
                 waitList := waitList } := by
  rw [passGroup_eq]
  obtain ⟨heq, _⟩ | ⟨h, l, _, _, heq⟩ := engineTake_cases (afterPass e g s) <;> rw [heq] <;>
  exact ⟨_, _, _, _, _, _, rfl⟩

/-- The groups that name a stream still name it after the pass. -/
theorem passGroup_names {e : QueueEntry} {g h : GroupId} {s : State} {i : StreamId}
    (hnames : s.groups[h].names i = true) : (passGroup e g s).groups[h].names i = true := by
  by_cases hgh : h = g
  · subst hgh
    exact passGroup_names_same hnames
  · rwa [passGroup_names_other e hgh]

/-- After the pass the entry has still to reach the groups that it had still to reach, but for the one passed. -/
theorem unserved_passGroup (e : QueueEntry) (g h : GroupId) (s : State) :
    unserved (passGroup e g s) e h = (unserved s e h && decide (h ≠ g)) := by
  by_cases hgh : h = g
  · subst hgh
    simp [unserved, passGroup_queue]
  · rw [unserved, unserved, passGroup_names_other e hgh, passGroup_queue]
    simp [hgh]

/-! ## The command -/

theorem applyEntry_does {g : GroupId} {s t : State} (h : applyAt g s = t) : Does (.applyEntry g) s t := h ▸ rfl

theorem applyAt_empty {g : GroupId} {s : State} (h : s.queue.entries = []) : applyAt g s = s := by
  rw [applyAt, h]

theorem applyAt_served {g : GroupId} {s : State} {e : QueueEntry} {rest : List QueueEntry}
    (h : s.queue.entries = e :: rest) (hg : unserved s e g = false) : applyAt g s = leaveIfDone e s := by
  simp only [applyAt, h, hg, Bool.false_eq_true, if_false]

theorem applyAt_unserved {g : GroupId} {s : State} {e : QueueEntry} {rest : List QueueEntry}
    (h : s.queue.entries = e :: rest) (hg : unserved s e g = true) :
    applyAt g s = leaveIfDone e (passGroup e g s) := by
  simp only [applyAt, h, hg, if_true]

/-- A pass after which the entry has still to reach another group. -/
theorem applyAt_not_last {g : GroupId} {s : State} {e : QueueEntry} {rest : List QueueEntry}
    (h : s.queue.entries = e :: rest) (hg : unserved s e g = true)
    (hmore : ∃ k : GroupId, k ≠ g ∧ unserved s e k = true) : applyAt g s = passGroup e g s := by
  obtain ⟨k, hkg, hk⟩ := hmore
  rw [applyAt_unserved h hg, leaveIfDone_stays ⟨k, by simp [unserved_passGroup, hk, hkg]⟩]

/-- The last pass of an entry, in the same act as its leaving (log entry 15). -/
theorem applyAt_last {g : GroupId} {s : State} {e : QueueEntry} {rest : List QueueEntry}
    (h : s.queue.entries = e :: rest) (hg : unserved s e g = true)
    (hall : ∀ k : GroupId, k ≠ g → unserved s e k = false) : applyAt g s = finishEntry e (passGroup e g s) := by
  rw [applyAt_unserved h hg, leaveIfDone_leaves fun k => ?_]
  rw [unserved_passGroup]
  by_cases hkg : k = g
  · simp [hkg]
  · simp [hall k hkg]

theorem applyAt_frame {g : GroupId} {s : State} {e : QueueEntry} {rest : List QueueEntry}
    (h : s.queue.entries = e :: rest) (hg : unserved s e g = true) :
    ∃ queue groups events captures engine waitList,
      applyAt g s =
        { s with queue := queue, groups := groups, events := events, captures := captures, engine := engine,
                 waitList := waitList } := by
  obtain ⟨_, _, _, _, _, _, hpass⟩ := passGroup_frame e g s
  obtain ⟨_, _, _, _, hleave⟩ := leaveIfDone_frame e (passGroup e g s)
  rw [applyAt_unserved h hg, hleave, hpass]
  exact ⟨_, _, _, _, _, _, rfl⟩

end Sys2Proof.Machine
end

section
/-! APPLY_ENTRY as its rules say it: the application of the head entry, and the pass in its parts. -/

namespace Sys2Proof.Machine

/-- Settles O31: the application of the head entry by what it has still to reach; the pass and the leaving in their
blocks; the pass by the size of the gap; the samples; a gap above G_max by timing state; and the tracker at a sample. -/
theorem applyEntryPassesTheHeadEntry : Obligations.ApplyEntryPassesTheHeadEntry := by
  refine ⟨fun s g => ⟨fun hempty => applyEntry_does (applyAt_empty hempty), fun e rest hhead => ?_⟩,
    fun s g e rest hhead hreach => ?_, fun c e v => ?_, fun e g => ?_, fun c v => ?_, fun c g x => ?_⟩
  · intro names left
    refine ⟨fun h => unserved_iff, fun hnone => ?_, fun hserved hother => ?_, fun hall => ⟨fun hfollows hwaits => ?_,
      fun hnotice => ?_⟩, fun hreach => ?_⟩
    · have hall (h : GroupId) : unserved s e h = false :=
        Bool.eq_false_iff.mpr fun hh => hnone h (unserved_iff.mp hh).1
      exact applyEntry_does ((applyAt_served hhead (hall g)).trans ((leaveIfDone_leaves hall).trans
        (finishEntry_unnamed hhead fun h hnames => hnone h (names_iff.mp hnames))))
    · exact applyEntry_does ((applyAt_served hhead hserved).trans (leaveIfDone_stays hother))
    · exact applyEntry_does ((applyAt_served hhead (hall g)).trans
        ((leaveIfDone_leaves hall).trans (finishEntry_quiet hhead hfollows hwaits)))
    · obtain ⟨_, _, _, hframe⟩ := finishEntry_queue hhead
      refine ⟨driveLines (finishEntry e s),
        applyEntry_does ((applyAt_served hhead (hall g)).trans (leaveIfDone_leaves hall)), ?_, fun h => ?_⟩
      · rw [hframe]
        rfl
      · rw [driveLines_groups, finishEntry_groups hhead hnotice]
        exact ⟨fun hnames => silencedBy_named (names_iff.mpr hnames),
          fun hnames => silencedBy_other (names_iff.not.mpr hnames)⟩
    · obtain ⟨_, _, _, _, _, _, hframe⟩ := applyAt_frame hhead hreach
      have hpassed : (passGroup e g s).queue.entries = e :: rest := by rw [passGroup_queue, hhead]
      refine ⟨driveLines (applyAt g s), applyEntry_does rfl, ?_, fun hmore => ?_, fun hall => ?_⟩
      · rw [hframe]
        rfl
      · rw [applyAt_not_last hhead hreach hmore]
        exact ⟨passGroup_queue e g s, passGroup_expected e g s, fun h hgh => passGroup_other e hgh s⟩
      · rw [applyAt_last hhead hreach hall]
        refine ⟨?_, fun hfollows hwaits => ?_, fun hnotice h hnames => ?_⟩
        · obtain ⟨_, _, _, hqueue⟩ := finishEntry_queue hpassed
          rw [hqueue, passGroup_settings, passGroup_queue]
          rfl
        · have hquiet : (passGroup e g s).queue.noticeAtLeave = false := by rw [passGroup_queue, hwaits]
          rw [finishEntry_quiet hpassed hfollows hquiet]
          exact ⟨passGroup_expected e g s, fun h hgh => passGroup_other e hgh s⟩
        · have hleaves : e.silenceFollows = true ∨ (passGroup e g s).queue.noticeAtLeave = true := by
            rw [passGroup_queue]
            exact hnotice
          rw [driveLines_groups, finishEntry_groups hpassed hleaves]
          exact silencedBy_named (passGroup_names (names_iff.mpr hnames))
  · intro w passed
    refine ⟨applyEntry_does (applyAt_unserved hhead hreach), fun u hu => ⟨leaveIfDone_stays, fun hall hfollows hwaits =>
      (leaveIfDone_leaves hall).trans (finishEntry_quiet hu hfollows hwaits)⟩, fun hbusy => ?_,
      fun h l hengine hwait => ?_⟩
    · exact (passGroup_eq e g s).trans (engineTake_busy hbusy)
    · exact (passGroup_eq e g s).trans (engineTake_head hengine hwait)
  · intro t size gap start held finished w
    have hgap : gapOf c e v.grp.tracker = gap := by
      simp only [gap, t, size]
      cases hx : v.grp.tracker.expected with
      | none => exact gapOf_none hx
      | some x => exact gapOf_some hx
    have keeps := passEntry_keepsGroup c e v
    refine ⟨fun hsmall => ?_, fun hlarge => ?_, keeps.frame, fun k => ?_⟩
    · refine (passEntry_small (hgap ▸ hsmall)).trans ?_
      rw [heldSeqs, List.foldl_map, hgap]
      rfl
    · exact passEntry_large (hgap ▸ hlarge)
    · rw [keeps.last]
      cases hslot : v.grp.config.slots[k] with
      | unused => exact lastAfter_unused hslot
      | used kind i => exact lastAfter_used hslot
  · refine ⟨⟨fun k => ?_, any_slotMarked_iff, any_slotMarked_iff, rfl⟩, heldSample_val e g, rfl, rfl, rfl⟩
    rw [realSample_val]
    cases g.config.slots[k] <;> rfl
  · refine ⟨fun i htiming hset => ?_, largeGap_aligning, largeGap_acquiring, fun i htiming hopen hset => ?_,
      fun htiming hclosed => ?_⟩
    · rw [largeGap_tracking htiming, abortWindow_eq hset]
      rfl
    · rw [largeGap_holdover htiming, if_pos hopen, abortWindow_eq hset]
      rfl
    · rw [largeGap_holdover htiming, if_neg (not_not.mpr hclosed)]
      rfl
  · exact ⟨rfl, fun len => trackSample_accepted, trackSample_early, trackSample_first, trackSample_late,
      fun n => trackSample_counts, trackSample_waits⟩

end Sys2Proof.Machine
end

section
/-! WRITE ENTRY of a group configuration record (R41, R42, R121). -/

namespace Sys2Proof.Machine

/-! ## The record that the arguments carry (R41, R199) -/

/-- An order list read from its bytes has the length of its count, and entry by entry an order and a kind (R199). -/
theorem parseOrders_eq_some {b : List Byte} {i n : Nat} {l : List Order} :
    parseOrders b i n = some l ↔
      l.length = n ∧ ∀ (k : Nat) (o : Order), l[k]? = some o →
        o.h = beNat b (i + 2 * k) 1 ∧ kindArg (beNat b (i + 1 + 2 * k) 1) = some o.kind := by
  induction n generalizing i l with
  | zero =>
    simp only [parseOrders, Option.some.injEq, List.length_eq_zero_iff, eq_comm (a := [])]
    exact ⟨fun h => ⟨h, by simp [h]⟩, And.left⟩
  | succ n ih =>
    have hstep (k : Nat) : i + 2 + 2 * k = i + 2 * (k + 1) ∧ i + 2 + 1 + 2 * k = i + 1 + 2 * (k + 1) := by omega
    simp only [parseOrders, bind, pure, Option.bind_eq_some_iff, Option.some.injEq, ih, hstep]
    constructor
    · rintro ⟨kind, hkind, rest, ⟨hlength, hrest⟩, rfl⟩
      refine ⟨congrArg (· + 1) hlength, fun k o ho => ?_⟩
      cases k with
      | zero => cases ho; exact ⟨rfl, hkind⟩
      | succ k => exact hrest k o ho
    · rintro ⟨hlength, hall⟩
      cases l with
      | nil => cases hlength
      | cons o rest =>
        obtain ⟨horder, hkind⟩ := hall 0 o rfl
        refine ⟨o.kind, hkind, rest, ⟨Nat.succ.inj hlength, fun k p hp => hall (k + 1) p hp⟩, ?_⟩
        rw [← show o.h = beNat b i 1 from horder]

theorem parseOrderList_eq_some {b : List Byte} {l : List Order} :
    parseOrderList b = some l ↔
      l.length = beNat b 26 1 ∧ l.length ≤ 16 ∧ ∀ (k : Nat) (o : Order), l[k]? = some o →
        o.h = beNat b (27 + 2 * k) 1 ∧ kindArg (beNat b (28 + 2 * k) 1) = some o.kind := by
  unfold parseOrderList
  split
  · rename_i hcount
    rw [parseOrders_eq_some]
    exact and_congr_right fun hlength => ⟨fun h => ⟨hlength ▸ hcount, h⟩, And.right⟩
  · rename_i hcount
    exact ⟨nofun, fun ⟨hlength, hle, _⟩ => absurd (hlength ▸ hle) hcount⟩

theorem vector4_eta {α : Type} (v : Vector α 4) : #v[v[0], v[1], v[2], v[3]] = v := by
  ext i hi
  match i with
  | 0 => rfl
  | 1 => rfl
  | 2 => rfl
  | 3 => rfl

/-- Each field of a group record stands in its own bytes (R41, R199). -/
theorem parseGroupRecord_eq_some {b : List Byte} {c : GroupRecord} :
    parseGroupRecord b = some c ↔
      streamArg (beNat b 2 1) = some c.stream ∧ freqArg (beNat b 3 1) = some c.freq ∧ c.cycles = beNat b 4 1 ∧
        (∀ k : SlotIx, slotUseArg (beNat b (5 + 2 * k.val) 1) (beNat b (6 + 2 * k.val) 1) = some c.slots[k]) ∧
        slotArg (beNat b 13 1) = some c.refSlot ∧ c.deadband = beNat b 14 4 ∧ c.fundFloor = beNat b 18 4 ∧
        c.dcFloor = beNat b 22 4 ∧ parseOrderList b = some c.orders ∧ c.gapLimit = beNat b 59 1 ∧
        c.heldLimit = beNat b 60 1 ∧ c.bHi = beNat b 61 1 ∧ c.bLo = beNat b 62 1 ∧ c.tripWeight = beNat b 63 1 ∧
        c.leakPeriod = beNat b 64 1 ∧ c.tripPersistence = beNat b 65 1 ∧
        flagArg (beNat b 66 1) = some c.reportEnable ∧ flagArg (beNat b 67 1) = some c.alertLine ∧
        flagArg (beNat b 68 1) = some c.tripLine ∧ flagArg (beNat b 69 1) = some c.tripFunction ∧
        flagArg (beNat b 70 1) = some c.autoCapture ∧ flagArg (beNat b 71 1) = some c.enableAtStart := by
  constructor
  · intro h
    obtain ⟨_, hstream, h⟩ := Option.bind_eq_some_iff.mp h
    obtain ⟨_, hfreq, h⟩ := Option.bind_eq_some_iff.mp h
    obtain ⟨_, hslot0, h⟩ := Option.bind_eq_some_iff.mp h
    obtain ⟨_, hslot1, h⟩ := Option.bind_eq_some_iff.mp h
    obtain ⟨_, hslot2, h⟩ := Option.bind_eq_some_iff.mp h
    obtain ⟨_, hslot3, h⟩ := Option.bind_eq_some_iff.mp h
    obtain ⟨_, href, h⟩ := Option.bind_eq_some_iff.mp h
    obtain ⟨_, horders, h⟩ := Option.bind_eq_some_iff.mp h
    obtain ⟨_, hreport, h⟩ := Option.bind_eq_some_iff.mp h
    obtain ⟨_, halert, h⟩ := Option.bind_eq_some_iff.mp h
    obtain ⟨_, htrip, h⟩ := Option.bind_eq_some_iff.mp h
    obtain ⟨_, hfunction, h⟩ := Option.bind_eq_some_iff.mp h
    obtain ⟨_, hauto, h⟩ := Option.bind_eq_some_iff.mp h
    obtain ⟨_, henable, h⟩ := Option.bind_eq_some_iff.mp h
    cases h
    refine ⟨hstream, hfreq, rfl, fun k => ?_, href, rfl, rfl, rfl, horders, rfl, rfl, rfl, rfl, rfl, rfl, rfl, hreport,
      halert, htrip, hfunction, hauto, henable⟩
    match k with
    | 0 => exact hslot0
    | 1 => exact hslot1
    | 2 => exact hslot2
    | 3 => exact hslot3
  · obtain ⟨stream, freq, cycles, slots, refSlot, deadband, fundFloor, dcFloor, orders, gapLimit, heldLimit, bHi, bLo,
      tripWeight, leakPeriod, tripPersistence, reportEnable, alertLine, tripLine, tripFunction, autoCapture,
      enableAtStart⟩ := c
    rintro ⟨hstream, hfreq, rfl, hslots, href, rfl, rfl, rfl, horders, rfl, rfl, rfl, rfl, rfl, rfl, rfl, hreport,
      halert, htrip, hfunction, hauto, henable⟩
    have hslot0 : slotUseArg (beNat b 5 1) (beNat b 6 1) = some slots[0] := hslots 0
    have hslot1 : slotUseArg (beNat b 7 1) (beNat b 8 1) = some slots[1] := hslots 1
    have hslot2 : slotUseArg (beNat b 9 1) (beNat b 10 1) = some slots[2] := hslots 2
    have hslot3 : slotUseArg (beNat b 11 1) (beNat b 12 1) = some slots[3] := hslots 3
    simp only [parseGroupRecord, hstream, hfreq, hslot0, hslot1, hslot2, hslot3, href, horders, hreport, halert, htrip,
      hfunction, hauto, henable, Option.bind_eq_bind, Option.bind_some, vector4_eta]
    rfl

/-! ## The write -/

theorem serveWriteGroup_refused {r : Request} (h : 8 ≤ argOf r 1 ∨ parseGroupRecord r.body = none) (s : State) :
    serveWriteGroup r s = refuse .badField s := by
  unfold serveWriteGroup
  obtain hindex | hrecord := h
  · rw [groupArg_eq_none hindex]
  · rw [hrecord]
    cases groupArg (argOf r 1) <;> rfl

/-- Settles O48: the fields of the record one by one, the two refusals, and the stored record with its status. -/
theorem writeEntryStoresAGroupRecord : Obligations.WriteEntryStoresAGroupRecord := by
  refine ⟨fun b c => ?_, fun s r rest h => ⟨fun hout => serves_of_names rfl h (serveWriteGroup_refused hout _),
    fun g c hg hc => ⟨fun henabled => ?_, fun hdisabled => ?_⟩⟩⟩
  · simp only [parseGroupRecord_eq_some, parseOrderList_eq_some, streamArg_eq_some, freqArg_eq_some, slotUseArg_eq_some,
      slotArg_eq_some, kindArg_eq_some, flagArg_eq_some, eq_comm (b := ite _ 1 0), numberAt_eq_beNat, and_assoc] <;> rfl
  · refine serves_of_names rfl h ?_
    have hactive : (taken r rest s).groups[g].enabled = true := henabled
    simp only [serveWriteGroup, hg, hc, hactive]
    rfl
  · refine serves_of_names rfl h ?_
    have hinactive : (taken r rest s).groups[g].enabled = false := hdisabled
    simp only [serveWriteGroup, hg, hc, hinactive]
    exact doneIf_differs ..

end Sys2Proof.Machine
end

section
/-! GROUP ENABLE: the six checks of an enable (R44), and the analysis state that it sets (R45, R48, R65, R78). -/

namespace Sys2Proof.Machine

/-! ## A request of one group at the head of the queue -/

/-- A request at the head whose first argument names a group is served at that group (R174). -/
theorem serves_at_group {c : Instr} {k : RequestCode} {serve : GroupId → State → Reply} {s u : State} {r : Request}
    {rest : List Request} {g : GroupId} {st : Status} {p : Payload}
    (hexec : exec c s = act (takeRequest (hasCode k) (withArgs 1 (withGroup serve)) s)) (h : HeadAsks s r rest k 1)
    (hg : groupArg (argOf r 0) = some g) (hserve : serve g (taken r rest s) = reply st p u) :
    Serves c s r st p u := by
  obtain ⟨hhead, hcode, hcovers⟩ := h
  have hserved : withArgs 1 (withGroup serve) r (taken r rest s) = reply st p u := by
    simp [withArgs, withGroup, hcovers, hg, hserve]
  rw [Serves, Does, hexec, takeRequest_of_head hhead (decide_eq_true hcode), hserved, placeAnswer_reply]
  rfl

/-! ## The checks one by one (R44) -/

theorem slotIsKind_iff {k : Kind} {u : SlotUse} : slotIsKind k u = true ↔ ∃ v, u = .used k v := by
  cases u <;> simp [slotIsKind]

theorem slotInRange_iff {v : Nat} {u : SlotUse} :
    slotInRange v u = true ↔ ∀ kind (i : Fin 8), u = .used kind i → i.val < v := by
  cases u <;> simp [slotInRange]

/-- A walk over the slots finds the lowest one. -/
theorem find?_slotIxs_eq_some {p : SlotIx → Bool} {k : SlotIx} :
    slotIxs.find? p = some k ↔ p k = true ∧ ∀ j : SlotIx, j < k → p j = false := by
  have hsorted : slotIxs.Pairwise (· < ·) := by decide
  rw [List.find?_eq_some_iff_append]
  refine and_congr_right fun _ => ⟨?_, fun hlower => ?_⟩
  · rintro ⟨before, after, hsplit, hbefore⟩ j hj
    obtain hmem | hmem := List.mem_append.mp (hsplit ▸ mem_slotIxs j)
    · simpa using hbefore j hmem
    · obtain rfl | hafter := List.mem_cons.mp hmem
      · exact absurd hj (lt_irrefl _)
      · have hrises := List.rel_of_pairwise_cons (List.pairwise_append.mp (hsplit ▸ hsorted)).2.1 hafter
        exact absurd hj (lt_asymm hrises)
  · obtain ⟨before, after, hsplit⟩ := List.append_of_mem (mem_slotIxs k)
    refine ⟨before, after, hsplit, fun j hj => ?_⟩
    simpa using hlower j ((List.pairwise_append.mp (hsplit ▸ hsorted)).2.2 j hj k List.mem_cons_self)

section
variable {e : StreamEntry} {cfg : GroupRecord}

theorem recordPasses_two_iff : RecordPasses e cfg 2 ↔ ∀ k : SlotIx, slotInRange e.valueCount cfg.slots[k] = true := by
  simp only [slotInRange_iff]
  rfl

theorem badSlot_eq_none : badSlot cfg e.valueCount = none ↔ RecordPasses e cfg 2 := by
  simp [badSlot, recordPasses_two_iff, mem_slotIxs]

theorem failsAt_badSlot {k : SlotIx} (h : badSlot cfg e.valueCount = some k) : FailsAt e cfg 2 (some k.val) := by
  obtain ⟨hk, hlower⟩ := find?_slotIxs_eq_some.mp h
  refine ⟨k, rfl, ?_, fun j hj => slotInRange_iff.mp (by simpa using hlower j hj)⟩
  have hout : ¬slotInRange e.valueCount cfg.slots[k] = true := by simpa using hk
  simpa [slotInRange_iff] using hout

theorem recordPasses_three_iff : RecordPasses e cfg 3 ↔ slotIsKind .ac cfg.slots[cfg.refSlot] = true :=
  slotIsKind_iff.symm

theorem recordPasses_four_iff :
    RecordPasses e cfg 4 ↔ slotIxs.any (fun k => slotIsKind .ac cfg.slots[k]) = true := by
  simp only [List.any_eq_true, mem_slotIxs, true_and, slotIsKind_iff]
  rfl

/-- At most one DC slot is counted exactly when any two are the same one. -/
theorem recordPasses_five_iff : RecordPasses e cfg 5 ↔ ¬1 < dcSlots cfg := by
  have hnodup : (slotIxs.filter fun k => slotIsKind .dc cfg.slots[k]).Nodup := List.Nodup.filter _ (by decide)
  rw [Nat.not_lt, dcSlots, ← List.toFinset_card_of_nodup hnodup, Finset.card_le_one]
  simp only [List.mem_toFinset, List.mem_filter, mem_slotIxs, true_and, slotIsKind_iff]
  exact ⟨fun h j ⟨v, hj⟩ k ⟨w, hk⟩ => h j k v w hj hk, fun h j k v w hj hk => h j ⟨v, hj⟩ k ⟨w, hk⟩⟩

theorem dcSlots_ne_zero_iff : dcSlots cfg ≠ 0 ↔ ∃ (k : SlotIx) (v : Fin 8), cfg.slots[k] = .used .dc v := by
  simp [dcSlots, mem_slotIxs, slotIsKind_iff]

theorem orderPasses_iff {o : Order} : orderPasses cfg e.rate o = true ↔ OrderPasses e cfg o := by
  rw [orderPasses, Bool.and_eq_true, decide_eq_true_iff]
  refine and_congr_right fun _ => ?_
  cases o.kind <;> simp [dcSlots_ne_zero_iff]

theorem badOrder_eq_none : badOrder cfg e.rate = none ↔ RecordPasses e cfg 6 := by
  simp only [badOrder, List.findIdx?_eq_none_iff, Bool.not_eq_false', orderPasses_iff]
  rfl

theorem failsAt_badOrder {n : Nat} (h : badOrder cfg e.rate = some n) : FailsAt e cfg 6 (some n) := by
  obtain ⟨hlength, hn, hlower⟩ := List.findIdx?_eq_some_iff_getElem.mp h
  refine ⟨n, cfg.orders[n], rfl, List.getElem?_eq_getElem hlength, fun hpasses => ?_, fun j p hj hp => ?_⟩
  · simp [orderPasses_iff.mpr hpasses] at hn
  · obtain ⟨_, rfl⟩ := List.getElem?_eq_some_iff.mp hp
    simpa [orderPasses_iff] using hlower j hj

/-! ## Validation (R44) -/

/-- The check `n` is the first of the six that the record fails, and `place` is what its answer names. -/
structure FirstFailure (e : StreamEntry) (cfg : GroupRecord) (n : Nat) (place : Option Nat) : Prop where
  first : 1 ≤ n
  last : n ≤ 6
  before : ∀ m : Nat, 1 ≤ m → m < n → RecordPasses e cfg m
  fails : ¬RecordPasses e cfg n
  place : FailsAt e cfg n place

theorem failsAt_not_passes {n : Nat} {place : Option Nat} (hn : n = 2 ∨ n = 6) (h : FailsAt e cfg n place) :
    ¬RecordPasses e cfg n := by
  intro hpasses
  obtain rfl | rfl := hn
  · obtain ⟨k, _, ⟨kind, v, hk, hv⟩, _⟩ := h
    exact absurd (hpasses k kind v hk) (Nat.not_lt.mpr hv)
  · obtain ⟨k, o, _, ho, hfails, _⟩ := h
    exact hfails (hpasses o (List.mem_of_getElem? ho))

/-- Validation passes every check, or ends at the first one that fails. -/
theorem validate_cases (e : StreamEntry) (cfg : GroupRecord) :
    (validate e cfg = none ∧ ∀ n : Nat, 1 ≤ n → n ≤ 6 → RecordPasses e cfg n) ∨
      ∃ n place, validate e cfg = some { code := n, place := place } ∧ FirstFailure e cfg n place := by
  unfold validate
  split
  · rename_i h1
    exact .inr ⟨1, none, rfl, le_rfl, by decide, by omega, h1, rfl⟩
  rename_i h1
  have p1 : RecordPasses e cfg 1 := not_not.mp h1
  split
  · rename_i k h2
    have hplace := failsAt_badSlot h2
    refine .inr ⟨2, _, rfl, by decide, by decide, fun m _ _ => ?_, failsAt_not_passes (.inl rfl) hplace, hplace⟩
    interval_cases m; assumption
  rename_i h2
  have p2 : RecordPasses e cfg 2 := badSlot_eq_none.mp h2
  split
  · rename_i h3
    refine .inr ⟨3, none, rfl, by decide, by decide, fun m _ _ => ?_, recordPasses_three_iff.not.mpr h3, rfl⟩
    interval_cases m <;> assumption
  rename_i h3
  have p3 : RecordPasses e cfg 3 := recordPasses_three_iff.mpr (not_not.mp h3)
  split
  · rename_i h4
    refine .inr ⟨4, none, rfl, by decide, by decide, fun m _ _ => ?_, recordPasses_four_iff.not.mpr h4, rfl⟩
    interval_cases m <;> assumption
  rename_i h4
  have p4 : RecordPasses e cfg 4 := recordPasses_four_iff.mpr (not_not.mp h4)
  split
  · rename_i h5
    refine .inr ⟨5, none, rfl, by decide, by decide, fun m _ _ => ?_,
      recordPasses_five_iff.not.mpr (not_not.mpr h5), rfl⟩
    interval_cases m <;> assumption
  rename_i h5
  have p5 : RecordPasses e cfg 5 := recordPasses_five_iff.mpr h5
  split
  · rename_i n h6
    have hplace := failsAt_badOrder h6
    refine .inr ⟨6, _, rfl, by decide, by decide, fun m _ _ => ?_, failsAt_not_passes (.inr rfl) hplace, hplace⟩
    interval_cases m <;> assumption
  · rename_i h6
    have p6 : RecordPasses e cfg 6 := badOrder_eq_none.mp h6
    refine .inl ⟨rfl, fun m _ _ => ?_⟩
    interval_cases m <;> assumption

theorem validate_eq_none : validate e cfg = none ↔ ∀ n : Nat, 1 ≤ n → n ≤ 6 → RecordPasses e cfg n := by
  obtain ⟨hnone, hall⟩ | ⟨n, place, hsome, h⟩ := validate_cases e cfg
  · exact iff_of_true hnone hall
  · exact iff_of_false (by simp [hsome]) fun hall => h.fails (hall n h.first h.last)

/-- The first check that fails is the one that the answer names. -/
theorem validate_eq_some {n : Nat} (hfirst : 1 ≤ n) (hlast : n ≤ 6)
    (hbefore : ∀ m : Nat, 1 ≤ m → m < n → RecordPasses e cfg m) (hfails : ¬RecordPasses e cfg n) :
    ∃ place, validate e cfg = some { code := n, place := place } ∧ FailsAt e cfg n place := by
  obtain ⟨_, hall⟩ | ⟨k, place, hsome, h⟩ := validate_cases e cfg
  · exact absurd (hall n hfirst hlast) hfails
  · obtain hlt | rfl | hgt := Nat.lt_trichotomy n k
    · exact absurd (h.before n hfirst hlt) hfails
    · exact ⟨place, hsome, h.place⟩
    · exact absurd (hbefore k h.first hgt) h.fails

end

/-! ## The enable (R45) -/

theorem bothCleared_get (t : SetState) (sets : Vector AccSet 2) (i : SetIx) :
    (upd (upd sets 0 (clearSet t sets[0])) 1 (clearSet t sets[1]))[i] = clearSet t sets[i] := by
  match i with
  | 0 => simp
  | 1 => simp

theorem enableGroup_eq (g : GroupId) (s : State) :
    let t : Timing := if s.supervision[s.groups[g].config.stream].activity = .active then .acquiring else .noSignal
    enableGroup g s =
      { s with
          groups := upd s.groups g (enabledGroup t s.groups[g])
          events := createEvent s.timer (.timing g t) none (createEvent s.timer (.groupEnabled g) none s.events) } := by
  by_cases hactive : s.supervision[s.groups[g].config.stream].activity = .active <;>
    simp only [enableGroup, streamActive, hactive, decide_true, decide_false, if_true, if_false] <;> rfl

/-- Settles O52: the six checks by the first that fails, then the two refusals and the enable. -/
theorem groupEnableStartsAnalysis : Obligations.GroupEnableStartsAnalysis := by
  refine ⟨fun e cfg => ⟨validate_eq_none, fun n => validate_eq_some⟩, fun s r rest g h hg => ?_⟩
  refine ⟨fun henabled => ?_, fun hdisabled f hf => ?_, fun hdisabled hpasses => ?_⟩
  · refine serves_at_group rfl h hg ?_
    have hactive : (taken r rest s).groups[g].enabled = true := henabled
    simp only [serveEnable, hactive]
    rfl
  · refine serves_at_group rfl h hg ?_
    have hinactive : (taken r rest s).groups[g].enabled = false := hdisabled
    have hfails : validateGroup (taken r rest s) g = some f := hf
    simp only [serveEnable, hinactive, hfails]
    rfl
  · refine ⟨enabledGroup _ s.groups[g], serves_at_group rfl h hg ?_, rfl, rfl, rfl, rfl, rfl, rfl, rfl, rfl,
      bothCleared_get .idle _, rfl, rfl, rfl, rfl⟩
    have hinactive : (taken r rest s).groups[g].enabled = false := hdisabled
    have hvalid : validateGroup (taken r rest s) g = none := hpasses
    simp only [serveEnable, hinactive, hvalid, enableGroup_eq]
    rfl

end Sys2Proof.Machine
end

section
/-! GROUP DISABLE: what it does at its group (R46, R78, R114, R133), at the Capture Unit (R168) and at the Result Engine
(R80, R82). -/

namespace Sys2Proof.Machine

/-! ## The slot that a group owns (R158, R168) -/

theorem ownedSlot_eq_some {c : Captures} {g : GroupId} {j : CaptureIx}
    (hone : ¬(c.slots[0].owner = some g ∧ c.slots[1].owner = some g)) (howner : c.slots[j].owner = some g) :
    ownedSlot c g = some j := by
  cases h : ownedSlot c g with
  | none => exact absurd howner (ownedSlot_none h j)
  | some i => rw [owner_unique hone (ownedSlot_some h) howner]

theorem ownedSlot_eq_none {c : Captures} {g : GroupId} (h : ∀ j : CaptureIx, c.slots[j].owner ≠ some g) :
    ownedSlot c g = none := by
  cases howned : ownedSlot c g with
  | none => rfl
  | some i => exact absurd (ownedSlot_some howned) (h i)

/-- A slot whose fellow has another owner is the only one that its group owns. -/
theorem owns_one_of_other {c : Captures} {g : GroupId} {j : CaptureIx} (h : c.slots[other j].owner ≠ some g) :
    ¬(c.slots[0].owner = some g ∧ c.slots[1].owner = some g) := by
  rintro ⟨hzero, hone⟩
  match j with
  | 0 => exact h hone
  | 1 => exact h hzero

theorem endGroupSlot_none {c : Captures} {g : GroupId} (h : ∀ j : CaptureIx, c.slots[j].owner ≠ some g) :
    endGroupSlot g c = c := by
  rw [endGroupSlot, ownedSlot_eq_none h]

theorem endGroupSlot_owned {c : Captures} {g : GroupId} {j : CaptureIx} (howner : c.slots[j].owner = some g)
    (hother : c.slots[other j].owner ≠ some g) : endGroupSlot g c = endSlot j c := by
  rw [endGroupSlot, ownedSlot_eq_some (owns_one_of_other hother) howner]

section
variable {c : Captures} {j : CaptureIx}

theorem endSlot_free (h : c.slots[j].state = .free) : endSlot j c = c := by simp only [endSlot, h]

theorem endSlot_unfinished (h : c.slots[j].state = .armed ∨ c.slots[j].state = .filling) :
    endSlot j c = { slots := upd c.slots j CaptureSlot.free, marker := other j } := by
  obtain h | h := h <;> simp only [endSlot, h] <;> rfl

theorem endSlot_held (h : c.slots[j].state = .held) :
    endSlot j c = { c with slots := upd c.slots j { c.slots[j] with auto := false } } := by
  simp only [endSlot, h]
  rfl

end

/-! ## The group (R46, R78, R114, R133) -/

/-- The group with a pending commit taken (R114, R115). -/
def pendingTaken (x : Group) : Group :=
  { x with
      nowBank := if x.commitPending then x.nextBank else x.nowBank
      generation := if x.commitPending then x.generation + 1 else x.generation
      commitPending := false }

theorem takePending_eq (c : GroupContext) (window : Option (BitVec 32)) (v : GroupView) :
    takePending c window v =
      { v with
          grp := pendingTaken v.grp
          events :=
            if v.grp.commitPending then
              createEvent c.stamp (.limitsCommitted c.group (v.grp.generation + 1)) (window.map low16) v.events
            else v.events } := by
  obtain ⟨⟨_, _, _, _, _, _, _, _, _, _, _, _, pending⟩, _, _, _⟩ := v
  cases pending <;> rfl

/-- A disabled group as the disable leaves it (R46, R78, R133). -/
def disabledGroup (x : Group) : Group :=
  { pendingTaken x with
      tracker := { x.tracker with timing := .disabled, expected := none }, buffer := []
      sets := upd (upd x.sets 0 (clearSet .idle x.sets[0])) 1 (clearSet .idle x.sets[1])
      levelUnit := LevelUnit.fresh }

/-- The events of a disable (R46, R117). -/
def disableEvents (stamp : BitVec 32) (g : GroupId) (x : Group) (q : EventQueue) : EventQueue :=
  createEvent stamp (.timing g .disabled) none (createEvent stamp (.groupDisabled g) none
    (if x.commitPending then createEvent stamp (.limitsCommitted g (x.generation + 1)) none q else q))

theorem disableView_eq (c : GroupContext) (v : GroupView) :
    disableView c v =
      { grp := disabledGroup v.grp, events := disableEvents c.stamp c.group v.grp v.events,
        captures := endGroupSlot c.group v.captures,
        waitList := v.waitList.filter (fun g => decide (g ≠ c.group)) } := by
  rw [disableView, takePending_eq]
  rfl

/-! ## The Result Engine (R80, R82) -/

/-- An idle engine's taking, whether or not a group waits (R80). -/
theorem engineTake_idle {s : State} (h : s.engine = none) :
    (engineTake s).engine = s.waitList.head? ∧ (engineTake s).waitList = s.waitList.tail ∧
      ∀ k : GroupId, (engineTake s).groups[k] =
        if s.waitList.head? = some k then beginEvaluation s.groups[k] else s.groups[k] := by
  cases hwait : s.waitList with
  | nil =>
    rw [engineTake_busy (.inr hwait), hwait]
    exact ⟨h, rfl, fun _ => rfl⟩
  | cons g l =>
    rw [engineTake_head h hwait]
    refine ⟨rfl, rfl, fun k => (upd_get_fin ..).trans ?_⟩
    by_cases hgk : g = k <;> simp [hgk]

/-- The state after a disable, before the engine looks at its wait list. -/
def afterDisable (g : GroupId) (s : State) : State :=
  { s with
      groups := upd s.groups g (disabledGroup s.groups[g])
      events := disableEvents s.timer g s.groups[g] s.events
      captures := endGroupSlot g s.captures
      waitList := s.waitList.filter (fun h => decide (h ≠ g))
      engine := if s.engine = some g then none else s.engine }

theorem disableGroup_eq (g : GroupId) (s : State) : disableGroup g s = engineTake (afterDisable g s) := by
  simp only [disableGroup, actOn, disableView_eq, endEvaluation, afterDisable]
  split <;> rfl

theorem afterDisable_same (g : GroupId) (s : State) : (afterDisable g s).groups[g] = disabledGroup s.groups[g] :=
  upd_get_same ..

theorem afterDisable_other {g h : GroupId} (hgh : h ≠ g) (s : State) : (afterDisable g s).groups[h] = s.groups[h] :=
  upd_get_ne _ _ hgh.symm

theorem afterDisable_not_head (g : GroupId) (s : State) : (afterDisable g s).waitList.head? ≠ some g := by
  intro h
  have hmem := List.mem_of_head? h
  simp [afterDisable] at hmem

theorem engineTake_fields (s : State) :
    engineTake s =
      { s with groups := (engineTake s).groups, engine := (engineTake s).engine,
               waitList := (engineTake s).waitList } := by
  obtain ⟨h, _⟩ | ⟨_, _, _, _, h⟩ := engineTake_cases s <;> rw [h]

theorem disableGroup_frame (g : GroupId) (s : State) :
    disableGroup g s =
      { s with groups := (disableGroup g s).groups, events := disableEvents s.timer g s.groups[g] s.events,
               captures := endGroupSlot g s.captures, engine := (disableGroup g s).engine,
               waitList := (disableGroup g s).waitList } := by
  rw [disableGroup_eq]
  exact engineTake_fields _

theorem disableGroup_same (g : GroupId) (s : State) : (disableGroup g s).groups[g] = disabledGroup s.groups[g] := by
  rw [disableGroup_eq]
  by_cases hidle : (afterDisable g s).engine = none
  · obtain ⟨_, _, hgroups⟩ := engineTake_idle hidle
    rw [hgroups, if_neg (afterDisable_not_head g s), afterDisable_same]
  · rw [engineTake_busy (.inl hidle), afterDisable_same]

/-- An engine that is idle, or was busy with the group, takes the next head (R80, R82). -/
theorem disableGroup_takes {g : GroupId} {s : State} (h : s.engine = none ∨ s.engine = some g) :
    let others := s.waitList.filter (fun h => decide (h ≠ g))
    (disableGroup g s).engine = others.head? ∧ (disableGroup g s).waitList = others.tail ∧
      ∀ k : GroupId, k ≠ g → (disableGroup g s).groups[k] =
        if others.head? = some k then beginEvaluation s.groups[k] else s.groups[k] := by
  have hidle : (afterDisable g s).engine = none := by
    obtain h | h := h <;> simp [afterDisable, h]
  obtain ⟨hengine, hwait, hgroups⟩ := engineTake_idle hidle
  rw [disableGroup_eq]
  refine ⟨hengine, hwait, fun k hk => ?_⟩
  rw [hgroups, afterDisable_other hk]
  rfl

/-- An engine busy with another group stays so (R82). -/
theorem disableGroup_busy {g : GroupId} {s : State} (hbusy : s.engine ≠ none) (hother : s.engine ≠ some g) :
    (disableGroup g s).engine = s.engine ∧
      (disableGroup g s).waitList = s.waitList.filter (fun h => decide (h ≠ g)) ∧
      ∀ k : GroupId, k ≠ g → (disableGroup g s).groups[k] = s.groups[k] := by
  have hengine : (afterDisable g s).engine = s.engine := if_neg hother
  rw [disableGroup_eq, engineTake_busy (.inl (hengine ▸ hbusy))]
  exact ⟨hengine, rfl, fun k hk => afterDisable_other hk s⟩

/-- A disabled group is neither under evaluation nor waiting for it (R82). -/
theorem disableGroup_leaves_engine (g : GroupId) (s : State) :
    (disableGroup g s).engine ≠ some g ∧ g ∉ (disableGroup g s).waitList := by
  have hgone : g ∉ s.waitList.filter (fun h => decide (h ≠ g)) := by simp
  by_cases h : s.engine = none ∨ s.engine = some g
  · obtain ⟨hengine, hwait, _⟩ := disableGroup_takes h
    rw [hengine, hwait]
    exact ⟨fun hhead => hgone (List.mem_of_head? hhead), fun htail => hgone (List.mem_of_mem_tail htail)⟩
  · obtain ⟨hbusy, hother⟩ := not_or.mp h
    obtain ⟨hengine, hwait, _⟩ := disableGroup_busy hbusy hother
    rw [hengine, hwait]
    exact ⟨hother, hgone⟩

/-- Settles O53: the group as the disable leaves it, then the engine, then the slot that the group owns. -/
theorem groupDisableEndsAnalysis : Obligations.GroupDisableEndsAnalysis := by
  intro s r rest g h hg
  refine ⟨fun hdisabled => serves_at_group rfl h hg ?_,
    fun henabled => ⟨disableGroup g (taken r rest s), serves_at_group rfl h hg ?_, ?_⟩⟩
  · have hinactive : (taken r rest s).groups[g].enabled = false := hdisabled
    simp only [serveDisable, hinactive]
    rfl
  · have hactive : (taken r rest s).groups[g].enabled = true := henabled
    simp only [serveDisable, hactive]
    rfl
  · have hgroup : (disableGroup g (taken r rest s)).groups[g] = disabledGroup s.groups[g] := disableGroup_same ..
    obtain ⟨hengine, hwait⟩ := disableGroup_leaves_engine g (taken r rest s)
    have hframe := disableGroup_frame g (taken r rest s)
    have hcaptures : (disableGroup g (taken r rest s)).captures = endGroupSlot g s.captures := by
      rw [hframe]
      rfl
    have hevents : (disableGroup g (taken r rest s)).events = disableEvents s.timer g s.groups[g] s.events := by
      rw [hframe]
      rfl
    rw [hgroup, hcaptures, hevents]
    refine ⟨rfl, rfl, rfl, bothCleared_get .idle _, rfl, rfl, rfl, rfl, rfl, rfl, rfl, rfl, rfl, rfl, rfl, rfl,
      ⟨disableGroup_takes (s := taken r rest s), disableGroup_busy (s := taken r rest s)⟩,
      ⟨endGroupSlot_none, fun j howner hother => ?_⟩, rfl, hengine, hwait, hframe⟩
    rw [endGroupSlot_owned howner hother]
    exact ⟨endSlot_unfinished, endSlot_held, endSlot_free⟩

end Sys2Proof.Machine
end

section
/-! The figures of an evaluated window (chapter 5): the variance of a DC slot (R93), the figure of each row and slot
(R88 to R96), its cell (R118), and the record that holds them (R64, R97 to R99). -/

namespace Sys2Proof.Machine

/-! ## The variance of a DC slot (R92, R93) -/

/-- The square of the sum of `m` values is at most `m` times the sum of their squares. -/
def SumsSpread (m : Nat) (s : SlotSums) : Prop := s.sum * s.sum ≤ m * (s.sumSq : Int)

/-- One value more keeps the inequality: 2 × sum × x is at most sumSq + m × x × x. -/
theorem addToSlot_spread {m : Nat} {s : SlotSums} (h : SumsSpread m s) (orders : List Order) (x : Int) (r len : Nat) :
    SumsSpread (m + 1) (addToSlot .dc orders x r len s) := by
  have hsquare : (s.sumSq + x.natAbs * x.natAbs : Nat) = (s.sumSq : Int) + x * x := by
    rw [Nat.cast_add, Int.natAbs_mul_self]
  show (s.sum + x) * (s.sum + x) ≤ ((m + 1 : Nat) : Int) * ((s.sumSq + x.natAbs * x.natAbs : Nat) : Int)
  rw [hsquare, Nat.cast_add, Nat.cast_one]
  unfold SumsSpread at h
  obtain rfl | hm := Nat.eq_zero_or_pos m
  · have hsum : s.sum = 0 := by
      have hzero : s.sum * s.sum ≤ 0 := by simpa using h
      nlinarith [mul_self_nonneg s.sum]
    rw [hsum, Nat.cast_zero]
    nlinarith [Int.natCast_nonneg s.sumSq]
  · have hm' : (0 : Int) < m := by exact_mod_cast hm
    have hcross : 2 * s.sum * x ≤ (s.sumSq : Int) + m * (x * x) := by
      refine le_of_mul_le_mul_left ?_ hm'
      nlinarith [mul_self_nonneg (s.sum - m * x)]
    nlinarith

theorem foldl_addToSlot_spread (orders : List Order) (xs : List (Int × Nat × Nat)) :
    ∀ {m : Nat} {s : SlotSums}, SumsSpread m s →
      SumsSpread (m + xs.length) (xs.foldl (fun s x => addToSlot .dc orders x.1 x.2.1 x.2.2 s) s) := by
  induction xs with
  | nil => exact fun h => h
  | cons x xs ih =>
    intro m s h
    rw [List.length_cons, Nat.add_comm xs.length, ← Nat.add_assoc]
    exact ih (addToSlot_spread h ..)

/-- The mean truncated toward zero is no larger than the exact one, so its square is no more than the mean square. -/
theorem varianceOf_nonneg {m : Nat} {s : SlotSums} (hm : 0 < m) (h : SumsSpread m s) : 0 ≤ varianceOf m s := by
  have hmean : (meanOf m s).natAbs = s.sum.natAbs / m := by
    rw [meanOf, Int.natAbs_tdiv, Int.natAbs_natCast]
    rfl
  have hspread : s.sum.natAbs * s.sum.natAbs ≤ m * s.sumSq := by
    have hcast : ((s.sum.natAbs * s.sum.natAbs : Nat) : Int) ≤ ((m * s.sumSq : Nat) : Int) := by
      rw [Int.natAbs_mul_self, Nat.cast_mul]
      exact h
    exact_mod_cast hcast
  have hsquare : (meanOf m s).natAbs * (meanOf m s).natAbs ≤ s.sumSq / m := by
    rw [hmean, Nat.le_div_iff_mul_le hm]
    refine Nat.le_of_mul_le_mul_left (Nat.le_trans ?_ hspread) hm
    calc m * (s.sum.natAbs / m * (s.sum.natAbs / m) * m)
        = (s.sum.natAbs / m * m) * (s.sum.natAbs / m * m) := by ring
      _ ≤ s.sum.natAbs * s.sum.natAbs := Nat.mul_le_mul (Nat.div_mul_le_self ..) (Nat.div_mul_le_self ..)
  rw [varianceOf, ← Int.natAbs_mul_self, sub_nonneg]
  exact_mod_cast hsquare

theorem varianceOf_run_nonneg (orders : List Order) {xs : List (Int × Nat × Nat)} (h : xs ≠ []) :
    0 ≤ varianceOf xs.length (xs.foldl (fun s x => addToSlot .dc orders x.1 x.2.1 x.2.2 s) SlotSums.zero) := by
  have hspread := foldl_addToSlot_spread orders xs (m := 0) (s := SlotSums.zero) le_rfl
  rw [Nat.zero_add] at hspread
  exact varianceOf_nonneg (List.length_pos_of_ne_nil h) hspread

/-! ## Amplitudes, ratios and TD (R88, R90, R91) -/

theorem amplitude_eq (m : Nat) (p : Pair) :
    amplitude m p = 2 * isqrt (p.re * p.re + p.im * p.im).toNat / (m * 16384) := by
  have hsquares : (p.re * p.re + p.im * p.im).toNat = p.re.natAbs * p.re.natAbs + p.im.natAbs * p.im.natAbs := by
    rw [← Int.natAbs_mul_self, ← Int.natAbs_mul_self (a := p.im), ← Nat.cast_add, Int.toNat_natCast]
  rw [amplitude, hsquares]

/-- The ratios that TD adds are those of the AC positions, each with its own pair (R90, R91). -/
theorem acRatios_eq (m a1 : Nat) (s : SlotSums) (orders : List Order) (n : Nat) :
    acRatios m a1 s orders n =
      ((orders.zipIdx n).filter (fun p => decide (p.1.kind = .ac))).map
        (fun p => ratioOf (amplitude m (pairAt s p.2)) a1) := by
  induction orders generalizing n with
  | nil => rfl
  | cons o orders ih => by_cases ho : o.kind = .ac <;> simp [acRatios, ho, ih]

theorem totalDistortion_eq (cfg : GroupRecord) (m : Nat) (s : SlotSums) :
    totalDistortion cfg m s =
      min 65535 (isqrt (((cfg.orders.zipIdx.filter (fun p => decide (p.1.kind = .ac))).map
        (fun p => ratioOf (amplitude m (pairAt s p.2)) (fundamental m s) ^ 2)).sum)) := by
  simp only [totalDistortion, acRatios_eq, List.map_map, Function.comp_def, ← Nat.pow_two]
  rfl

/-! ## Figures and cells (R95, R96, R118) -/

/-- A figure with a value holds one of at most 65535 (R95). -/
def FigureBounded (f : Figure) : Prop := ∀ v, f = .value v → v ≤ 65535

theorem figureOf_bounded (below : Bool) (n : Nat) : FigureBounded (figureOf below (clampFigure n)) := by
  intro v h
  cases below <;> cases h
  exact Nat.min_le_left ..

theorem absent_bounded : FigureBounded .absent := nofun

theorem acFigure_bounded (cfg : GroupRecord) (m : Nat) (s : SlotSums) (row : Nat) :
    FigureBounded (acFigure cfg m s row) := by
  simp only [acFigure]
  split
  · split
    · split
      · exact figureOf_bounded _ _
      · exact absent_bounded
    · exact absent_bounded
  · split
    · exact figureOf_bounded _ _
    · exact absent_bounded

theorem dcFigure_bounded (cfg : GroupRecord) (m : Nat) (s : SlotSums) (row : Nat) :
    FigureBounded (dcFigure cfg m s row) := by
  simp only [dcFigure]
  split
  · split
    · split
      · exact figureOf_bounded _ _
      · exact absent_bounded
    · exact absent_bounded
  · split
    · exact figureOf_bounded _ _
    · split
      · exact figureOf_bounded _ _
      · exact absent_bounded

theorem figureAt_bounded (cfg : GroupRecord) (a : AccSet) (row : Nat) (k : SlotIx) :
    FigureBounded (figureAt cfg a row k) := by
  unfold figureAt
  split
  · exact absent_bounded
  · exact acFigure_bounded _ _ _ _
  · exact dcFigure_bounded _ _ _ _

/-- An order-list entry of the kind `kind` stands at the position of a row (R96). -/
def MarksRow (cfg : GroupRecord) (kind : Kind) (row : Nat) : Prop :=
  ∃ o, row < 16 ∧ cfg.orders[row]? = some o ∧ o.kind = kind

section
variable {cfg : GroupRecord} {m : Nat} {s : SlotSums} {row : Nat}

theorem acFigure_order (h : MarksRow cfg .ac row) :
    acFigure cfg m s row =
      figureOf (belowFundFloor cfg (fundamental m s)) (ratioOf (amplitude m (pairAt s row)) (fundamental m s)) := by
  obtain ⟨o, hrow, ho, hkind⟩ := h
  simp only [acFigure, hrow, ho, hkind, if_true]

theorem acFigure_distortion (h : row = 16) :
    acFigure cfg m s row = figureOf (belowFundFloor cfg (fundamental m s)) (totalDistortion cfg m s) := by
  subst h
  rfl

theorem acFigure_absent (h : ¬MarksRow cfg .ac row) (hrow : row ≠ 16) : acFigure cfg m s row = .absent := by
  simp only [acFigure, hrow, if_false]
  split
  · rename_i hlt
    split
    · rename_i o ho
      exact if_neg fun hkind => h ⟨o, hlt, ho, hkind⟩
    · rfl
  · rfl

theorem dcFigure_order (h : MarksRow cfg .dc row) :
    dcFigure cfg m s row =
      figureOf (belowDcFloor cfg (meanOf m s)) (ratioOf (amplitude m (pairAt s row)) (meanOf m s).natAbs) := by
  obtain ⟨o, hrow, ho, hkind⟩ := h
  simp only [dcFigure, hrow, ho, hkind, if_true]

theorem dcFigure_ripple (h : row = 17) :
    dcFigure cfg m s row = figureOf (belowDcFloor cfg (meanOf m s)) (ratioOf (rmsOf m s) (meanOf m s).natAbs) := by
  subst h
  rfl

theorem dcFigure_spread (h : row = 18) :
    dcFigure cfg m s row = figureOf (belowDcFloor cfg (meanOf m s)) (ratioOf (spreadOf s) (meanOf m s).natAbs) := by
  subst h
  rfl

theorem dcFigure_absent (h : ¬MarksRow cfg .dc row) (hrow : row < 17) : dcFigure cfg m s row = .absent := by
  simp only [dcFigure, show row ≠ 17 by omega, show row ≠ 18 by omega, if_false]
  split
  · rename_i hlt
    split
    · rename_i o ho
      exact if_neg fun hkind => h ⟨o, hlt, ho, hkind⟩
    · rfl
  · rfl

theorem belowFundFloor_iff {a1 : Nat} : belowFundFloor cfg a1 = true ↔ a1 = 0 ∨ a1 < cfg.fundFloor := by
  simp [belowFundFloor]

theorem belowDcFloor_iff {mean : Int} : belowDcFloor cfg mean = true ↔ mean = 0 ∨ mean.natAbs < cfg.dcFloor := by
  simp [belowDcFloor]

end

/-- The cell of a figure that is evaluated unless its slot is below its floor (R89, R94, R96). -/
theorem gradeFigure_figureOf {below : Bool} {p : Prop} (h : below = true ↔ p) (row : LimitRow) (v : Nat) :
    (p → gradeFigure row (figureOf below v) = .notEvaluated) ∧
      (¬p → gradeFigure row (figureOf below v) = .value v (gradeValue row v)) := by
  constructor
  · intro hp
    rw [h.mpr hp]
    rfl
  · intro hp
    rw [Bool.eq_false_iff.mpr (h.not.mpr hp)]
    rfl

theorem gradeFigure_value {row : LimitRow} {f : Figure} {v : Nat} {l : RowLevel}
    (h : gradeFigure row f = .value v l) : f = .value v := by
  cases f <;> cases h
  rfl

section
variable {rate : Rate} {cfg : GroupRecord} {bank : Vector LimitRow 19} {gen : BitVec 8} {a : AccSet}

theorem evaluateSet_cells : (evaluateSet rate cfg bank gen a).cells = gradedCells cfg bank a := rfl

theorem evaluateSet_frequency : (evaluateSet rate cfg bank gen a).frequency = frequencyOf rate cfg a := rfl

theorem evaluateSet_idle :
    (evaluateSet rate cfg bank gen a).idle = !(gradedCells cfg bank a).toList.any Cell.valued := by
  rw [evaluateSet]

theorem gradedCells_get (i : Fin 76) :
    (gradedCells cfg bank a)[i] = gradeFigure bank[cellRow i] (figureAt cfg a (cellRow i).val (cellSlot i)) := by
  simp [gradedCells]

theorem cell_le_limit {i : Fin 76} {v : Nat} {l : RowLevel}
    (h : (evaluateSet rate cfg bank gen a).cells[i] = .value v l) : v ≤ 65535 := by
  rw [evaluateSet_cells, gradedCells_get] at h
  exact figureAt_bounded cfg a _ _ v (gradeFigure_value h)

/-- Cell 4 × row + slot is that of the row and slot (R200). -/
theorem cell_eq {p : Fin 76} {row : Fin 19} {k : SlotIx} (h : p.val = 4 * row.val + k.val) :
    (evaluateSet rate cfg bank gen a).cells[p] = gradeFigure bank[row] (figureAt cfg a row.val k) := by
  have hrow : cellRow p = row := Fin.ext (by simp only [cellRow]; omega)
  have hslot : cellSlot p = k := Fin.ext (by simp only [cellSlot]; omega)
  subst hrow hslot
  rw [evaluateSet_cells, gradedCells_get]

theorem figureAt_unused {k : SlotIx} (h : cfg.slots[k] = .unused) (row : Nat) : figureAt cfg a row k = .absent := by
  rw [figureAt, h]

theorem figureAt_ac {k : SlotIx} {v : Fin 8} (h : cfg.slots[k] = .used .ac v) (row : Nat) :
    figureAt cfg a row k = acFigure cfg a.m a.sums[k] row := by
  rw [figureAt, h]

theorem figureAt_dc {k : SlotIx} {v : Fin 8} (h : cfg.slots[k] = .used .dc v) (row : Nat) :
    figureAt cfg a row k = dcFigure cfg a.m a.sums[k] row := by
  rw [figureAt, h]

/-! ## The record (R64, R97 to R99) -/

theorem valued_iff {x : Cell} : x.valued = true ↔ ∃ v l, x = .value v l := by
  cases x <;> simp [Cell.valued]

/-- No cell has a value exactly when none of those that the walk visits has one. -/
theorem none_valued_iff (cells : Vector Cell 76) :
    (!cells.toList.any Cell.valued) = true ↔ ∀ (p : Fin 76) (v : Nat) (l : RowLevel), cells[p] ≠ .value v l := by
  simp only [Bool.not_eq_true', List.any_eq_false, Vector.mem_toList_iff, Vector.mem_iff_getElem, valued_iff]
  constructor
  · intro h p v l hp
    exact h _ ⟨p.val, p.isLt, rfl⟩ ⟨v, l, hp⟩
  · rintro h x ⟨n, hn, rfl⟩ ⟨v, l, hx⟩
    exact h ⟨n, hn⟩ v l hx

/-- The idle flag (R98). -/
theorem idle_iff :
    (evaluateSet rate cfg bank gen a).idle = true ↔
      ∀ (p : Fin 76) (v : Nat) (l : RowLevel), (evaluateSet rate cfg bank gen a).cells[p] ≠ .value v l := by
  rw [evaluateSet_idle, evaluateSet_cells]
  exact none_valued_iff _

theorem fundamentals_ac {k : SlotIx} {v : Fin 8} (h : cfg.slots[k] = .used .ac v) :
    (evaluateSet rate cfg bank gen a).fundamentals[k] = fundamental a.m a.sums[k] := by
  refine (ofFn_get _ k).trans ?_
  rw [h]

theorem fundamentals_other {k : SlotIx} (h : ¬∃ v, cfg.slots[k] = .used .ac v) :
    (evaluateSet rate cfg bank gen a).fundamentals[k] = 0 := by
  refine (ofFn_get _ k).trans ?_
  cases hslot : cfg.slots[k] with
  | unused => rfl
  | used kind v =>
    cases kind with
    | ac => exact absurd ⟨v, hslot⟩ h
    | dc => rfl

/-- The DC slot whose figures the record holds is the lowest one. -/
theorem dcSlot_eq_some {k : SlotIx} :
    dcSlot cfg = some k ↔
      (∃ v, cfg.slots[k] = .used .dc v) ∧ ∀ j : SlotIx, j < k → ¬∃ v, cfg.slots[j] = .used .dc v := by
  have hkind (u : SlotUse) : (match u with
      | .used .dc _ => true
      | _ => false) = slotIsKind .dc u := by
    obtain _ | ⟨_ | _, _⟩ := u <;> rfl
  have hslot : dcSlot cfg = slotIxs.find? fun k => slotIsKind .dc cfg.slots[k] :=
    congrArg slotIxs.find? (funext fun k => hkind cfg.slots[k])
  simp only [hslot, find?_slotIxs_eq_some, slotIsKind_iff, ← Bool.not_eq_true]

theorem dcSlot_eq_none (h : ∀ k : SlotIx, ¬∃ v, cfg.slots[k] = .used .dc v) : dcSlot cfg = none := by
  cases hslot : dcSlot cfg with
  | none => rfl
  | some k => exact absurd (dcSlot_eq_some.mp hslot).1 (h k)

theorem dcFigures_some {k : SlotIx} (h : dcSlot cfg = some k) :
    (evaluateSet rate cfg bank gen a).mean = meanOf a.m a.sums[k] ∧
      (evaluateSet rate cfg bank gen a).rms = rmsOf a.m a.sums[k] ∧
      (evaluateSet rate cfg bank gen a).spread = spreadOf a.sums[k] := by
  simp only [evaluateSet, h, and_self]

theorem meanOf_zero (m : Nat) : meanOf m SlotSums.zero = 0 := Int.zero_tdiv _

theorem dcFigures_none (h : dcSlot cfg = none) :
    (evaluateSet rate cfg bank gen a).mean = 0 ∧ (evaluateSet rate cfg bank gen a).rms = 0 ∧
      (evaluateSet rate cfg bank gen a).spread = 0 := by
  have hvariance : varianceOf a.m SlotSums.zero = 0 := by
    rw [varianceOf, meanOf_zero]
    simp [SlotSums.zero]
  simp only [evaluateSet, h, meanOf_zero, rmsOf, hvariance]
  exact ⟨trivial, rfl, rfl⟩

end

/-- Settles O39: the bound of a value and of the variance, then the record: its cells row by row for an AC and for a DC
slot, and its other fields. -/
theorem figuresStayInTheirRanges : Obligations.FiguresStayInTheirRanges := by
  refine ⟨fun _ _ _ _ _ _ _ _ h => cell_le_limit h, fun orders xs h => varianceOf_run_nonneg orders h,
    fun rate cfg bank gen a => ?_⟩
  intro r isAc isDc amplitudeOf positionOf ratio fund distortion mean rms spread
  have hamplitude : amplitudeOf = amplitude a.m := funext fun p => (amplitude_eq a.m p).symm
  clear_value amplitudeOf
  subst hamplitude
  have hdistortion (k : SlotIx) : totalDistortion cfg a.m a.sums[k] = distortion k := totalDistortion_eq ..
  refine ⟨fun p row k hp => ⟨fun hunused => ?_, fun ⟨v, hac⟩ => ⟨fun hmarked => ?_, fun hrow => ?_,
    fun hmarked hrow => ?_⟩, fun ⟨v, hdc⟩ => ⟨fun hmarked => ?_, fun hrow => ?_, fun hrow => ?_,
    fun hmarked hrow => ?_⟩⟩, ?_, fun htracking => evaluateSet_frequency.trans (by rw [frequencyOf, htracking]),
    fun hholdover => evaluateSet_frequency.trans (by rw [frequencyOf, hholdover]), idle_iff,
    fun k => ⟨fun ⟨v, hac⟩ => fundamentals_ac hac, fundamentals_other⟩,
    fun k hdc hlower => dcFigures_some (dcSlot_eq_some.mpr ⟨hdc, hlower⟩),
    fun hnone => dcFigures_none (dcSlot_eq_none hnone)⟩
  · rw [cell_eq hp, figureAt_unused hunused]
    rfl
  · rw [cell_eq hp, figureAt_ac hac, acFigure_order hmarked]
    exact gradeFigure_figureOf belowFundFloor_iff ..
  · rw [cell_eq hp, figureAt_ac hac, acFigure_distortion hrow, hdistortion]
    exact gradeFigure_figureOf belowFundFloor_iff ..
  · rw [cell_eq hp, figureAt_ac hac, acFigure_absent hmarked hrow]
    rfl
  · rw [cell_eq hp, figureAt_dc hdc, dcFigure_order hmarked]
    exact gradeFigure_figureOf belowDcFloor_iff ..
  · rw [cell_eq hp, figureAt_dc hdc, dcFigure_ripple hrow]
    exact gradeFigure_figureOf belowDcFloor_iff ..
  · rw [cell_eq hp, figureAt_dc hdc, dcFigure_spread hrow]
    exact gradeFigure_figureOf belowDcFloor_iff ..
  · rw [cell_eq hp, figureAt_dc hdc, dcFigure_absent hmarked hrow]
    rfl
  · simp only [r, evaluateSet]

end Sys2Proof.Machine
end

section
/-! A sample at a group, part by part: the verdict on its cycle (R52), the Capture Unit under a window's opening,
samples, abort and close (R162 to R164), and the opening and the close of a window (R68, R74 to R76, R115). -/

namespace Sys2Proof.Machine

/-! ## Verdicts (R52) -/

section
variable {c : GroupContext} {g : Group} {x : Sample}

theorem sampleVerdict_accepted_iff {len : Nat} :
    sampleVerdict c g x = .accepted len ↔ EndsAccepted c g x len := by
  rw [EndsAccepted, ← crossesAt_iff, ← cycleAccepted_iff, sampleVerdict]
  generalize isCrossing g.tracker (refValue g x) = crossing
  cases crossing <;> cases g.tracker.cycleCount <;> simp only [verdictOf]
  · simp
  · split <;> simp
  · simp
  · rename_i n
    obtain rfl | hlen := eq_or_ne n len
    · simp
    · split <;> simp [hlen]

theorem sampleVerdict_early_iff : sampleVerdict c g x = .early ↔ EndsEarly c g x := by
  simp only [EndsEarly, ← crossesAt_iff, ← cycleAccepted_iff, sampleVerdict]
  generalize isCrossing g.tracker (refValue g x) = crossing
  cases crossing <;> cases g.tracker.cycleCount <;> simp only [verdictOf]
  · simp
  · split <;> simp
  · simp
  · split <;> simp_all

theorem sampleVerdict_late_iff : sampleVerdict c g x = .late ↔ EndsLate c g x := by
  simp only [EndsLate, ← crossesAt_iff, ← longestCycle_le_iff, sampleVerdict]
  generalize isCrossing g.tracker (refValue g x) = crossing
  cases crossing <;> cases g.tracker.cycleCount <;> simp only [verdictOf]
  · simp
  · split <;> simp_all
  · simp
  · split <;> simp

theorem sampleVerdict_none (haccepted : ∀ len, ¬EndsAccepted c g x len) (hearly : ¬EndsEarly c g x)
    (hlate : ¬EndsLate c g x) : sampleVerdict c g x = .none := by
  cases h : sampleVerdict c g x with
  | none => rfl
  | accepted len => exact absurd (sampleVerdict_accepted_iff.mp h) (haccepted len)
  | early => exact absurd (sampleVerdict_early_iff.mp h) hearly
  | late => exact absurd (sampleVerdict_late_iff.mp h) hlate

/-- A sample locks when it ends the fourth accepted cycle in a row (R54). -/
theorem locks_iff {n : Nat} :
    locks (sampleVerdict c g x) (nextLock (sampleVerdict c g x) n) = true ↔ 3 ≤ n ∧ ∃ len, EndsAccepted c g x len := by
  simp only [← sampleVerdict_accepted_iff]
  cases sampleVerdict c g x <;> simp [locks, nextLock]

end

/-! ## The Capture Unit at one group (R162 to R164) -/

section
variable {c : Captures} {g : GroupId}

/-- Slot `j` belongs to the group `g` and is in the state `t`. -/
def OwnsIn (c : Captures) (g : GroupId) (j : CaptureIx) (t : CaptureState) : Prop :=
  c.slots[j].owner = some g ∧ c.slots[j].state = t

theorem fillingSlot_eq_none (h : ∀ j, ¬OwnsIn c g j .filling) : fillingSlot g c = none := by
  cases hfills : fillingSlot g c with
  | none => rfl
  | some j => exact absurd (fillingSlot_some hfills) (h j)

theorem captureOpen_none (h : ∀ j, ¬OwnsIn c g j .armed) (number : BitVec 32) (seq : Nat) (kind : WindowKind)
    (map : Vector SlotUse 4) : captureOpen g number seq kind map c = c := by
  unfold captureOpen
  split
  · rename_i j hj
    exact if_neg fun harmed => h j ⟨ownedSlot_some hj, harmed⟩
  · rfl

theorem captureWrite_none (h : ∀ j, ¬OwnsIn c g j .filling) (vals : Vector Int 4) : captureWrite g vals c = c := by
  unfold captureWrite
  split
  · rename_i j hj
    exact if_neg fun hfilling => h j ⟨ownedSlot_some hj, hfilling⟩
  · rfl

theorem captureAbort_none (h : ∀ j, ¬OwnsIn c g j .filling) : captureAbort g c = c := by
  rw [captureAbort, fillingSlot_eq_none h]

section
variable {j : CaptureIx} (hone : ¬(c.slots[0].owner = some g ∧ c.slots[1].owner = some g))
include hone

theorem fillingSlot_eq_some (h : OwnsIn c g j .filling) : fillingSlot g c = some j := by
  obtain ⟨howner, hfilling⟩ := h
  simp only [fillingSlot, ownedSlot_eq_some hone howner, hfilling, if_true]

theorem captureOpen_armed (h : OwnsIn c g j .armed) (number : BitVec 32) (seq : Nat) (kind : WindowKind)
    (map : Vector SlotUse 4) :
    captureOpen g number seq kind map c =
      setSlot j { c.slots[j] with state := .filling, number := number, startSeq := seq, kind := kind, count := 0,
                                  map := map, channels := Vector.replicate 4 [] } c := by
  obtain ⟨howner, harmed⟩ := h
  simp only [captureOpen, ownedSlot_eq_some hone howner, harmed, if_true]

theorem captureWrite_filling (h : OwnsIn c g j .filling) (vals : Vector Int 4) :
    captureWrite g vals c =
      setSlot j { c.slots[j] with count := c.slots[j].count + 1,
                                  channels := writeChannels c.slots[j].map vals c.slots[j].channels } c := by
  obtain ⟨howner, hfilling⟩ := h
  simp only [captureWrite, ownedSlot_eq_some hone howner, hfilling, if_true]

theorem captureAbort_filling (h : OwnsIn c g j .filling) :
    captureAbort g c =
      setSlot j { CaptureSlot.free with state := .armed, owner := some g, holds := c.slots[j].holds,
                                        auto := c.slots[j].auto, trigger := c.slots[j].trigger } c := by
  rw [captureAbort, fillingSlot_eq_some hone h]
  simp only [h.1]

end

/-- A sample goes to the end of the channel of each used slot, and to no other (R162). -/
theorem writeChannels_get (map : Vector SlotUse 4) (vals : Vector Int 4) (channels : Vector (List Int) 4)
    (k : SlotIx) :
    (writeChannels map vals channels)[k] = if map[k] = .unused then channels[k] else channels[k] ++ [vals[k]] := by
  refine (ofFn_get _ k).trans ?_
  cases map[k] <;> simp

end

/-! ## The opening of a window (R68) -/

theorem setIn_of_first {t : SetState} {sets : Vector AccSet 2} {i : SetIx} (h : sets[i].state = t)
    (hfirst : i = 1 → sets[0].state ≠ t) : setIn t sets = some i := by
  match i with
  | 0 => exact if_pos h
  | 1 => exact (if_neg (hfirst rfl)).trans (if_pos h)

theorem setIn_eq_none {t : SetState} {sets : Vector AccSet 2} (h : ∀ i : SetIx, sets[i].state ≠ t) :
    setIn t sets = none := by
  cases hset : setIn t sets with
  | none => rfl
  | some i => exact absurd (setIn_some hset) (h i)

theorem TakesSet.eq {sets : Vector AccSet 2} {i : SetIx} (h : TakesSet sets i) : setToOpen sets = i := by
  obtain ⟨hopen, hfirst⟩ | ⟨hnone, hidle, hfirst⟩ := h
  · rw [setToOpen, setIn_of_first hopen hfirst]
  · rw [setToOpen, setIn_eq_none hnone]
    match i with
    | 0 => exact if_pos hidle
    | 1 => exact if_neg (hfirst rfl)

theorem TakesSet.no_lower {sets : Vector AccSet 2} {i : SetIx} (h : TakesSet sets i) :
    i = 1 → sets[0].state ≠ .accumulating := by
  obtain ⟨_, hfirst⟩ | ⟨hnone, _, _⟩ := h
  · exact hfirst
  · exact fun _ => hnone 0

section
variable {c : GroupContext} {v : GroupView} {i : SetIx}

theorem openWindow_eq (h : TakesSet v.grp.sets i) (kind : WindowKind) (seq : Nat) :
    openWindow c kind seq v = openedIn c kind seq i v := by
  obtain rfl := h.eq
  rfl

/-- The set that an opening takes is the open one. -/
theorem openedIn_setIn (h : TakesSet v.grp.sets i) (kind : WindowKind) (seq : Nat) :
    setIn .accumulating (openedIn c kind seq i v).grp.sets = some i := setIn_upd_first rfl h.no_lower

theorem onOpenSet_eq {g : Group} (h : setIn .accumulating g.sets = some i) (f : AccSet → AccSet) :
    onOpenSet f g = { g with sets := upd g.sets i (f g.sets[i]) } := by
  rw [onOpenSet, h]

theorem openTracking_eq (h : TakesSet v.grp.sets i) (seq : Nat) (x : Sample) :
    openTracking c seq x v = trackingOpened c seq x i v.grp.tracker v := by
  rw [openTracking, openWindow_eq h]
  rfl

/-- A sample that leads to TRACKING opens the window that begins with it (R54, R59). -/
theorem beginTracking_eq (h : TakesSet v.grp.sets i) (seq : Nat) (x : Sample) :
    beginTracking c seq x v =
      trackingOpened c seq x i { v.grp.tracker with timing := .tracking, lockCount := 0 }
        { v with events := createEvent c.stamp (.timing c.group .tracking) none v.events } :=
  openTracking_eq (v := enterTiming c .tracking (onTracker (fun t => { t with lockCount := 0 }) v)) h seq x

/-! ## The close of a window (R75, R76, R114, R115, R163) -/

/-- The sets after the close of the window in set `i`: handed on when the other set is IDLE, discarded otherwise (R75,
R76). -/
def setsClosed (i : SetIx) (follows : Bool) (sets : Vector AccSet 2) : Vector AccSet 2 :=
  if sets[other i].state = .idle then
    upd (upd sets i { sets[i] with state := .waiting }) (other i)
      (if follows then clearSet .accumulating sets[other i] else sets[other i])
  else upd sets i (clearSet (if follows then .accumulating else .idle) sets[i])

/-- The close of the window in set `i`, but for the capture: the sets, the wait list, the counter and a pending commit
(R75, R76, R115). -/
def windowClosed (c : GroupContext) (i : SetIx) (follows : Bool) (v : GroupView) : GroupView :=
  let number := low16 v.grp.sets[i].number
  let discarded : EventQueue :=
    if v.grp.sets[other i].state = .idle then v.events
    else createEvent c.stamp (.overrun c.group) (some number) v.events
  { v with
      grp := { pendingTaken v.grp with sets := setsClosed i follows v.grp.sets, counter := v.grp.counter + 1 }
      events :=
        if v.grp.commitPending then
          createEvent c.stamp (.limitsCommitted c.group (v.grp.generation + 1)) (some number) discarded
        else discarded
      waitList := if v.grp.sets[other i].state = .idle then v.waitList ++ [c.group] else v.waitList }

theorem closeSets_eq (follows : Bool) :
    closeSets c i follows v =
      { v with
          grp := { v.grp with sets := setsClosed i follows v.grp.sets }
          events :=
            if v.grp.sets[other i].state = .idle then v.events
            else createEvent c.stamp (.overrun c.group) (some (low16 v.grp.sets[i].number)) v.events
          waitList := if v.grp.sets[other i].state = .idle then v.waitList ++ [c.group] else v.waitList } := by
  have hother (a : AccSet) : (upd v.grp.sets i a)[other i] = v.grp.sets[other i] := upd_get_ne _ _ (other_ne i).symm
  by_cases hidle : v.grp.sets[other i].state = .idle
  · simp only [closeSets, setsClosed, hidle, if_true, hother]
    cases follows
    · have hsame (a : AccSet) : upd (upd v.grp.sets i a) (other i) v.grp.sets[other i] = upd v.grp.sets i a := by
        rw [← hother a, upd_self]
      simp only [Bool.false_eq_true, if_false, hsame]
    · rfl
  · simp only [closeSets, setsClosed, hidle, if_false]
    rfl

theorem closeWindow_eq (h : setIn .accumulating v.grp.sets = some i) (follows : Bool) :
    closeWindow c follows v = captureClose c (windowClosed c i follows v) := by
  rw [closeWindow, h]
  dsimp only
  rw [closeSets_eq, takePending_eq]
  rfl

theorem captureClose_grp (v : GroupView) : (captureClose c v).grp = v.grp := by
  unfold captureClose
  split <;> rfl

theorem captureClose_waitList (v : GroupView) : (captureClose c v).waitList = v.waitList := by
  unfold captureClose
  split <;> rfl

theorem captureClose_none (h : ∀ j, ¬OwnsIn v.captures c.group j .filling) : captureClose c v = v := by
  rw [captureClose, fillingSlot_eq_none h]

theorem captureClose_filling {j : CaptureIx} (hone : OwnsOne c v.captures)
    (h : OwnsIn v.captures c.group j .filling) :
    captureClose c v =
      { v with
          captures := setSlot j { v.captures.slots[j] with state := .held } v.captures
          events :=
            createEvent c.stamp (.captureReady c.group j) (some (low16 v.captures.slots[j].number)) v.events } := by
  rw [captureClose, fillingSlot_eq_some hone h]
  rfl

theorem closeWindow_tracker (follows : Bool) (v : GroupView) :
    (closeWindow c follows v).grp.tracker = v.grp.tracker := by
  cases h : setIn .accumulating v.grp.sets with
  | none => rw [closeWindow, h]
  | some i =>
    rw [closeWindow_eq h, captureClose_grp]
    rfl

theorem abortWindow_tracker (reason : AbortReason) (follows : Bool) (v : GroupView) :
    (abortWindow c reason follows v).grp.tracker = v.grp.tracker := by
  unfold abortWindow
  split <;> rfl

/-! ## A sample by timing state (R49) -/

/-- The group with its tracker moved on by the sample (R51, R52). -/
def tracked (c : GroupContext) (x : Sample) (v : GroupView) : GroupView := { v with grp := trackSample c x v.grp }

section
variable {x : Sample} {seq : Nat}

theorem handleSample_disabled (h : v.grp.tracker.timing = .disabled) : handleSample c seq x v = tracked c x v := by
  have ht : (trackSample c x v.grp).tracker.timing = .disabled := h
  simp only [handleSample, tracked, ht]

theorem handleSample_noSignal (h : v.grp.tracker.timing = .noSignal) : handleSample c seq x v = tracked c x v := by
  have ht : (trackSample c x v.grp).tracker.timing = .noSignal := h
  simp only [handleSample, tracked, ht]

theorem handleSample_acquiring (h : v.grp.tracker.timing = .acquiring) :
    handleSample c seq x v = acquiringSample c seq x (sampleVerdict c v.grp x) (tracked c x v) := by
  have ht : (trackSample c x v.grp).tracker.timing = .acquiring := h
  simp only [handleSample, tracked, ht]

theorem handleSample_tracking (h : v.grp.tracker.timing = .tracking) :
    handleSample c seq x v = trackingSample c seq x (sampleVerdict c v.grp x) (tracked c x v) := by
  have ht : (trackSample c x v.grp).tracker.timing = .tracking := h
  simp only [handleSample, tracked, ht]

theorem handleSample_holdover (h : v.grp.tracker.timing = .holdover) :
    handleSample c seq x v = holdoverSample c seq x (tracked c x v) := by
  have ht : (trackSample c x v.grp).tracker.timing = .holdover := h
  simp only [handleSample, tracked, ht]

theorem handleSample_aligning (h : v.grp.tracker.timing = .aligning) :
    handleSample c seq x v =
      aligningSample c seq x (isCrossing v.grp.tracker (refValue v.grp x)) (sampleVerdict c v.grp x)
        (tracked c x v) := by
  have ht : (trackSample c x v.grp).tracker.timing = .aligning := h
  simp only [handleSample, tracked, ht]

/-! ## A sample in ACQUIRING (R54, R55) -/

/-- The sample ends the fourth accepted cycle in a row (R54). -/
def EndsFourth (c : GroupContext) (g : Group) (x : Sample) : Prop :=
  3 ≤ g.tracker.lockCount ∧ ∃ len, EndsAccepted c g x len

theorem not_endsFourth_of_late (h : EndsLate c v.grp x) : ¬EndsFourth c v.grp x := by
  rintro ⟨_, len, hcrosses, _⟩
  exact h.1 hcrosses

theorem acquiringSample_locks (htiming : v.grp.tracker.timing = .acquiring) (h : EndsFourth c v.grp x)
    (hset : TakesSet v.grp.sets i) :
    handleSample c seq x v =
      trackingOpened c seq x i
        { (trackSample c x v.grp).tracker with timing := .tracking, lockCount := 0,
                                               acqCount := v.grp.tracker.acqCount + 1 }
        { v with events := createEvent c.stamp (.timing c.group .tracking) none v.events } := by
  rw [handleSample_acquiring htiming]
  refine (if_pos (locks_iff.mpr h)).trans ?_
  refine (beginTracking_eq (v := onTracker (fun t => { t with acqCount := t.acqCount + 1 }) (tracked c x v)) hset
    seq x).trans ?_
  rfl

theorem acquiringSample_timesOut (htiming : v.grp.tracker.timing = .acquiring) (h : ¬EndsFourth c v.grp x)
    (hcount : acquisitionLimit c v.grp ≤ v.grp.tracker.acqCount + 1) :
    handleSample c seq x v =
      { v with
          grp := { v.grp with
            tracker := { (trackSample c x v.grp).tracker with timing := .holdover,
                                                              acqCount := v.grp.tracker.acqCount + 1,
                                                              winCycles := 0, winSamples := 0 } }
          events := createEvent c.stamp (.timing c.group .holdover) none v.events } := by
  rw [handleSample_acquiring htiming]
  exact (if_neg (locks_iff.not.mpr h)).trans (if_pos hcount)

theorem acquiringSample_goesOn (htiming : v.grp.tracker.timing = .acquiring) (h : ¬EndsFourth c v.grp x)
    (hcount : v.grp.tracker.acqCount + 1 < acquisitionLimit c v.grp) :
    handleSample c seq x v =
      { v with
          grp := { v.grp with
            tracker := { (trackSample c x v.grp).tracker with acqCount := v.grp.tracker.acqCount + 1 } } } := by
  rw [handleSample_acquiring htiming]
  exact (if_neg (locks_iff.not.mpr h)).trans (if_neg (Nat.not_le.mpr hcount))

/-! ## A sample in HOLDOVER (R58, R59, R73) -/

/-- The sample added to the open holdover window in set `i`, at its place in the nominal cycle (R58, R73, R162). -/
def holdoverAdded (c : GroupContext) (x : Sample) (i : SetIx) (v : GroupView) : GroupView :=
  let nominal := nominalLength c.rate v.grp.config.freq
  { v with
      grp := { v.grp with
        tracker := { v.grp.tracker with winSamples := v.grp.tracker.winSamples + 1 }
        sets := upd v.grp.sets i
          (addSample v.grp.config (v.grp.tracker.winSamples % nominal) nominal x v.grp.sets[i]) }
      captures := captureWrite c.group x.vals v.captures }

/-- The sample goes to the open window, which it opens if none is open, and closes it as its last (R58). -/
theorem holdoverSample_eq {w : GroupView} (h : setIn .accumulating w.grp.sets = some i)
    (hw : w = if v.grp.tracker.winSamples = 0 then openWindow c .holdover seq v else v) :
    holdoverSample c seq x v =
      if holdoverLength c w.grp ≤ w.grp.tracker.winSamples + 1 then closeHoldover c (holdoverAdded c x i w)
      else holdoverAdded c x i w := by
  simp only [holdoverSample, ← hw, onOpenSet_eq h]
  rfl

theorem holdoverSample_adds (hopen : v.grp.tracker.winSamples ≠ 0) (h : setIn .accumulating v.grp.sets = some i) :
    holdoverSample c seq x v =
      if holdoverLength c v.grp ≤ v.grp.tracker.winSamples + 1 then closeHoldover c (holdoverAdded c x i v)
      else holdoverAdded c x i v := holdoverSample_eq h (if_neg hopen).symm

theorem holdoverSample_opens (hclosed : v.grp.tracker.winSamples = 0) (h : TakesSet v.grp.sets i)
    (hlong : 1 < holdoverLength c v.grp) :
    holdoverSample c seq x v = holdoverOpened c seq x i v.grp.tracker v := by
  have hcount : (openedIn c .holdover seq i v).grp.tracker.winSamples = 0 := hclosed
  have hshort : ¬holdoverLength c (openedIn c .holdover seq i v).grp ≤ 0 + 1 := Nat.not_le.mpr hlong
  have hopened : openedIn c .holdover seq i v =
      if v.grp.tracker.winSamples = 0 then openWindow c .holdover seq v else v := by
    rw [if_pos hclosed, openWindow_eq h]
  rw [holdoverSample_eq (openedIn_setIn h .holdover seq) hopened, hcount, if_neg hshort]
  simp only [holdoverAdded, hcount, Nat.zero_mod]
  rfl

theorem closeHoldover_stays (h : v.grp.tracker.lockCount < 4) :
    closeHoldover c v =
      { closeWindow c true v with
          grp := { (closeWindow c true v).grp with tracker := { v.grp.tracker with winSamples := 0 } } } := by
  rw [closeHoldover, if_neg (Nat.not_le.mpr h), ← closeWindow_tracker true v]
  rfl

theorem closeHoldover_aligns (h : 4 ≤ v.grp.tracker.lockCount) :
    closeHoldover c v =
      { closeWindow c false v with
          grp := { (closeWindow c false v).grp with
            tracker := { v.grp.tracker with timing := .aligning, winSamples := 0 } }
          events := createEvent c.stamp (.timing c.group .aligning) none (closeWindow c false v).events } := by
  rw [closeHoldover, if_pos h, ← closeWindow_tracker false v]
  rfl

end
end

end Sys2Proof.Machine
end

section
/-! A pass that holds its event: the pass of an entry without a gap is the handling of its real sample (R49, R61), and
the commands that name an event of a pass are that pass (log entry 4). -/

namespace Sys2Proof.Machine

section
variable {c : GroupContext} {e : QueueEntry} {v : GroupView}

/-- The group with the last values that the real sample of an entry gives its slots (R50). -/
def realView (e : QueueEntry) (v : GroupView) : GroupView := onTracker (fun t => { t with last := lastAfter e v.grp }) v

/-- The group with the sequence number that it expects after an entry (R49). -/
def expectNext (c : GroupContext) (e : QueueEntry) (v : GroupView) : GroupView :=
  onTracker (fun t => { t with expected := some ((e.seq + 1) % c.rate.samples) }) v

theorem beginPass_real (hsignal : v.grp.tracker.timing ≠ .noSignal) (hgap : gapOf c e v.grp.tracker = 0) :
    beginPass c e v = v := by
  rw [beginPass_eq, hgap, if_neg (Nat.not_lt_zero _), signalReturned, if_neg hsignal]

theorem instantsOf_real (hgap : gapOf c e v.grp.tracker = 0) : instantsOf c e v.grp = [.real e.seq] := by
  simp [instantsOf, hgap]

/-- The pass of an entry without a gap: its real sample, and E_g. -/
theorem passEntry_real (hsignal : v.grp.tracker.timing ≠ .noSignal) (hgap : gapOf c e v.grp.tracker = 0) :
    passEntry c e v = expectNext c e (handleSample c e.seq (realSample e v.grp) (realView e v)) := by
  rw [passEntry, beginPass_real hsignal hgap, instantsOf_real hgap]
  rfl

/-- Where the head entry shows the group no gap, what happens next is what happens at its real sample. -/
theorem happensNext_real {s : State} {g : GroupId} {rest : List QueueEntry} (hhead : s.queue.entries = e :: rest)
    (hreach : unserved s e g = true) (hsignal : s.groups[g].tracker.timing ≠ .noSignal)
    (hgap : gapOf (contextOf s g) e s.groups[g].tracker = 0)
    (p : GroupContext → QueueEntry → GroupView → Instant → Bool) :
    happensNext p g s = p (contextOf s g) e (viewGroup s g) (.real e.seq) := by
  have hpass : beginPass (contextOf s g) e (viewGroup s g) = viewGroup s g := beginPass_real hsignal hgap
  have hinstants : instantsOf (contextOf s g) e (viewGroup s g).grp = [.real e.seq] :=
    instantsOf_real (v := viewGroup s g) hgap
  simp only [happensNext, hhead, hreach, happensInPass, hpass, hinstants, happensIn, Bool.or_false, Bool.true_and]

end

/-- A command of an event in a pass does nothing where the pass that stands next does not hold the event. -/
theorem passCommand_idle {k : Instr} {p : GroupContext → QueueEntry → GroupView → Instant → Bool} {g : GroupId}
    {s : State} (hexec : exec k s = act (if happensNext p g s then applyAt g s else s))
    (h : happensNext p g s = false) : Does k s s := by
  rw [Does, hexec, h]
  rfl

/-- A command of an event in a pass is the pass that holds it, with the entry's leaving (log entries 4 and 15). -/
theorem passCommand_passes {k : Instr} {p : GroupContext → QueueEntry → GroupView → Instant → Bool} {g : GroupId}
    {s : State} {e : QueueEntry} {rest : List QueueEntry}
    (hexec : exec k s = act (if happensNext p g s then applyAt g s else s)) (h : happensNext p g s = true)
    (hhead : s.queue.entries = e :: rest) (hreach : unserved s e g = true) :
    Does k s (leaveIfDone e (passGroup e g s)) := by
  rw [Does, hexec, if_pos h, applyAt_unserved hhead hreach]
  rfl

end Sys2Proof.Machine
end

section
/-! A sample in TRACKING (R56, R57, R74, R77), the cycle too late (R52), and the addition of samples to the sums (R70,
R71). -/

namespace Sys2Proof.Machine

/-! ## TRACKING, verdict by verdict -/

section
variable {c : GroupContext} {seq : Nat} {x : Sample} {v : GroupView}

theorem trackingSample_kept (htiming : v.grp.tracker.timing = .tracking) (h : sampleVerdict c v.grp x = .none) :
    handleSample c seq x v =
      { v with
          grp := { v.grp with
            tracker := { (trackSample c x v.grp).tracker with winSamples := v.grp.tracker.winSamples + 1 }
            buffer := v.grp.buffer ++ [x] }
          captures := captureWrite c.group x.vals v.captures } := by
  rw [handleSample_tracking htiming, h]
  rfl

/-- The buffered cycle, of length `len`, added to the open window's set `i` at the sample that ends it (R56, R74). -/
def cycleAdded (c : GroupContext) (x : Sample) (len : Nat) (i : SetIx) (v : GroupView) : GroupView :=
  { v with
      grp := { v.grp with
        tracker := (trackSample c x v.grp).tracker
        sets := upd v.grp.sets i (addCycle v.grp.config len v.grp.buffer 0 v.grp.sets[i])
        buffer := [] } }

theorem trackingSample_cycle {len : Nat} {i : SetIx} (htiming : v.grp.tracker.timing = .tracking)
    (h : EndsAccepted c v.grp x len) (hset : setIn .accumulating v.grp.sets = some i) :
    handleSample c seq x v =
      let added := cycleAdded c x len i v
      if v.grp.config.cycles ≤ v.grp.tracker.winCycles + 1 then openTracking c seq x (closeWindow c true added)
      else
        { added with
            grp := { added.grp with
              tracker := { added.grp.tracker with winCycles := v.grp.tracker.winCycles + 1,
                                                  winSamples := v.grp.tracker.winSamples + 1 }
              buffer := [x] }
            captures := captureWrite c.group x.vals v.captures } := by
  have hset' : setIn .accumulating (tracked c x v).grp.sets = some i := hset
  rw [handleSample_tracking htiming, sampleVerdict_accepted_iff.mpr h]
  simp only [trackingSample, acceptedCycle, onOpenSet_eq hset']
  rfl

theorem trackingSample_lost {i : SetIx} (htiming : v.grp.tracker.timing = .tracking)
    (h : EndsEarly c v.grp x ∨ EndsLate c v.grp x) (hset : setIn .accumulating v.grp.sets = some i) :
    handleSample c seq x v =
      { v with
          grp := { v.grp with
            tracker := { (trackSample c x v.grp).tracker with timing := .holdover, winCycles := 0, winSamples := 0 }
            sets := upd v.grp.sets i (clearSet .accumulating v.grp.sets[i])
            buffer := []
            counter := v.grp.counter + 1 }
          events := createEvent c.stamp (.timing c.group .holdover) none
            (createEvent c.stamp (.windowAborted c.group .timingLoss) (some (low16 v.grp.sets[i].number)) v.events)
          captures := captureAbort c.group v.captures } := by
  have hset' : setIn .accumulating (tracked c x v).grp.sets = some i := hset
  have hlost : handleSample c seq x v = enterHoldover c (abortWindow c .timingLoss true (tracked c x v)) := by
    obtain h | h := h
    · rw [handleSample_tracking htiming, sampleVerdict_early_iff.mpr h]
      rfl
    · rw [handleSample_tracking htiming, sampleVerdict_late_iff.mpr h]
      rfl
  rw [hlost, abortWindow_eq hset']
  rfl

/-! ## A cycle too late in any timing state (R52) -/

theorem closeHoldover_cycle (v : GroupView) :
    (closeHoldover c v).grp.tracker.cycleCount = v.grp.tracker.cycleCount ∧
      (closeHoldover c v).grp.tracker.lockCount = v.grp.tracker.lockCount := by
  by_cases hlock : 4 ≤ v.grp.tracker.lockCount
  · rw [closeHoldover_aligns hlock]
    exact ⟨rfl, rfl⟩
  · rw [closeHoldover_stays (Nat.not_le.mp hlock)]
    exact ⟨rfl, rfl⟩

theorem onOpenSet_tracker (f : AccSet → AccSet) (g : Group) : (onOpenSet f g).tracker = g.tracker := by
  unfold onOpenSet
  split <;> rfl

/-- The handling of a sample in HOLDOVER leaves the cycle in progress and the lock count to the Cycle Tracker. -/
theorem holdoverSample_cycle (v : GroupView) :
    (holdoverSample c seq x v).grp.tracker.cycleCount = v.grp.tracker.cycleCount ∧
      (holdoverSample c seq x v).grp.tracker.lockCount = v.grp.tracker.lockCount := by
  have hopened : (if v.grp.tracker.winSamples = 0 then openWindow c .holdover seq v else v).grp.tracker =
      v.grp.tracker := by
    split <;> rfl
  dsimp only [holdoverSample]
  generalize (if v.grp.tracker.winSamples = 0 then openWindow c .holdover seq v else v) = v1 at hopened ⊢
  have hadded (f : AccSet → AccSet) :
      (onOpenSet f v1.grp).tracker.cycleCount = v.grp.tracker.cycleCount ∧
        (onOpenSet f v1.grp).tracker.lockCount = v.grp.tracker.lockCount := by
    rw [onOpenSet_tracker, hopened]
    exact ⟨rfl, rfl⟩
  split
  · obtain ⟨hcycle, hlock⟩ := closeHoldover_cycle (c := c) _
    exact ⟨hcycle.trans (hadded _).1, hlock.trans (hadded _).2⟩
  · exact hadded _

theorem handleSample_late (h : EndsLate c v.grp x) :
    (handleSample c seq x v).grp.tracker.cycleCount = none ∧
      (handleSample c seq x v).grp.tracker.lockCount = 0 := by
  have hverdict := sampleVerdict_late_iff.mpr h
  have htracked : (tracked c x v).grp.tracker.cycleCount = none ∧ (tracked c x v).grp.tracker.lockCount = 0 := by
    rw [tracked, trackSample_late h]
    exact ⟨rfl, rfl⟩
  cases htiming : v.grp.tracker.timing with
  | disabled =>
    rw [handleSample_disabled htiming]
    exact htracked
  | noSignal =>
    rw [handleSample_noSignal htiming]
    exact htracked
  | acquiring =>
    have hfourth := not_endsFourth_of_late h
    obtain hcount | hcount := Nat.lt_or_ge (v.grp.tracker.acqCount + 1) (acquisitionLimit c v.grp)
    · rw [acquiringSample_goesOn htiming hfourth hcount]
      exact htracked
    · rw [acquiringSample_timesOut htiming hfourth hcount]
      exact htracked
  | tracking =>
    rw [handleSample_tracking htiming, hverdict]
    simp only [trackingSample, enterHoldover, enterTiming, raiseEvent, onTracker, abortWindow_tracker]
    exact htracked
  | holdover =>
    rw [handleSample_holdover htiming]
    obtain ⟨hcycle, hlock⟩ := holdoverSample_cycle (c := c) (seq := seq) (x := x) (tracked c x v)
    exact ⟨hcycle.trans htracked.1, hlock.trans htracked.2⟩
  | aligning =>
    have hcrossing := Bool.eq_false_iff.mpr (crossesAt_iff.not.mpr h.1)
    rw [handleSample_aligning htiming, hverdict, hcrossing]
    obtain ⟨hcycle, hlock⟩ :=
      holdoverSample_cycle (c := c) (seq := seq) (x := x) (enterHoldover c (tracked c x v))
    exact ⟨hcycle.trans htracked.1, hlock.trans htracked.2⟩

end

/-! ## The sums of a set (R70, R71) -/

theorem addCycle_eq_foldl (cfg : GroupRecord) (len : Nat) (l : List Sample) (r : Nat) (a : AccSet) :
    addCycle cfg len l r a = (l.zipIdx r).foldl (fun b p => addSample cfg p.2 len p.1 b) a := by
  induction l generalizing r a with
  | nil => rfl
  | cons x l ih => exact ih (r + 1) _

/-- What a sample adds to its set besides the sums of the slots (R70). -/
theorem addSample_counts (cfg : GroupRecord) (r len : Nat) (x : Sample) (a : AccSet) :
    addSample cfg r len x a =
      { a with
          m := a.m + 1, held := a.held + if x.held then 1 else 0, clamped := a.clamped + if x.clamped then 1 else 0,
          suspect := a.suspect || x.suspect, sums := (addSample cfg r len x a).sums } := by
  have hcount (b : Bool) (n : Nat) : (if b then n + 1 else n) = n + if b then 1 else 0 := by cases b <;> rfl
  rw [← hcount, ← hcount]
  rfl

theorem addSums_get (cfg : GroupRecord) (r len : Nat) (x : Sample) (sums : Vector SlotSums 4) (k : SlotIx) :
    (addSums cfg r len x sums)[k] = match cfg.slots[k] with
      | .unused => sums[k]
      | .used kind _ => addToSlot kind cfg.orders x.vals[k] r len sums[k] := ofFn_get _ k

theorem addSample_unused {cfg : GroupRecord} {k : SlotIx} (h : cfg.slots[k] = .unused) (r len : Nat) (x : Sample)
    (a : AccSet) : (addSample cfg r len x a).sums[k] = a.sums[k] := by
  refine (addSums_get ..).trans ?_
  rw [h]

theorem addSample_used {cfg : GroupRecord} {k : SlotIx} {kind : Kind} {i : Fin 8} (h : cfg.slots[k] = .used kind i)
    (r len : Nat) (x : Sample) (a : AccSet) :
    (addSample cfg r len x a).sums[k] = addToSlot kind cfg.orders x.vals[k] r len a.sums[k] := by
  refine (addSums_get ..).trans ?_
  rw [h]

/-- The pair of an order-list position moves by the value at its order's phase when the position is of the slot's kind
(R71). -/
theorem addToPairs_getD {kind : Kind} {orders : List Order} {n : Nat} {o : Order} (h : orders[n]? = some o) (x : Int)
    (r len : Nat) (ps : List Pair) :
    (addToPairs kind x r len orders ps).getD n ⟨0, 0⟩ =
      if o.kind = kind then addToPair x (phaseIndex o.h r len) (ps.getD n ⟨0, 0⟩) else ps.getD n ⟨0, 0⟩ := by
  induction orders generalizing n ps with
  | nil => cases h
  | cons p orders ih =>
    cases n with
    | zero =>
      cases h
      cases ps <;> rfl
    | succ n =>
      have htail : ps.tail.getD n ⟨0, 0⟩ = ps.getD (n + 1) ⟨0, 0⟩ := by cases ps <;> rfl
      rw [← htail]
      exact ih h ps.tail

theorem lowerOf_eq (m : Option Int) (y : Int) : lowerOf m y = some (min y (m.getD y)) := by
  cases m with
  | none => simp [lowerOf]
  | some z => simp only [lowerOf, Option.getD_some, Option.some.injEq]; split <;> omega

theorem upperOf_eq (m : Option Int) (y : Int) : upperOf m y = some (max y (m.getD y)) := by
  cases m with
  | none => simp [upperOf]
  | some z => simp only [upperOf, Option.getD_some, Option.some.injEq]; split <;> omega

theorem addToSlot_shared (kind : Kind) (orders : List Order) (x : Int) (r len : Nat) (s : SlotSums) :
    (addToSlot kind orders x r len s).fund = addToPair x (phaseIndex 1 r len) s.fund ∧
      (addToSlot kind orders x r len s).pairs = addToPairs kind x r len orders s.pairs := by
  cases kind <;> exact ⟨rfl, rfl⟩

/-- Settles O32: the command by the pass that holds its event, a sample in TRACKING by its verdict, the abort at the
Capture Unit, and the sums sample by sample. -/
theorem lateCyclesEndTracking : Obligations.LateCyclesEndTracking := by
  refine ⟨fun s g => ⟨passCommand_idle rfl, fun e rest hhead hreach hsignal hgap hcrosses hcount => ?_⟩,
    fun c seq x v htiming => ?_, fun c u hone => ?_, fun cfg len a => ⟨fun l => addCycle_eq_foldl .., fun r x => ?_⟩⟩
  · have hlate : EndsLate (contextOf s g) s.groups[g] (realSample e s.groups[g]) :=
      ⟨crossesAt_iff.not.mp (Bool.eq_false_iff.mp hcrosses), _, hcount, longestCycle_le_iff.mp (lt_irrefl _)⟩
    have hnext : happensNext tooLateAt g s = true :=
      (happensNext_real hhead hreach hsignal hgap _).trans (decide_eq_true (sampleVerdict_late_iff.mpr hlate))
    refine ⟨passCommand_passes rfl hnext hhead hreach, ?_⟩
    intro w
    have hw : w = expectNext (contextOf s g) e
        (handleSample (contextOf s g) e.seq (realSample e s.groups[g]) (realView e (viewGroup s g))) :=
      passEntry_real hsignal hgap
    have hlate' : EndsLate (contextOf s g) (realView e (viewGroup s g)).grp (realSample e s.groups[g]) := hlate
    obtain ⟨hcycle, hlock⟩ := handleSample_late (seq := e.seq) hlate'
    refine ⟨hw ▸ hcycle, hw ▸ hlock, ?_, fun i htracking hset => ?_⟩
    · have hframe := (passEntry_keepsGroup (contextOf s g) e (viewGroup s g)).frame
      exact (congrArg Group.levelUnit hframe).trans rfl
    · have hlost := trackingSample_lost (seq := e.seq) (v := realView e (viewGroup s g)) htracking (.inr hlate') hset
      rw [hlost] at hw
      rw [hw]
      have hcleared := upd_get_same s.groups[g].sets i (clearSet .accumulating s.groups[g].sets[i])
      exact ⟨rfl, rfl, rfl, congrArg AccSet.state hcleared, congrArg AccSet.m hcleared, rfl, rfl⟩
  · intro u
    refine ⟨fun haccepted hearly hlate => trackingSample_kept htiming (sampleVerdict_none haccepted hearly hlate),
      fun len i haccepted hshort hset => ?_, fun i hlost hset => trackingSample_lost htiming hlost hset⟩
    exact (trackingSample_cycle htiming haccepted hset).trans (if_neg (Nat.not_le.mpr hshort))
  · exact ⟨captureAbort_none, fun j hfills => captureAbort_filling hone hfills⟩
  · refine ⟨?_, fun k => ⟨fun hunused => addSample_unused hunused .., fun kind i hused => ?_⟩⟩
    · exact addSample_counts ..
    · intro y moved
      rw [addSample_used hused]
      obtain ⟨hfund, hpairs⟩ := addToSlot_shared kind cfg.orders x.vals[k] r len a.sums[k]
      refine ⟨hfund, fun n o ho => ?_, ?_, ?_⟩
      · rw [pairAt, hpairs]
        exact addToPairs_getD ho ..
      · rintro rfl
        exact ⟨rfl, rfl, rfl, rfl⟩
      · rintro rfl
        refine ⟨rfl, ?_, lowerOf_eq .., upperOf_eq ..⟩
        simp only [addToSlot, Nat.cast_add, Int.natAbs_mul_self]
        rfl

end Sys2Proof.Machine
end

section
/-! The samples of ACQUIRING and ALIGNING (R54, R55, R59), the acquisition that times out (R55), and the window's
samples at the Capture Unit (R162). -/

namespace Sys2Proof.Machine

section
variable {c : GroupContext} {seq : Nat} {x : Sample} {v : GroupView} {i : SetIx}

theorem aligningSample_crosses (htiming : v.grp.tracker.timing = .aligning) (h : CrossesAt v.grp x)
    (hset : TakesSet v.grp.sets i) :
    handleSample c seq x v =
      trackingOpened c seq x i { (trackSample c x v.grp).tracker with timing := .tracking, lockCount := 0 }
        { v with events := createEvent c.stamp (.timing c.group .tracking) none v.events } := by
  rw [handleSample_aligning htiming, crossesAt_iff.mpr h]
  exact beginTracking_eq (v := tracked c x v) hset seq x

/-- The late cycle ends the wait for a crossing: a holdover window opens at the sample (R59). -/
theorem aligningSample_late (htiming : v.grp.tracker.timing = .aligning) (h : EndsLate c v.grp x)
    (hset : TakesSet v.grp.sets i) (hlong : 1 < holdoverLength c v.grp) :
    handleSample c seq x v =
      holdoverOpened c seq x i { (trackSample c x v.grp).tracker with timing := .holdover, winCycles := 0 }
        { v with events := createEvent c.stamp (.timing c.group .holdover) none v.events } := by
  rw [handleSample_aligning htiming, Bool.eq_false_iff.mpr (crossesAt_iff.not.mpr h.1), sampleVerdict_late_iff.mpr h]
  exact holdoverSample_opens (v := enterHoldover c (tracked c x v)) rfl hset hlong

theorem aligningSample_waits (htiming : v.grp.tracker.timing = .aligning) (hcrosses : ¬CrossesAt v.grp x)
    (hlate : ¬EndsLate c v.grp x) : handleSample c seq x v = tracked c x v := by
  have hverdict : sampleVerdict c v.grp x = .none :=
    sampleVerdict_none (fun _ h => hcrosses h.1) (fun h => hcrosses h.1) hlate
  rw [handleSample_aligning htiming, Bool.eq_false_iff.mpr (crossesAt_iff.not.mpr hcrosses), hverdict]
  rfl

end

/-- Settles O33: the command by the pass that holds its event, the samples of ACQUIRING and ALIGNING by what they end,
and the opening and the samples of a window at the Capture Unit. -/
theorem acquisitionTimeoutsEnterHoldover : Obligations.AcquisitionTimeoutsEnterHoldover := by
  refine ⟨fun s g => ⟨passCommand_idle rfl, fun e rest hhead hreach htiming hgap hcount hlocks => ?_⟩,
    fun c seq x v => ⟨fun htiming => ?_, fun htiming => ?_⟩, fun c u hone => ⟨fun number seq kind map => ?_,
    fun vals => ?_⟩⟩
  · have hsignal : s.groups[g].tracker.timing ≠ .noSignal := fun h => by cases htiming.symm.trans h
    have hfourth : ¬EndsFourth (contextOf s g) (realView e (viewGroup s g)).grp (realSample e s.groups[g]) :=
      locks_iff.not.mp (Bool.eq_false_iff.mp hlocks)
    have hout := acquiringSample_timesOut (seq := e.seq) (v := realView e (viewGroup s g)) htiming hfourth hcount.ge
    have hnext : happensNext timeoutAt g s = true := by
      refine (happensNext_real hhead hreach hsignal hgap _).trans ?_
      refine (Bool.and_eq_true ..).mpr ⟨decide_eq_true htiming, decide_eq_true ?_⟩
      exact congrArg (fun w => w.grp.tracker.timing) hout
    refine ⟨passCommand_passes rfl hnext hhead hreach, ?_⟩
    intro w
    have hw : w = expectNext (contextOf s g) e
        (handleSample (contextOf s g) e.seq (realSample e s.groups[g]) (realView e (viewGroup s g))) :=
      passEntry_real hsignal hgap
    rw [hout] at hw
    rw [hw]
    exact ⟨rfl, rfl, rfl, rfl, rfl, rfl, rfl⟩
  · exact ⟨fun i hfourth hset => acquiringSample_locks htiming hfourth hset,
      acquiringSample_timesOut htiming, acquiringSample_goesOn htiming⟩
  · exact ⟨fun i hcrosses hset => aligningSample_crosses htiming hcrosses hset,
      fun i hlate hset hlong => aligningSample_late htiming hlate hset hlong, aligningSample_waits htiming⟩
  · exact ⟨fun hnone => captureOpen_none hnone .., fun j harmed => captureOpen_armed hone harmed ..⟩
  · exact ⟨fun hnone => captureWrite_none hnone vals,
      fun j hfills => ⟨_, captureWrite_filling hone hfills vals, fun k => writeChannels_get ..⟩⟩

end Sys2Proof.Machine
end

section
/-! The samples of HOLDOVER (R58), the sample that ends a window's last cycle in TRACKING (R56, R74), and the window
handed on at a close (R75, R79). -/

namespace Sys2Proof.Machine

/-! ## The sets at a close that hands the window on (R75) -/

section
variable {sets : Vector AccSet 2} {i : SetIx} {follows : Bool} (hidle : sets[other i].state = .idle)
include hidle

theorem setsClosed_waits : (setsClosed i follows sets)[i] = { sets[i] with state := .waiting } := by
  rw [setsClosed, if_pos hidle]
  exact (upd_get_ne _ _ (other_ne i)).trans (upd_get_same ..)

theorem setsClosed_follows :
    (setsClosed i follows sets)[other i] =
      if follows then clearSet .accumulating sets[other i] else sets[other i] := by
  rw [setsClosed, if_pos hidle]
  exact upd_get_same ..

end

section
variable {c : GroupContext} {seq : Nat} {x : Sample} {v : GroupView} {i : SetIx}

theorem closeWindow_grp (h : setIn .accumulating v.grp.sets = some i) (follows : Bool) :
    (closeWindow c follows v).grp = (windowClosed c i follows v).grp := by
  rw [closeWindow_eq h, captureClose_grp]

theorem closeWindow_waitList (h : setIn .accumulating v.grp.sets = some i) (follows : Bool) :
    (closeWindow c follows v).waitList = (windowClosed c i follows v).waitList := by
  rw [closeWindow_eq h, captureClose_waitList]

/-- The close of a holdover window with the other set IDLE hands the window on; the group stays in HOLDOVER, or goes to
ALIGNING with a lock count of 4 or more (R58, R59, R67, R75, R79). -/
theorem closeHoldover_handsOn (hset : setIn .accumulating v.grp.sets = some i)
    (hidle : v.grp.sets[other i].state = .idle) (htiming : v.grp.tracker.timing = .holdover) :
    let w := closeHoldover c v
    w.grp.sets[i] = { v.grp.sets[i] with state := .waiting } ∧ w.waitList = v.waitList ++ [c.group] ∧
      w.grp.counter = v.grp.counter + 1 ∧ w.grp.tracker.winSamples = 0 ∧
      (4 ≤ v.grp.tracker.lockCount → w.grp.tracker.timing = .aligning ∧ w.grp.sets[other i].state = .idle) ∧
      (¬4 ≤ v.grp.tracker.lockCount →
        w.grp.tracker.timing = .holdover ∧ w.grp.sets[other i].state = .accumulating) := by
  have hwaits (follows : Bool) : (closeWindow c follows v).waitList = v.waitList ++ [c.group] :=
    (closeWindow_waitList hset follows).trans (if_pos hidle)
  have hother (follows : Bool) := congrArg AccSet.state (setsClosed_follows (follows := follows) hidle)
  by_cases hlock : 4 ≤ v.grp.tracker.lockCount
  · rw [closeHoldover_aligns hlock, closeWindow_grp hset]
    exact ⟨setsClosed_waits hidle, hwaits false, rfl, rfl, fun _ => ⟨rfl, (hother false).trans hidle⟩, absurd hlock⟩
  · rw [closeHoldover_stays (Nat.not_le.mp hlock), closeWindow_grp hset]
    exact ⟨setsClosed_waits hidle, hwaits true, rfl, rfl, (absurd · hlock), fun _ => ⟨htiming, hother true⟩⟩

/-! ## A sample of an open window, and the window's last (R56, R58) -/

/-- The set of the open window is open still after the sample has been added to it. -/
theorem holdoverAdded_setIn (h : setIn .accumulating v.grp.sets = some i) :
    setIn .accumulating (holdoverAdded c x i v).grp.sets = some i :=
  setIn_upd_first (setIn_some h) (setIn_first h)

/-- After the sample `x` the window of set `i` is handed on with that sample added: `w` is the group after it. -/
def HandedOn (c : GroupContext) (x : Sample) (i : SetIx) (v w : GroupView) : Prop :=
  let locked := 4 ≤ nextLock (sampleVerdict c v.grp x) v.grp.tracker.lockCount
  w.grp.sets[i].state = .waiting ∧ w.grp.sets[i].m = v.grp.sets[i].m + 1 ∧
    w.grp.sets[i].number = v.grp.sets[i].number ∧ w.waitList = v.waitList ++ [c.group] ∧
    w.grp.counter = v.grp.counter + 1 ∧ w.grp.tracker.winSamples = 0 ∧
    (locked → w.grp.tracker.timing = .aligning ∧ w.grp.sets[other i].state = .idle) ∧
    (¬locked → w.grp.tracker.timing = .holdover ∧ w.grp.sets[other i].state = .accumulating)

theorem holdoverAdded_get :
    (holdoverAdded c x i v).grp.sets[i].m = v.grp.sets[i].m + 1 ∧
      (holdoverAdded c x i v).grp.sets[i].number = v.grp.sets[i].number := by
  have hget (a : AccSet) := upd_get_same v.grp.sets i a
  exact ⟨congrArg AccSet.m (hget _), (congrArg AccSet.number (hget (addSample ..)) :)⟩

section
variable (htiming : v.grp.tracker.timing = .holdover) (hopen : v.grp.tracker.winSamples ≠ 0)
  (hset : setIn .accumulating v.grp.sets = some i)
include htiming hopen hset

theorem holdoverSample_goesOn (hcount : v.grp.tracker.winSamples + 1 < holdoverLength c v.grp) :
    handleSample c seq x v = holdoverAdded c x i (tracked c x v) := by
  rw [handleSample_holdover htiming, holdoverSample_adds (v := tracked c x v) hopen hset]
  exact if_neg (Nat.not_le.mpr hcount)

theorem holdoverSample_closes (hcount : v.grp.tracker.winSamples + 1 = holdoverLength c v.grp) :
    handleSample c seq x v = closeHoldover c (holdoverAdded c x i (tracked c x v)) := by
  rw [handleSample_holdover htiming, holdoverSample_adds (v := tracked c x v) hopen hset]
  exact if_pos hcount.ge

/-- With the other set IDLE the window is handed on (R59, R67, R75, R79). -/
theorem holdoverSample_handsOn (hcount : v.grp.tracker.winSamples + 1 = holdoverLength c v.grp)
    (hidle : v.grp.sets[other i].state = .idle) :
    HandedOn c x i v (handleSample c seq x v) := by
  let added := holdoverAdded c x i (tracked c x v)
  obtain ⟨hm, hnumber⟩ := holdoverAdded_get (c := c) (x := x) (i := i) (v := tracked c x v)
  have hidle' : added.grp.sets[other i].state = .idle :=
    (congrArg AccSet.state (upd_get_ne v.grp.sets _ (other_ne i).symm)).trans hidle
  obtain ⟨hmine, hwait, hcounter, hsamples, hlocked, hfree⟩ :=
    closeHoldover_handsOn (c := c) (holdoverAdded_setIn (v := tracked c x v) hset) hidle' htiming
  rw [holdoverSample_closes htiming hopen hset hcount]
  exact ⟨congrArg AccSet.state hmine, (congrArg AccSet.m hmine).trans hm,
    (congrArg AccSet.number hmine).trans hnumber, hwait, hcounter, hsamples, hlocked, hfree⟩

end

theorem windowOpen_of_handedOn {w : GroupView} (h : HandedOn c x i v w) : windowOpen w.grp.tracker = false := by
  obtain ⟨_, _, _, _, _, hsamples, hlocked, hfree⟩ := h
  have htiming : w.grp.tracker.timing ≠ .tracking := by
    by_cases hlock : 4 ≤ nextLock (sampleVerdict c v.grp x) v.grp.tracker.lockCount
    · simp [hlocked hlock]
    · simp [hfree hlock]
  simp [windowOpen, htiming, hsamples]

/-- The sample that ends the window's last cycle closes it and is the first of the next (R56, R74). -/
theorem trackingSample_closes {len : Nat} {j : SetIx} (htiming : v.grp.tracker.timing = .tracking)
    (haccepted : EndsAccepted c v.grp x len) (hlast : v.grp.config.cycles ≤ v.grp.tracker.winCycles + 1)
    (hset : setIn .accumulating v.grp.sets = some i)
    (hnext : TakesSet (closeWindow c true (cycleAdded c x len i v)).grp.sets j) :
    handleSample c seq x v =
      trackingOpened c seq x j (trackSample c x v.grp).tracker (closeWindow c true (cycleAdded c x len i v)) := by
  have htracker : (closeWindow c true (cycleAdded c x len i v)).grp.tracker = (trackSample c x v.grp).tracker :=
    closeWindow_tracker ..
  rw [← htracker, ← openTracking_eq hnext]
  exact (trackingSample_cycle htiming haccepted hset).trans (if_pos hlast)

end

/-- Settles O34: the command by the pass that holds its event, the samples of HOLDOVER and the last of a TRACKING window
by what they close, and the close by whether the other set is IDLE and a capture is FILLING. -/
theorem holdoverClosesHandOnTheWindow : Obligations.HoldoverClosesHandOnTheWindow := by
  refine ⟨fun s g => ⟨passCommand_idle rfl,
      fun e rest i hhead hreach htiming hgap hcount hset hidle => ?_⟩,
    fun c seq x v => ⟨fun htiming => ⟨fun i hclosed htakes hlong => ?_, fun i hopen hset => ?_⟩,
      fun htiming len i j haccepted hlast hset hnext => ?_⟩,
    fun c i follows v hset hone => ?_⟩
  · have hsignal : s.groups[g].tracker.timing ≠ .noSignal := fun h => by cases htiming.symm.trans h
    have hnominal := (nominal_bounds (contextOf s g).rate s.groups[g].config.freq).1
    have hfull : s.groups[g].tracker.winSamples ≠ 0 := by
      intro h
      rw [h, nominalLength] at hcount
      have := Nat.eq_one_of_mul_eq_one_left hcount.symm
      omega
    let v := realView e (viewGroup s g)
    have hhanded := holdoverSample_handsOn (c := contextOf s g) (seq := e.seq) (x := realSample e s.groups[g]) (v := v)
      htiming hfull hset hcount hidle
    have hnext : happensNext holdoverCloseAt g s = true := by
      refine (happensNext_real hhead hreach hsignal hgap _).trans ?_
      exact (Bool.and_eq_true ..).mpr ⟨decide_eq_true htiming, congrArg not (windowOpen_of_handedOn hhanded)⟩
    refine ⟨passCommand_passes rfl hnext hhead hreach, ?_⟩
    rw [passEntry_real (v := viewGroup s g) hsignal hgap]
    exact hhanded
  · rw [handleSample_holdover htiming]
    exact holdoverSample_opens (v := tracked c x v) hclosed htakes hlong
  · refine ⟨holdoverSample_goesOn htiming hopen hset, fun hcount hlock => ?_, fun hcount hlock => ?_⟩
    · rw [holdoverSample_closes htiming hopen hset hcount]
      exact closeHoldover_stays hlock
    · rw [holdoverSample_closes htiming hopen hset hcount]
      exact closeHoldover_aligns hlock
  · exact trackingSample_closes htiming haccepted hlast hset hnext
  · rw [closeWindow_eq hset]
    exact ⟨fun hnone => captureClose_none (v := windowClosed c i follows v) hnone,
      fun j hfills => captureClose_filling (v := windowClosed c i follows v) hone hfills⟩

end Sys2Proof.Machine
end

section
/-! The accumulator sets of one group through a pass and a silence notice (R66, R79): every act at a sample keeps the law
of R66 at its group, puts the group into the wait list with the window it hands on, and touches no other group's place. -/

namespace Sys2Proof.Machine

/-! ## The two sets of a group, one replaced -/

theorem fin_two_cases (i k : Fin 2) : k = i ∨ k = other i := by revert i k; decide

theorem hasSet_iff (g : Group) (i : SetIx) (t : SetState) :
    HasSet g t ↔ g.sets[i].state = t ∨ g.sets[other i].state = t := by
  refine ⟨fun ⟨k, hk⟩ => ?_, fun h => h.elim (⟨_, ·⟩) (⟨_, ·⟩)⟩
  obtain rfl | rfl := fin_two_cases i k
  · exact .inl hk
  · exact .inr hk

theorem setsLawful_iff (g : Group) (i : SetIx) :
    SetsLawful g ↔ ¬(g.sets[i].state = .accumulating ∧ g.sets[other i].state = .accumulating) ∧
      ¬(g.sets[i].state.isClosed ∧ g.sets[other i].state.isClosed) := by
  match i with
  | 0 => rfl
  | 1 => exact and_congr (not_congr and_comm) (not_congr and_comm)

theorem hasSet_upd (g : Group) (i : SetIx) (a : AccSet) (t : SetState) :
    HasSet { g with sets := upd g.sets i a } t ↔ a.state = t ∨ g.sets[other i].state = t := by
  rw [hasSet_iff _ i, upd_get_same, upd_get_ne _ _ (other_ne i).symm]

theorem setsLawful_upd (g : Group) (i : SetIx) (a : AccSet) :
    SetsLawful { g with sets := upd g.sets i a } ↔
      ¬(a.state = .accumulating ∧ g.sets[other i].state = .accumulating) ∧
        ¬(a.state.isClosed ∧ g.sets[other i].state.isClosed) := by
  rw [setsLawful_iff _ i, upd_get_same, upd_get_ne _ _ (other_ne i).symm]

theorem not_isClosed_iff {t : SetState} : ¬t.isClosed ↔ t = .idle ∨ t = .accumulating := by
  cases t <;> simp [SetState.isClosed]

theorem follows_not_closed (follows : Bool) : ¬(if follows then SetState.accumulating else .idle).isClosed := by
  cases follows <;> simp [SetState.isClosed]

/-! ## A group in account with the wait list -/

/-- The group of `c` in the view `v` keeps the law of R66 and stands in the wait list once, exactly with a WAITING set
(R79); seen from the view `u` no set began or ended an evaluation, and no other group's place changed. -/
structure Accounted (c : GroupContext) (u v : GroupView) : Prop where
  sets : SetsLawful v.grp
  nodup : v.waitList.Nodup
  waits : c.group ∈ v.waitList ↔ HasSet v.grp .waiting
  evaluates : HasSet v.grp .evaluating ↔ HasSet u.grp .evaluating
  others : ∀ h : GroupId, h ≠ c.group → (h ∈ v.waitList ↔ h ∈ u.waitList)

section
variable {c : GroupContext} {u v : GroupView}

/-- An open or IDLE set that stays open or becomes IDLE, or becomes the only open one. -/
theorem Accounted.replace (h : Accounted c u v) {i : SetIx} {a : AccSet} (hi : ¬v.grp.sets[i].state.isClosed)
    (ha : ¬a.state.isClosed)
    (hone : a.state = .accumulating → ∀ k : SetIx, k ≠ i → v.grp.sets[k].state ≠ .accumulating) :
    Accounted c u { v with grp := { v.grp with sets := upd v.grp.sets i a } } := by
  have hsame (t : SetState) (ht : t.isClosed) :
      HasSet { v.grp with sets := upd v.grp.sets i a } t ↔ HasSet v.grp t := by
    rw [hasSet_upd, hasSet_iff v.grp i]
    refine or_congr_left ?_
    exact iff_of_false (fun h => ha (h ▸ ht)) (fun h => hi (h ▸ ht))
  exact ⟨(setsLawful_upd ..).mpr ⟨fun h => hone h.1 _ (other_ne i) h.2, fun h => ha h.1⟩, h.nodup,
    h.waits.trans (hsame .waiting (.inl rfl)).symm, (hsame .evaluating (.inr rfl)).trans h.evaluates, h.others⟩

/-- No set but the open one is open. -/
theorem Accounted.open_alone (h : Accounted c u v) {i : SetIx} (hi : v.grp.sets[i].state = .accumulating) (k : SetIx)
    (hk : k ≠ i) : v.grp.sets[k].state ≠ .accumulating := by
  obtain rfl | rfl := fin_two_cases i k
  · exact absurd rfl hk
  · exact fun ho => ((setsLawful_iff v.grp i).mp h.sets).1 ⟨hi, ho⟩

/-- The open set stays open or becomes IDLE, whatever becomes of its content. -/
theorem Accounted.replaceOpen (h : Accounted c u v) {i : SetIx} {a : AccSet}
    (hi : setIn .accumulating v.grp.sets = some i) (ha : ¬a.state.isClosed) :
    Accounted c u { v with grp := { v.grp with sets := upd v.grp.sets i a } } := by
  have hopen := setIn_some hi
  exact h.replace (not_isClosed_iff.mpr (.inr hopen)) ha fun _ => h.open_alone hopen

/-- The set in which a window opens is open or IDLE, and no other set is open (R68). -/
theorem Accounted.opens (h : Accounted c u v) :
    ∃ i, setToOpen v.grp.sets = i ∧ ¬v.grp.sets[i].state.isClosed ∧
      ∀ k : SetIx, k ≠ i → v.grp.sets[k].state ≠ .accumulating := by
  cases hopen : setIn .accumulating v.grp.sets with
  | some i =>
    exact ⟨i, by rw [setToOpen, hopen], not_isClosed_iff.mpr (.inr (setIn_some hopen)), h.open_alone (setIn_some hopen)⟩
  | none =>
    refine ⟨if v.grp.sets[0].state = .idle then 0 else 1, by rw [setToOpen, hopen], ?_,
      fun k _ => setIn_none hopen k⟩
    split
    · rename_i hidle
      exact not_isClosed_iff.mpr (.inl hidle)
    · rename_i hbusy
      have hclosed : v.grp.sets[0].state.isClosed := by
        by_contra hno
        exact (not_isClosed_iff.mp hno).elim hbusy (setIn_none hopen 0)
      exact fun hone => h.sets.2 ⟨hclosed, hone⟩

theorem openWindow_accounted (kind : WindowKind) (seq : Nat) (h : Accounted c u v) :
    Accounted c u (openWindow c kind seq v) := by
  obtain ⟨i, rfl, hfree, halone⟩ := h.opens
  obtain ⟨hsets, hnodup, hwaits, hevaluates, hothers⟩ :=
    h.replace (a := { clearSet .accumulating v.grp.sets[setToOpen v.grp.sets] with
      number := v.grp.counter, startSeq := seq, kind := kind, cycles := v.grp.config.cycles }) hfree
      (follows_not_closed true) fun _ => halone
  exact ⟨hsets, hnodup, hwaits, hevaluates, hothers⟩

theorem onOpenSet_accounted {f : AccSet → AccSet} (hf : ∀ a, (f a).state = a.state) (h : Accounted c u v) :
    Accounted c u { v with grp := onOpenSet f v.grp } := by
  cases hopen : setIn .accumulating v.grp.sets with
  | none =>
    rw [onOpenSet, hopen]
    exact h
  | some i =>
    rw [onOpenSet_eq hopen]
    exact h.replaceOpen hopen (not_isClosed_iff.mpr (.inr ((hf _).trans (setIn_some hopen))))

/-- The closing window waits for its evaluation, and its group joins the wait list (R75, R79). -/
theorem Accounted.handOn (h : Accounted c u v) {i : SetIx} (hi : setIn .accumulating v.grp.sets = some i)
    (hidle : v.grp.sets[other i].state = .idle) :
    Accounted c u
      { v with grp := { v.grp with sets := upd v.grp.sets i { v.grp.sets[i] with state := .waiting } }
               waitList := v.waitList ++ [c.group] } := by
  have hopen := setIn_some hi
  have hnew : c.group ∉ v.waitList := by
    rw [h.waits, hasSet_iff v.grp i, hopen, hidle]
    decide
  refine ⟨(setsLawful_upd ..).mpr ?_, h.nodup.append (List.nodup_singleton _) (by simpa using hnew), ?_, ?_,
    fun g hg => ?_⟩
  · rw [hidle]
    exact ⟨nofun, fun hboth => follows_not_closed false hboth.2⟩
  · exact iff_of_true (by simp) ((hasSet_upd ..).mpr (.inl rfl))
  · rw [← h.evaluates, hasSet_upd, hasSet_iff v.grp i, hopen]
    exact or_congr_left (iff_of_false nofun nofun)
  · simp [hg, h.others g hg]

theorem closeWindow_accounted (follows : Bool) (h : Accounted c u v) : Accounted c u (closeWindow c follows v) := by
  cases hopen : setIn .accumulating v.grp.sets with
  | none =>
    rw [closeWindow, hopen]
    exact h
  | some i =>
    have closed : Accounted c u (windowClosed c i follows v) := by
      by_cases hidle : v.grp.sets[other i].state = .idle
      · have waits := h.handOn hopen hidle
        have hother : (upd v.grp.sets i { v.grp.sets[i] with state := .waiting })[other i].state = .idle :=
          (congrArg AccSet.state (upd_get_ne _ _ (other_ne i).symm)).trans hidle
        have hnext : (if follows then clearSet .accumulating v.grp.sets[other i] else v.grp.sets[other i]).state =
            if follows then .accumulating else .idle := by
          cases follows
          · exact hidle
          · rfl
        have halone (k : SetIx) (hk : k ≠ other i) :
            (upd v.grp.sets i { v.grp.sets[i] with state := .waiting })[k].state ≠ .accumulating := by
          obtain rfl | rfl := fin_two_cases i k
          · rw [upd_get_same]
            nofun
          · exact absurd rfl hk
        obtain ⟨hsets, hnodup, hwaits, hevaluates, hothers⟩ := waits.replace (i := other i)
          (not_isClosed_iff.mpr (.inl hother)) (hnext ▸ follows_not_closed follows) fun _ => halone
        simp only [windowClosed, setsClosed, hidle, if_true]
        exact ⟨hsets, hnodup, hwaits, hevaluates, hothers⟩
      · obtain ⟨hsets, hnodup, hwaits, hevaluates, hothers⟩ := h.replaceOpen hopen
          (a := clearSet (if follows then .accumulating else .idle) v.grp.sets[i])
          (follows_not_closed follows)
        simp only [windowClosed, setsClosed, hidle, if_false]
        exact ⟨hsets, hnodup, hwaits, hevaluates, hothers⟩
    obtain ⟨hsets, hnodup, hwaits, hevaluates, hothers⟩ := closed
    rw [closeWindow_eq hopen]
    exact ⟨by rwa [captureClose_grp], by rwa [captureClose_waitList],
      by rwa [captureClose_grp, captureClose_waitList], by rwa [captureClose_grp], by rwa [captureClose_waitList]⟩

theorem abortWindow_accounted (reason : AbortReason) (follows : Bool) (h : Accounted c u v) :
    Accounted c u (abortWindow c reason follows v) := by
  cases hopen : setIn .accumulating v.grp.sets with
  | none =>
    rw [abortWindow, hopen]
    exact h
  | some i =>
    obtain ⟨hsets, hnodup, hwaits, hevaluates, hothers⟩ := h.replaceOpen hopen
      (a := clearSet (if follows then .accumulating else .idle) v.grp.sets[i])
      (follows_not_closed follows)
    rw [abortWindow_eq hopen]
    exact ⟨hsets, hnodup, hwaits, hevaluates, hothers⟩

theorem dropWaitingSet_accounted (h : Accounted c u v) : Accounted c u (dropWaitingSet v) := by
  unfold dropWaitingSet
  split
  · rename_i i hopen
    exact h.replaceOpen hopen (follows_not_closed false)
  · exact h

/-- An act that leaves the sets and the wait list as they are. -/
theorem Accounted.of_same {w : GroupView} (h : Accounted c u v) (hsets : w.grp.sets = v.grp.sets)
    (hwait : w.waitList = v.waitList) : Accounted c u w := by
  obtain ⟨hlaw, hnodup, hwaits, hevaluates, hothers⟩ := h
  refine ⟨?_, hwait ▸ hnodup, ?_, ?_, hwait ▸ hothers⟩
  · rwa [SetsLawful, hsets]
  · rwa [HasSet, hsets, hwait]
  · rwa [HasSet, hsets]

/-! ## Samples (R54 to R59) -/

theorem openTracking_accounted (seq : Nat) (x : Sample) (h : Accounted c u v) :
    Accounted c u (openTracking c seq x v) := (openWindow_accounted .tracking seq h).of_same rfl rfl

theorem beginTracking_accounted (seq : Nat) (x : Sample) (h : Accounted c u v) :
    Accounted c u (beginTracking c seq x v) := openTracking_accounted seq x (h.of_same rfl rfl)

theorem enterHoldover_accounted (h : Accounted c u v) : Accounted c u (enterHoldover c v) := h.of_same rfl rfl

theorem enterAcquiring_accounted (h : Accounted c u v) : Accounted c u (enterAcquiring c v) := h.of_same rfl rfl

theorem acquiringSample_accounted (seq : Nat) (x : Sample) (w : Verdict) (h : Accounted c u v) :
    Accounted c u (acquiringSample c seq x w v) := by
  dsimp only [acquiringSample]
  split
  · exact beginTracking_accounted seq x (h.of_same rfl rfl)
  · split <;> exact h.of_same rfl rfl

theorem addCycle_state (cfg : GroupRecord) (len : Nat) (l : List Sample) (a : AccSet) :
    (addCycle cfg len l 0 a).state = a.state := (addCycle_counts cfg len l 0 a).2.2.2.1

theorem acceptedCycle_accounted (seq : Nat) (x : Sample) (len : Nat) (h : Accounted c u v) :
    Accounted c u (acceptedCycle c seq x len v) := by
  have added := onOpenSet_accounted (addCycle_state v.grp.config len v.grp.buffer) h
  dsimp only [acceptedCycle]
  split
  · exact openTracking_accounted seq x (closeWindow_accounted true (added.of_same rfl rfl))
  · exact added.of_same rfl rfl

theorem trackingSample_accounted (seq : Nat) (x : Sample) (w : Verdict) (h : Accounted c u v) :
    Accounted c u (trackingSample c seq x w v) := by
  have lost := enterHoldover_accounted (abortWindow_accounted .timingLoss true h)
  cases w with
  | none => exact h.of_same rfl rfl
  | accepted len => exact acceptedCycle_accounted seq x len h
  | early => exact lost
  | late => exact lost

theorem closeHoldover_accounted (h : Accounted c u v) : Accounted c u (closeHoldover c v) := by
  dsimp only [closeHoldover]
  split
  · exact (closeWindow_accounted false h).of_same rfl rfl
  · exact (closeWindow_accounted true h).of_same rfl rfl

theorem holdoverSample_accounted (seq : Nat) (x : Sample) (h : Accounted c u v) :
    Accounted c u (holdoverSample c seq x v) := by
  have opened : Accounted c u (if v.grp.tracker.winSamples = 0 then openWindow c .holdover seq v else v) := by
    split
    · exact openWindow_accounted .holdover seq h
    · exact h
  dsimp only [holdoverSample]
  generalize (if v.grp.tracker.winSamples = 0 then openWindow c .holdover seq v else v) = w at opened ⊢
  have added := onOpenSet_accounted (f := addSample w.grp.config
    (w.grp.tracker.winSamples % nominalLength c.rate w.grp.config.freq) (nominalLength c.rate w.grp.config.freq) x)
    (fun _ => rfl) opened
  split
  · exact closeHoldover_accounted (added.of_same rfl rfl)
  · exact added.of_same rfl rfl

theorem aligningSample_accounted (seq : Nat) (x : Sample) (crossing : Bool) (w : Verdict) (h : Accounted c u v) :
    Accounted c u (aligningSample c seq x crossing w v) := by
  unfold aligningSample
  split
  · exact beginTracking_accounted seq x h
  · split
    · exact holdoverSample_accounted seq x (enterHoldover_accounted h)
    · exact h

theorem handleSample_accounted (seq : Nat) (x : Sample) (h : Accounted c u v) :
    Accounted c u (handleSample c seq x v) := by
  have moved : Accounted c u (tracked c x v) := h.of_same rfl rfl
  cases htiming : v.grp.tracker.timing with
  | disabled => exact handleSample_disabled htiming ▸ moved
  | noSignal => exact handleSample_noSignal htiming ▸ moved
  | acquiring => exact handleSample_acquiring htiming ▸ acquiringSample_accounted seq x _ moved
  | tracking => exact handleSample_tracking htiming ▸ trackingSample_accounted seq x _ moved
  | holdover => exact handleSample_holdover htiming ▸ holdoverSample_accounted seq x moved
  | aligning => exact handleSample_aligning htiming ▸ aligningSample_accounted seq x _ _ moved

/-! ## Passes and silence notices (R49, R60, R63) -/

theorem largeGap_accounted (h : Accounted c u v) : Accounted c u (largeGap c v) := by
  cases htiming : v.grp.tracker.timing with
  | disabled => simpa only [largeGap, htiming] using h
  | noSignal => simpa only [largeGap, htiming] using h
  | acquiring => exact largeGap_acquiring htiming ▸ h.of_same rfl rfl
  | tracking => exact largeGap_tracking htiming ▸ enterAcquiring_accounted (abortWindow_accounted .gap false h)
  | aligning => exact largeGap_aligning htiming ▸ enterAcquiring_accounted h
  | holdover =>
    rw [largeGap_holdover htiming]
    split
    · exact (abortWindow_accounted .gap true h).of_same rfl rfl
    · exact h.of_same rfl rfl

theorem signalReturned_accounted (h : Accounted c u v) : Accounted c u (signalReturned c v) := by
  unfold signalReturned
  split
  · exact enterAcquiring_accounted h
  · exact h

theorem passFinished_accounted (e : QueueEntry) (h : Accounted c u v) : Accounted c u (passFinished c e v) := by
  have real := handleSample_accounted e.seq (realSample e v.grp)
    (v := onTracker (fun t => { t with last := lastAfter e v.grp }) v) (h.of_same rfl rfl)
  exact real.of_same rfl rfl

theorem heldSamples_accounted (e : QueueEntry) (seqs : List Nat) (h : Accounted c u v) :
    Accounted c u (seqs.foldl (fun w n => handleSample c n (heldSample e w.grp) w) v) :=
  List.foldlRecOn seqs _ h fun _ hw n _ => handleSample_accounted n _ hw

theorem passEntry_accounted (e : QueueEntry) (h : Accounted c u v) : Accounted c u (passEntry c e v) := by
  have returned := signalReturned_accounted h
  obtain hlarge | hsmall := Nat.lt_or_ge v.grp.config.gapLimit (gapOf c e v.grp.tracker)
  · rw [passEntry_large hlarge]
    exact passFinished_accounted e (largeGap_accounted returned)
  · rw [passEntry_small hsmall]
    exact passFinished_accounted e (heldSamples_accounted e _ returned)

theorem silenceNotice_accounted (h : Accounted c u v) : Accounted c u (silenceNotice c v) := by
  have ended : Accounted c u (windowEnded c v) := by
    unfold windowEnded
    split
    · exact abortWindow_accounted .silence false h
    · split
      · exact dropWaitingSet_accounted h
      · exact h
  rw [silenceNotice_windowEnded]
  exact ended.of_same rfl rfl

end

end Sys2Proof.Machine
end

section
/-! The laws of R58 and R66 at the part, cut into what one act changes: each group's place in the wait list and the
engine, each group's windows, the capture slots, and the stored records. -/

namespace Sys2Proof.Machine

/-! ## The law of R66 group by group -/

/-- Both sets of a group are IDLE. -/
def IdleSets (x : Group) : Prop := ∀ i : SetIx, x.sets[i].state = .idle

/-- The law of R66 at one group of the part, with its place in the wait list (R79) and in the engine (R80), and the rest
of a disabled group (R78, R133). -/
structure AccountedAt (s : State) (g : GroupId) : Prop where
  sets : SetsLawful s.groups[g]
  waits : g ∈ s.waitList ↔ HasSet s.groups[g] .waiting
  evaluates : s.engine = some g ↔ HasSet s.groups[g] .evaluating
  rests : s.groups[g].enabled = false → IdleSets s.groups[g] ∧ s.groups[g].levelUnit.level = .normal

/-- The law of R66 at every group. -/
structure SetsAccounted (s : State) : Prop where
  nodup : s.waitList.Nodup
  groups : ∀ g : GroupId, AccountedAt s g

/-- In BYPASS every group is disabled and no request waits (R5, R47). -/
def BypassIdle (s : State) : Prop :=
  s.switch = .bypass → (∀ g : GroupId, s.groups[g].enabled = false) ∧ s.mgmt.requests = []

theorem analysisLawful_iff {s : State} : AnalysisLawful s ↔ SetsAccounted s ∧ BypassIdle s := by
  constructor
  · rintro ⟨hsets, hnodup, hwaits, hevaluates, hrests, hbypass⟩
    exact ⟨⟨hnodup, fun g => ⟨hsets g, hwaits g, hevaluates g, hrests g⟩⟩, hbypass⟩
  · rintro ⟨⟨hnodup, hgroups⟩, hbypass⟩
    exact ⟨fun g => (hgroups g).sets, hnodup, fun g => (hgroups g).waits, fun g => (hgroups g).evaluates,
      fun g => (hgroups g).rests, hbypass⟩

theorem timing_of_disabled {x : Group} (hd : x.enabled = false) : x.tracker.timing = .disabled := by
  simpa [Group.enabled] using hd

theorem not_hasSet_of_idle {x : Group} (h : IdleSets x) {t : SetState} (ht : t ≠ .idle) : ¬HasSet x t :=
  fun ⟨i, hi⟩ => ht (hi.symm.trans (h i))

theorem setsLawful_of_idle {x : Group} (h : IdleSets x) : SetsLawful x := by
  rw [setsLawful_iff x 0, h, h]
  exact ⟨nofun, fun hboth => follows_not_closed false hboth.1⟩

/-- A group with both sets IDLE stands neither in the wait list nor in the engine. -/
theorem accountedAt_of_idle {s : State} {g : GroupId} (hidle : IdleSets s.groups[g]) (hwait : g ∉ s.waitList)
    (hengine : s.engine ≠ some g) (hlevel : s.groups[g].enabled = false → s.groups[g].levelUnit.level = .normal) :
    AccountedAt s g :=
  ⟨setsLawful_of_idle hidle, iff_of_false hwait (not_hasSet_of_idle hidle (by decide)),
    iff_of_false hengine (not_hasSet_of_idle hidle (by decide)), fun hd => ⟨hidle, hlevel hd⟩⟩

theorem AccountedAt.idle_places {s : State} {g : GroupId} (h : AccountedAt s g) (hidle : IdleSets s.groups[g]) :
    g ∉ s.waitList ∧ s.engine ≠ some g :=
  ⟨fun hmem => not_hasSet_of_idle hidle (by decide) (h.waits.mp hmem),
    fun hbusy => not_hasSet_of_idle hidle (by decide) (h.evaluates.mp hbusy)⟩

/-- An act at group `g` that touches no other group, and no other's place. -/
theorem SetsAccounted.at_group {s t : State} {g : GroupId} (hs : SetsAccounted s) (hnodup : t.waitList.Nodup)
    (hat : AccountedAt t g) (hgroups : ∀ h : GroupId, h ≠ g → t.groups[h] = s.groups[h])
    (hwait : ∀ h : GroupId, h ≠ g → (h ∈ t.waitList ↔ h ∈ s.waitList))
    (hengine : ∀ h : GroupId, h ≠ g → (t.engine = some h ↔ s.engine = some h)) : SetsAccounted t := by
  refine ⟨hnodup, fun h => ?_⟩
  by_cases hg : h = g
  · exact hg ▸ hat
  · obtain ⟨hsets, hwaits, hevaluates, hrests⟩ := hs.groups h
    rw [← hgroups h hg] at hsets hwaits hevaluates hrests
    exact ⟨hsets, (hwait h hg).trans hwaits, (hengine h hg).trans hevaluates, hrests⟩

theorem SetsAccounted.of_same {s t : State} (hs : SetsAccounted s) (hgroups : t.groups = s.groups)
    (hwait : t.waitList = s.waitList) (hengine : t.engine = s.engine) : SetsAccounted t := by
  refine ⟨hwait ▸ hs.nodup, fun g => ?_⟩
  obtain ⟨hsets, hwaits, hevaluates, hrests⟩ := hs.groups g
  constructor <;> simpa only [hgroups, hwait, hengine]

/-- The view of a group in account with the part is in account with itself. -/
theorem SetsAccounted.view {s : State} (h : SetsAccounted s) (g : GroupId) :
    Accounted (contextOf s g) (viewGroup s g) (viewGroup s g) :=
  ⟨(h.groups g).sets, h.nodup, (h.groups g).waits, .rfl, fun _ _ => .rfl⟩

/-- An act at an enabled group that leaves the group in account leaves the part so. -/
theorem actOn_setsAccounted {s : State} {g : GroupId} {f : GroupContext → GroupView → GroupView}
    (hs : SetsAccounted s) (hf : Accounted (contextOf s g) (viewGroup s g) (f (contextOf s g) (viewGroup s g)))
    (hen : (f (contextOf s g) (viewGroup s g)).grp.enabled = true) : SetsAccounted (actOn s g f) := by
  obtain ⟨hsets, hnodup, hwaits, hevaluates, hothers⟩ := hf
  have hgroup : (actOn s g f).groups[g] = (f (contextOf s g) (viewGroup s g)).grp := upd_get_same ..
  have hat : AccountedAt (actOn s g f) g := by
    constructor <;> rw [hgroup]
    · exact hsets
    · exact hwaits
    · exact (hs.groups g).evaluates.trans hevaluates.symm
    · exact fun hd => nomatch hd.symm.trans hen
  exact hs.at_group hnodup hat (fun h hg => upd_get_ne _ _ hg.symm) hothers fun _ _ => .rfl

/-! ## The capture slots -/

/-- From `c` to `c'` no slot takes samples, begins to fill or changes hands while it fills, and no group comes to own
both. -/
structure SlotsEased (c c' : Captures) : Prop where
  owners : OwnersDiffer c → OwnersDiffer c'
  count : ∀ j : CaptureIx, c'.slots[j].count ≤ c.slots[j].count
  filling : ∀ j : CaptureIx, c'.slots[j].state = .filling →
    c.slots[j].state = .filling ∧ c'.slots[j].owner = c.slots[j].owner ∧ c'.slots[j].count = c.slots[j].count

theorem SlotsEased.refl (c : Captures) : SlotsEased c c := ⟨id, fun _ => le_rfl, fun _ h => ⟨h, rfl, rfl⟩⟩

theorem SlotsEased.trans {a b c : Captures} (h : SlotsEased a b) (k : SlotsEased b c) : SlotsEased a c := by
  refine ⟨k.owners ∘ h.owners, fun j => (k.count j).trans (h.count j), fun j hj => ?_⟩
  obtain ⟨hfilling, howner, hcount⟩ := k.filling j hj
  obtain ⟨hfilling', howner', hcount'⟩ := h.filling j hfilling
  exact ⟨hfilling', howner.trans howner', hcount.trans hcount'⟩

theorem ownersDiffer_iff (c : Captures) (i : CaptureIx) :
    OwnersDiffer c ↔ ∀ g : GroupId, ¬(c.slots[i].owner = some g ∧ c.slots[other i].owner = some g) := by
  match i with
  | 0 => rfl
  | 1 => exact forall_congr' fun g => not_congr and_comm

/-- One slot replaced by one that holds no more, belongs to the same group or to one that owned none, and fills only if
it is the same window that fills it. -/
theorem SlotsEased.replace {c c' : Captures} {i : CaptureIx} {x : CaptureSlot} (hc : c'.slots = upd c.slots i x)
    (howner : ∀ g, x.owner = some g → c.slots[i].owner = some g ∨ ∀ k : CaptureIx, c.slots[k].owner ≠ some g)
    (hcount : x.count ≤ c.slots[i].count)
    (hfilling : x.state = .filling →
      c.slots[i].state = .filling ∧ x.owner = c.slots[i].owner ∧ x.count = c.slots[i].count) : SlotsEased c c' := by
  have hsame : c'.slots[i] = x := by rw [hc, upd_get_same]
  have hother : c'.slots[other i] = c.slots[other i] := by rw [hc, upd_get_ne _ _ (other_ne i).symm]
  refine ⟨fun hdiffer => (ownersDiffer_iff c' i).mpr fun g hboth => ?_, fun j => ?_, fun j hj => ?_⟩
  · rw [hsame, hother] at hboth
    obtain hmine | hnone := howner g hboth.1
    · exact (ownersDiffer_iff c i).mp hdiffer g ⟨hmine, hboth.2⟩
    · exact hnone _ hboth.2
  · obtain rfl | rfl := fin_two_cases i j
    · rwa [hsame]
    · rw [hother]
  · obtain rfl | rfl := fin_two_cases i j
    · rw [hsame] at hj ⊢
      exact hfilling hj
    · rw [hother] at hj ⊢
      exact ⟨hj, rfl, rfl⟩

/-- A slot whose holds or auto mark change. -/
theorem SlotsEased.marks {c : Captures} {i : CaptureIx} {x : CaptureSlot}
    (h : x = { c.slots[i] with holds := x.holds, auto := x.auto }) : SlotsEased c (setSlot i x c) := by
  refine .replace (c' := setSlot i x c) rfl ?_ ?_ ?_ <;> rw [h]
  · exact fun g hg => .inl hg
  · exact fun hf => ⟨hf, rfl, rfl⟩

theorem freeSlot_eased (i : CaptureIx) (c : Captures) : SlotsEased c (freeSlot i c) :=
  .replace rfl nofun (Nat.zero_le _) nofun

theorem claimSlot_eased {g : GroupId} {t : Trigger} {c c' : Captures} {i : CaptureIx} {new : Bool}
    (h : claimSlot g t c = .ok (i, new, c')) : SlotsEased c c' := by
  obtain ⟨_, _, _, rfl⟩ | ⟨hnone, _, _, rfl⟩ := claimSlot_ok h
  · exact .marks rfl
  · refine .replace rfl (fun h hh => .inr ?_) (Nat.zero_le _) nofun
    cases hh
    exact hnone

theorem releaseHold_eased (i : CaptureIx) (c : Captures) : SlotsEased c (releaseHold i c) := by
  obtain ⟨_, h⟩ | ⟨_, h⟩ := releaseHold_cases i c <;> rw [h]
  · exact freeSlot_eased i c
  · exact .marks rfl

theorem releaseTripHold_eased (g : GroupId) (c : Captures) : SlotsEased c (releaseTripHold g c) := by
  unfold releaseTripHold
  split
  · split
    · exact .trans (.marks rfl) (releaseHold_eased ..)
    · exact .refl c
  · exact .refl c

theorem endSlot_eased (i : CaptureIx) (c : Captures) : SlotsEased c (endSlot i c) := by
  obtain ⟨_, h⟩ | ⟨_, h⟩ | ⟨_, h⟩ := endSlot_cases i c <;> rw [h]
  · exact .refl c
  · exact freeSlot_eased i c
  · exact .marks rfl

/-- An ended slot fills no more. -/
theorem endSlot_not_filling (i : CaptureIx) (c : Captures) : (endSlot i c).slots[i].state ≠ .filling := by
  obtain ⟨hstate, h⟩ | ⟨_, h⟩ | ⟨hstate, h⟩ := endSlot_cases i c <;> rw [h]
  · rw [hstate]
    decide
  · rw [freeSlot, upd_get_same]
    decide
  · rw [setSlot, upd_get_same, hstate]
    decide

theorem endGroupSlot_eased (g : GroupId) (c : Captures) : SlotsEased c (endGroupSlot g c) := by
  unfold endGroupSlot
  split
  · exact endSlot_eased ..
  · exact .refl c

/-- After a disable no slot of the group fills (R168). -/
theorem endGroupSlot_not_filling {g : GroupId} {c : Captures} (hc : OwnersDiffer c) (j : CaptureIx)
    (howner : (endGroupSlot g c).slots[j].owner = some g) : (endGroupSlot g c).slots[j].state ≠ .filling := by
  intro hfilling
  obtain ⟨_, hsame, _⟩ := (endGroupSlot_eased g c).filling j hfilling
  have howned := ownedSlot_eq_some (hc g) (hsame ▸ howner)
  rw [endGroupSlot, howned] at hfilling
  exact endSlot_not_filling j c hfilling

theorem endAllSlots_eased (c : Captures) : SlotsEased c (endAllSlots c) := (endSlot_eased 0 c).trans (endSlot_eased 1 _)

/-- After a restart no slot fills (R168). -/
theorem endAllSlots_not_filling (c : Captures) (j : CaptureIx) : (endAllSlots c).slots[j].state ≠ .filling := by
  match j with
  | 0 => exact fun h => endSlot_not_filling 0 c ((endSlot_eased 1 _).filling 0 h).1
  | 1 => exact endSlot_not_filling 1 _

theorem SlotsMatch.eased {g : GroupId} {op : Bool} {n : Nat} {c c' : Captures} (h : SlotsMatch g op n c)
    (hall : OwnersDiffer c) (k : SlotsEased c c') : SlotsMatch g op n c' := by
  refine ⟨k.owners hall g, fun j => ⟨(k.count j).trans (h.2 j).1, fun hfilling howner => ?_⟩⟩
  obtain ⟨hfilled, hsame, hcount⟩ := k.filling j hfilling
  rw [hcount]
  exact (h.2 j).2 hfilled (hsame ▸ howner)

/-- What an act at group `g` leaves of the slots of another group. -/
theorem SlotsMatch.of_others {g h : GroupId} {op : Bool} {n : Nat} {c c' : Captures} (m : SlotsMatch h op n c)
    (hgh : h ≠ g) (k : OtherSlotsKept g c c') (hcount : ∀ j : CaptureIx, c'.slots[j].count ≤ 4896) :
    SlotsMatch h op n c' := by
  refine ⟨?_, fun j => ⟨hcount j, fun hfilling howner => ?_⟩⟩
  · exact (congrArg₂ (fun a b => ¬(a = some h ∧ b = some h)) (k 0).1 (k 1).1).mpr m.1
  · rw [(k j).1] at howner
    have hkept := (k j).2 fun hc => hgh (Option.some.inj (howner.symm.trans hc))
    rw [hkept] at hfilling ⊢
    exact (m.2 j).2 hfilling howner

/-! ## The windows of one group (R58) -/

/-- Two groups alike in all that the law of R58 reads. -/
structure SameWindows (x y : Group) : Prop where
  config : y.config = x.config
  tracker : y.tracker = x.tracker
  sets : y.sets = x.sets
  buffer : y.buffer = x.buffer

theorem SameWindows.refl (x : Group) : SameWindows x x := ⟨rfl, rfl, rfl, rfl⟩

theorem SameWindows.lawful {x y : Group} (h : SameWindows x y) {r : Rate} (hx : GroupWindowsLawful r x) :
    GroupWindowsLawful r y := by
  simpa only [GroupWindowsLawful, TrackingWindow, HoldoverWindow, h.config, h.tracker, h.sets, h.buffer] using hx

theorem SameWindows.enabled {x y : Group} (h : SameWindows x y) : y.enabled = x.enabled := by
  rw [Group.enabled, Group.enabled, h.tracker]

/-- A group with both sets IDLE and no window to open. -/
theorem groupWindowsLawful_of_idle {r : Rate} {x : Group} (hcycles : CyclesLawful x.config)
    (hcount : x.tracker.winSamples ≤ 4896) (hidle : IdleSets x)
    (hsized : ∀ i : SetIx, x.sets[i].m ≤ 4896 ∧ x.sets[i].held ≤ x.sets[i].m ∧ x.sets[i].clamped ≤ x.sets[i].m)
    (hbuffer : x.buffer = []) (htracking : x.tracker.timing ≠ .tracking) (hholdover : x.tracker.timing ≠ .holdover) :
    GroupWindowsLawful r x :=
  ⟨hcycles, hcount, hsized, fun _ => hbuffer, fun h => absurd h htracking, fun h => absurd h hholdover,
    fun i hi => absurd (hidle i ▸ hi) (follows_not_closed false)⟩

/-- A disabled group's windows are lawful under any record and at any rate (R42, R78). -/
theorem groupWindowsLawful_disabled {r r' : Rate} {x : Group} (h : GroupWindowsLawful r x) (hidle : IdleSets x)
    (hd : x.enabled = false) {config : GroupRecord} (hcycles : CyclesLawful config) :
    GroupWindowsLawful r' { x with config := config } := by
  obtain ⟨_, hcount, hsized, hbuffer, _⟩ := h
  have htiming := timing_of_disabled hd
  exact groupWindowsLawful_of_idle (x := { x with config := config }) hcycles hcount hidle hsized
    (hbuffer (by rw [htiming]; decide)) (by rw [htiming]; decide) (by rw [htiming]; decide)

theorem setIn_upd_of_ne {t : SetState} {sets : Vector AccSet 2} {i : SetIx} {a : AccSet} (hi : sets[i].state ≠ t)
    (ha : a.state ≠ t) : setIn t (upd sets i a) = setIn t sets := by
  match i with
  | 0 => simp_all [setIn]
  | 1 => simp_all [setIn]

/-- A window that waits for its evaluation, or is under it, moves on with its sizes (R80, R81). -/
theorem GroupWindowsLawful.reclosed {r : Rate} {x : Group} (h : GroupWindowsLawful r x) {i : SetIx} {a : AccSet}
    (hi : x.sets[i].state.isClosed) (hopen : a.state ≠ .accumulating)
    (ha : a = { x.sets[i] with state := a.state, limitGen := a.limitGen }) :
    GroupWindowsLawful r { x with sets := upd x.sets i a } := by
  obtain ⟨hcycles, hcount, hsized, hbuffer, htracking, hholdover, hwhole⟩ := h
  have hclosed : x.sets[i].state ≠ .accumulating := fun h => follows_not_closed true (h ▸ hi)
  have hset : setIn .accumulating (upd x.sets i a) = setIn .accumulating x.sets := setIn_upd_of_ne hclosed hopen
  have hkept {k : SetIx} (hk : setIn .accumulating x.sets = some k) : (upd x.sets i a)[k] = x.sets[k] :=
    upd_get_ne _ _ fun hik => hclosed (hik ▸ setIn_some hk)
  have hsizes : a.m = x.sets[i].m ∧ a.held = x.sets[i].held ∧ a.clamped = x.sets[i].clamped := by
    rw [ha]
    exact ⟨rfl, rfl, rfl⟩
  obtain ⟨hm, hheld, hclamped⟩ := hsizes
  have hsets : SetsSized r x.config (upd x.sets i a) := by
    refine SetsSized.upd ⟨hsized, hwhole⟩ i a ?_ fun _ => ?_
    · rw [hm, hheld, hclamped]
      exact hsized i
    · rw [ha]
      exact hwhole i hi
  refine ⟨hcycles, hcount, hsets.1, hbuffer, fun ht => ?_, fun ht hn => ?_, hsets.2⟩
  · obtain ⟨k, hk, hwindow⟩ := htracking ht
    exact ⟨k, hset.trans hk, (hkept hk).symm ▸ hwindow⟩
  · obtain ⟨k, hk, hwindow⟩ := hholdover ht hn
    exact ⟨k, hset.trans hk, (hkept hk).symm ▸ hwindow⟩

/-! ## The law of R58 at the part -/

/-- A group's windows are lawful at the rate of the stream it names (R58). -/
def Fits (streams : Vector StreamEntry 16) (x : Group) : Prop := GroupWindowsLawful streams[x.config.stream].rate x

theorem SameWindows.fits {x y : Group} (h : SameWindows x y) {streams : Vector StreamEntry 16} (hx : Fits streams x) :
    Fits streams y := by
  obtain ⟨hconfig, _⟩ := id h
  unfold Fits at hx ⊢
  simp only [hconfig]
  exact h.lawful hx

/-- Every group's windows are lawful at its stream's rate. -/
def GroupsFit (s : State) : Prop := ∀ g : GroupId, Fits s.streams s.groups[g]

/-- Every group's capture slot agrees with its window (R162). -/
def SlotsFit (s : State) : Prop :=
  ∀ g : GroupId, SlotsMatch g (windowOpen s.groups[g].tracker) s.groups[g].tracker.winSamples s.captures

/-- C lies in its range in every stored record (R41, R187). -/
def StoredCycles (t : Store) : Prop :=
  (∀ c, t.snapshot = some c → ∀ g : GroupId, CyclesLawful c.records[g]) ∧
    ∀ c, imageCondition t.image = .good c → ∀ g : GroupId, CyclesLawful c.records[g]

/-- The law of R58 at the part, with that of R158 on the owners of the slots. -/
structure WindowsKept (s : State) : Prop where
  groups : GroupsFit s
  slots : SlotsFit s
  stored : StoredCycles s.store

theorem windowOpen_iff {t : Tracker} :
    windowOpen t = true ↔ t.timing = .tracking ∨ t.timing = .holdover ∧ t.winSamples ≠ 0 := by
  simp [windowOpen]

theorem windowsKept_iff {s : State} : WindowsKept s ↔ OwnersDiffer s.captures ∧ WindowsLawful s := by
  constructor
  · rintro ⟨hgroups, hslots, hstored⟩
    refine ⟨fun g => (hslots g).1, hgroups, fun j => ((hslots 0).2 j).1, fun j g hfilling howner => ?_, hstored⟩
    obtain ⟨hopen, hcount⟩ := ((hslots g).2 j).2 hfilling howner
    exact ⟨windowOpen_iff.mp hopen, hcount⟩
  · rintro ⟨howners, hgroups, hcounts, hfills, hstored⟩
    refine ⟨hgroups, fun g => ⟨howners g, fun j => ⟨hcounts j, fun hfilling howner => ?_⟩⟩, hstored⟩
    obtain ⟨hopen, hcount⟩ := hfills j g hfilling howner
    exact ⟨windowOpen_iff.mpr hopen, hcount⟩

theorem WindowsKept.owners {s : State} (h : WindowsKept s) : OwnersDiffer s.captures := fun g => (h.slots g).1

theorem WindowsKept.count {s : State} (h : WindowsKept s) (j : CaptureIx) : s.captures.slots[j].count ≤ 4896 :=
  ((h.slots 0).2 j).1

theorem windowOpen_disabled {x : Group} (hd : x.enabled = false) : windowOpen x.tracker = false := by
  rw [windowOpen, timing_of_disabled hd]
  rfl

/-- No slot of a group without an open window fills. -/
theorem WindowsKept.not_filling {s : State} (h : WindowsKept s) {g : GroupId}
    (hclosed : windowOpen s.groups[g].tracker = false) (j : CaptureIx) (howner : s.captures.slots[j].owner = some g) :
    s.captures.slots[j].state ≠ .filling := by
  intro hfilling
  cases hclosed.symm.trans (((h.slots g).2 j).2 hfilling howner).1

theorem WindowsKept.view {s : State} (h : WindowsKept s) (g : GroupId) :
    WindowsHold (contextOf s g) (viewGroup s g) := ⟨h.groups g, h.slots g⟩

/-- An act at group `g` that touches no other group. -/
theorem WindowsKept.at_group {s t : State} {g : GroupId} (hs : WindowsKept s) (hstreams : t.streams = s.streams)
    (hgroups : ∀ h : GroupId, h ≠ g → t.groups[h] = s.groups[h]) (hfits : Fits s.streams t.groups[g])
    (hslot : SlotsMatch g (windowOpen t.groups[g].tracker) t.groups[g].tracker.winSamples t.captures)
    (hslots : ∀ h : GroupId, h ≠ g → ∀ op n, SlotsMatch h op n s.captures → SlotsMatch h op n t.captures)
    (hstored : StoredCycles t.store) : WindowsKept t := by
  refine ⟨fun h => ?_, fun h => ?_, hstored⟩ <;> by_cases hg : h = g
  · exact hg ▸ hstreams ▸ hfits
  · rw [hgroups h hg, hstreams]
    exact hs.groups h
  · exact hg ▸ hslot
  · rw [hgroups h hg]
    exact hslots h hg _ _ (hs.slots h)

/-- An act at one group that keeps the group's windows keeps those of the part. -/
theorem actOn_windowsKept {s : State} {g : GroupId} {f : GroupContext → GroupView → GroupView} (hs : WindowsKept s)
    (hf : KeepsWindows (contextOf s g) (viewGroup s g) (f (contextOf s g) (viewGroup s g))) :
    WindowsKept (actOn s g f) := by
  obtain ⟨⟨hwindows, hslots⟩, hothers, hconfig⟩ := hf
  have hsame : (actOn s g f).groups[g] = (f (contextOf s g) (viewGroup s g)).grp := upd_get_same ..
  refine hs.at_group rfl (fun h hg => upd_get_ne _ _ hg.symm) ?_ (hsame ▸ hslots) (fun h hg op n m => ?_) hs.stored
  · rw [hsame]
    unfold Fits
    simp only [hconfig]
    exact hwindows
  · exact m.of_others hg hothers fun j => (hslots.2 j).1

end Sys2Proof.Machine
end

section
/-! The acts that leave the analysis as it is and those that run it: passes, silence notices, the engine's taking and
its completions keep the laws of R58 and R66. -/

namespace Sys2Proof.Machine

/-! ## Acts that leave the analysis as it is -/

/-- From `s` to `t` nothing changes that the two laws read, but that capture slots are claimed, held, released or freed,
that an enabled group's level moves, and that other records of lawful C are stored. -/
structure LeavesAnalysis (s t : State) : Prop where
  switch : t.switch = s.switch
  streams : t.streams = s.streams
  engine : t.engine = s.engine
  waitList : t.waitList = s.waitList
  groups : ∀ g : GroupId, SameWindows s.groups[g] t.groups[g]
  levels : ∀ g : GroupId, s.groups[g].enabled = false → t.groups[g].levelUnit.level = s.groups[g].levelUnit.level
  slots : SlotsEased s.captures t.captures
  stored : WindowsKept s → StoredCycles t.store

/-- From `s` to `t` the switch stays and the laws of R58 and R66 are kept. -/
structure KeepsLaws (s t : State) : Prop where
  switch : t.switch = s.switch
  sets : SetsAccounted s → SetsAccounted t
  windows : SetsAccounted s → WindowsKept s → WindowsKept t

/-- From `s` to `t` the laws are kept, no group is enabled or disabled, and the requests wait on. -/
structure Runs (s t : State) : Prop extends KeepsLaws s t where
  requests : t.mgmt.requests = s.mgmt.requests
  enabled : ∀ g : GroupId, t.groups[g].enabled = s.groups[g].enabled

theorem KeepsLaws.refl (s : State) : KeepsLaws s s := ⟨rfl, id, fun _ => id⟩

theorem KeepsLaws.trans {s t u : State} (h : KeepsLaws s t) (k : KeepsLaws t u) : KeepsLaws s u where
  switch := k.switch.trans h.switch
  sets := k.sets ∘ h.sets
  windows hs hw := k.windows (h.sets hs) (h.windows hs hw)

theorem Runs.refl (s : State) : Runs s s := ⟨.refl s, rfl, fun _ => rfl⟩

theorem Runs.trans {s t u : State} (h : Runs s t) (k : Runs t u) : Runs s u where
  toKeepsLaws := h.toKeepsLaws.trans k.toKeepsLaws
  requests := k.requests.trans h.requests
  enabled g := (k.enabled g).trans (h.enabled g)

theorem Runs.foldl {α : Type} {f : State → α → State} (h : ∀ s a, Runs s (f s a)) (l : List α) (s : State) :
    Runs s (l.foldl f s) := List.foldlRecOn l f (.refl s) fun u hu a _ => hu.trans (h u a)

theorem LeavesAnalysis.of_same {s t : State} (hswitch : t.switch = s.switch) (hstreams : t.streams = s.streams)
    (hgroups : t.groups = s.groups) (hengine : t.engine = s.engine) (hwait : t.waitList = s.waitList)
    (hslots : SlotsEased s.captures t.captures) (hstored : WindowsKept s → StoredCycles t.store) :
    LeavesAnalysis s t where
  switch := hswitch
  streams := hstreams
  engine := hengine
  waitList := hwait
  groups g := by rw [hgroups]; exact .refl _
  levels g _ := by rw [hgroups]
  slots := hslots
  stored := hstored

/-- An act at one group that changes neither its windows nor the level of a disabled one. -/
theorem LeavesAnalysis.at_group {s t : State} {g : GroupId} {x : Group} (hgroups : t.groups = upd s.groups g x)
    (hsame : SameWindows s.groups[g] x)
    (hlevel : s.groups[g].enabled = false → x.levelUnit.level = s.groups[g].levelUnit.level)
    (hswitch : t.switch = s.switch) (hstreams : t.streams = s.streams) (hengine : t.engine = s.engine)
    (hwait : t.waitList = s.waitList) (hslots : SlotsEased s.captures t.captures) (hstore : t.store = s.store) :
    LeavesAnalysis s t := by
  have hmine : t.groups[g] = x := by rw [hgroups, upd_get_same]
  have hothers (h : GroupId) (hg : h ≠ g) : t.groups[h] = s.groups[h] := by rw [hgroups, upd_get_ne _ _ hg.symm]
  refine ⟨hswitch, hstreams, hengine, hwait, fun h => ?_, fun h hd => ?_, hslots, fun hs => hstore ▸ hs.stored⟩ <;>
  by_cases hg : h = g
  · subst hg
    exact hmine ▸ hsame
  · exact hothers h hg ▸ .refl _
  · subst hg
    exact hmine ▸ hlevel hd
  · rw [hothers h hg]

theorem LeavesAnalysis.keepsLaws {s t : State} (h : LeavesAnalysis s t) : KeepsLaws s t where
  switch := h.switch
  sets hs := by
    refine ⟨h.waitList ▸ hs.nodup, fun g => ?_⟩
    obtain ⟨hsets, hwaits, hevaluates, hrests⟩ := hs.groups g
    have hsame : t.groups[g].sets = s.groups[g].sets := (h.groups g).sets
    refine ⟨by rwa [SetsLawful, hsame], by rwa [HasSet, hsame, h.waitList], by rwa [HasSet, hsame, h.engine],
      fun hd => ?_⟩
    have hd' := (h.groups g).enabled.symm.trans hd
    exact ⟨by rw [IdleSets, hsame]; exact (hrests hd').1, (h.levels g hd').trans (hrests hd').2⟩
  windows _ hw := by
    refine ⟨fun g => h.streams ▸ (h.groups g).fits (hw.groups g), fun g => ?_, h.stored hw⟩
    rw [(h.groups g).tracker]
    exact (hw.slots g).eased hw.owners h.slots

theorem LeavesAnalysis.runs {s t : State} (h : LeavesAnalysis s t) (hrequests : t.mgmt.requests = s.mgmt.requests) :
    Runs s t := ⟨h.keepsLaws, hrequests, fun g => (h.groups g).enabled⟩

/-- An act that changes no block that the laws read. -/
theorem Runs.of_same {s t : State} (hswitch : t.switch = s.switch) (hstreams : t.streams = s.streams)
    (hgroups : t.groups = s.groups) (hengine : t.engine = s.engine) (hwait : t.waitList = s.waitList)
    (hcaptures : t.captures = s.captures) (hstore : t.store = s.store)
    (hrequests : t.mgmt.requests = s.mgmt.requests) : Runs s t :=
  (LeavesAnalysis.of_same hswitch hstreams hgroups hengine hwait (hcaptures ▸ .refl _) fun h => hstore ▸ h.stored).runs
    hrequests

theorem raiseAt_runs (e : Event) (s : State) : Runs s (raiseAt e s) := .of_same rfl rfl rfl rfl rfl rfl rfl rfl

theorem setSupervision_runs (i : StreamId) (r : Supervision) (s : State) : Runs s (setSupervision i r s) :=
  .of_same rfl rfl rfl rfl rfl rfl rfl rfl

/-! ## Acts at one group (R49, R60) -/

/-- An act at an enabled group that keeps the group in account, its windows lawful and the group enabled. -/
theorem actOn_runs {s : State} {g : GroupId} {f : GroupContext → GroupView → GroupView}
    (hsets : ∀ c v, Accounted c v v → Accounted c v (f c v))
    (hwindows : ∀ c v, WindowsHold c v → KeepsWindows c v (f c v))
    (hen : s.groups[g].enabled = true) (hstays : (f (contextOf s g) (viewGroup s g)).grp.enabled = true) :
    Runs s (actOn s g f) where
  switch := rfl
  sets hs := actOn_setsAccounted hs (hsets _ _ (hs.view g)) hstays
  windows _ hw := actOn_windowsKept hw (hwindows _ _ (hw.view g))
  requests := rfl
  enabled h := by
    by_cases hg : g = h
    · subst hg
      have hgroup : (actOn s g f).groups[g] = (f (contextOf s g) (viewGroup s g)).grp := upd_get_same ..
      rw [hgroup, hstays, hen]
    · have hgroup : (actOn s g f).groups[h] = s.groups[h] := upd_get_ne _ _ hg
      rw [hgroup]

theorem passAct_runs (e : QueueEntry) {g : GroupId} {s : State} (hen : s.groups[g].enabled = true) :
    Runs s (actOn s g fun c => passEntry c e) :=
  actOn_runs (fun _ _ => passEntry_accounted e) (fun c v => passEntry_keeps c e v) hen
    ((passEntry_keepsGroup ..).enabled hen)

theorem noticeGroup_runs (i : StreamId) (s : State) (g : GroupId) : Runs s (noticeGroup i s g) := by
  unfold noticeGroup
  split
  · rename_i hnames
    refine actOn_runs (fun _ _ => silenceNotice_accounted) silenceNotice_keeps (names_iff.mp hnames).1 ?_
    rw [silenceNotice_windowEnded]
    rfl
  · exact .refl s

/-! ## The engine's taking (R80) -/

theorem beginEvaluation_waiting {x : Group} {i : SetIx} (h : setIn .waiting x.sets = some i) :
    beginEvaluation x = { x with sets := upd x.sets i { x.sets[i] with state := .evaluating } } := by
  rw [beginEvaluation, h]

theorem setIn_of_hasSet {x : Group} {t : SetState} (h : HasSet x t) : ∃ i, setIn t x.sets = some i := by
  obtain ⟨k, hk⟩ := h
  cases hset : setIn t x.sets with
  | some i => exact ⟨i, rfl⟩
  | none => exact absurd hk (setIn_none hset k)

/-- The group at the head of the wait list has a WAITING set, and its other set is open or IDLE. -/
theorem SetsAccounted.head {s : State} (h : SetsAccounted s) {g : GroupId} {l : List GroupId}
    (hwait : s.waitList = g :: l) :
    ∃ i, setIn .waiting s.groups[g].sets = some i ∧ s.groups[g].sets[i].state = .waiting ∧
      ¬s.groups[g].sets[other i].state.isClosed := by
  obtain ⟨i, hi⟩ := setIn_of_hasSet ((h.groups g).waits.mp (hwait ▸ List.mem_cons_self))
  have hset := setIn_some hi
  exact ⟨i, hi, hset, fun hno => ((setsLawful_iff _ i).mp (h.groups g).sets).2 ⟨.inl hset, hno⟩⟩

theorem engineTake_at_head {s : State} {g : GroupId} {l : List GroupId} {i : SetIx} (hengine : s.engine = none)
    (hwait : s.waitList = g :: l) (hi : setIn .waiting s.groups[g].sets = some i) :
    (engineTake s).groups[g] =
      { s.groups[g] with sets := upd s.groups[g].sets i { s.groups[g].sets[i] with state := .evaluating } } := by
  rw [engineTake_head hengine hwait]
  exact (upd_get_same ..).trans (beginEvaluation_waiting hi)

theorem engineTake_sets {s : State} (hs : SetsAccounted s) : SetsAccounted (engineTake s) := by
  obtain ⟨h, _⟩ | ⟨g, l, hengine, hwait, h⟩ := engineTake_cases s
  · rwa [h]
  · obtain ⟨i, hi, hset, hopen⟩ := hs.head hwait
    obtain ⟨hnew, hnodup⟩ := List.nodup_cons.mp (hwait ▸ hs.nodup)
    have hgroup := engineTake_at_head hengine hwait hi
    have hat : AccountedAt (engineTake s) g := by
      constructor <;> rw [hgroup]
      · exact (setsLawful_upd ..).mpr ⟨nofun, fun hboth => hopen hboth.2⟩
      · rw [hasSet_upd, h]
        exact iff_of_false hnew fun hboth => hboth.elim nofun fun ho => hopen (.inl ho)
      · rw [hasSet_upd, h]
        exact iff_of_true rfl (.inl rfl)
      · exact fun hd => absurd (((hs.groups g).rests hd).1 i) (by rw [hset]; decide)
    refine hs.at_group (h ▸ hnodup) hat (fun k hk => ?_) (fun k hk => ?_) (fun k hk => ?_) <;> rw [h]
    · exact upd_get_ne _ _ hk.symm
    · rw [hwait, List.mem_cons, or_iff_right hk]
    · rw [hengine]
      exact iff_of_false (fun he => hk (Option.some.inj he).symm) nofun

theorem engineTake_windows {s : State} (hs : SetsAccounted s) (hw : WindowsKept s) : WindowsKept (engineTake s) := by
  obtain ⟨h, _⟩ | ⟨g, l, hengine, hwait, h⟩ := engineTake_cases s
  · rwa [h]
  · obtain ⟨i, hi, hset, _⟩ := hs.head hwait
    have hgroup := engineTake_at_head hengine hwait hi
    refine hw.at_group (g := g) (h ▸ rfl) (fun k hk => ?_) ?_ ?_ (fun k _ op n m => ?_) ?_
    · rw [h]
      exact upd_get_ne _ _ hk.symm
    · rw [hgroup]
      exact (hw.groups g).reclosed (.inl hset) nofun rfl
    · rw [hgroup, h]
      exact hw.slots g
    · rw [h]
      exact m
    · rw [h]
      exact hw.stored

theorem engineTake_runs (s : State) : Runs s (engineTake s) where
  switch := by rw [engineTake_fields]
  sets := engineTake_sets
  windows := engineTake_windows
  requests := by rw [engineTake_fields]
  enabled g := by
    obtain h | h := engineTake_group s g <;> rw [h]
    rw [Group.enabled, (beginEvaluation_same _).1, Group.enabled]

end Sys2Proof.Machine
end

section
/-! The engine's completions, and the acts that time, arrivals, departures and stores bring, under the laws of R58 and
R66. -/

namespace Sys2Proof.Machine

/-! ## A completion at its group (R81, R123, R141) -/

section
variable (c : GroupContext) (r : ResultRecord) (v : GroupView)

theorem autoCapture_same (n : BitVec 32) :
    (autoCapture c n v).grp = v.grp ∧ (autoCapture c n v).waitList = v.waitList ∧
      SlotsEased v.captures (autoCapture c n v).captures := by
  unfold autoCapture
  split
  · rename_i h
    exact ⟨rfl, rfl, claimSlot_eased h⟩
  · exact ⟨rfl, rfl, .refl _⟩

/-- The Level Unit changes of its group no more than itself (R123). -/
theorem levelWindow_same :
    (levelWindow c r v).grp =
        { v.grp with levelUnit := handleLevels v.grp.config r.level r.degraded r.idle v.grp.levelUnit } ∧
      (levelWindow c r v).waitList = v.waitList ∧ SlotsEased v.captures (levelWindow c r v).captures := by
  dsimp only [levelWindow]
  split
  · exact ⟨rfl, rfl, .refl _⟩
  · split
    · exact autoCapture_same ..
    · exact ⟨rfl, rfl, .refl _⟩

/-- The Exceedance Records change of their group no more than themselves (R141). -/
theorem exceedWindow_frame (l : List Exceedance) (x : Group) :
    exceedWindow r l x = { x with first := (exceedWindow r l x).first, nextRows := (exceedWindow r l x).nextRows } := by
  unfold exceedWindow
  split <;> rfl

/-- The group at whose EVALUATING set `i` the record `r` completes (R81, R123, R141). -/
def completedGroup (r : ResultRecord) (i : SetIx) (x : Group) : Group :=
  exceedWindow r (exceedances x.nowBank r.cells)
    { storeResult r i x with levelUnit := handleLevels x.config r.level r.degraded r.idle x.levelUnit }

theorem completeAtGroup_same (i : SetIx) :
    (completeAtGroup r i c v).grp = completedGroup r i v.grp ∧ (completeAtGroup r i c v).waitList = v.waitList ∧
      SlotsEased v.captures (completeAtGroup r i c v).captures := by
  obtain ⟨hgrp, hwait, heased⟩ := levelWindow_same c r { v with grp := storeResult r i v.grp }
  exact ⟨congrArg (exceedWindow r _) hgrp, hwait, heased⟩

end

/-- What the laws of R58 and R66 read of a completed group: the set is IDLE, the rest as before. -/
theorem completedGroup_windows (r : ResultRecord) (i : SetIx) (x : Group) :
    SameWindows { x with sets := upd x.sets i { x.sets[i] with state := .idle, limitGen := x.generation } }
      (completedGroup r i x) := by
  rw [completedGroup, exceedWindow_frame]
  exact ⟨rfl, rfl, rfl, rfl⟩

/-! ## The completion (R81) -/

/-- The part with the record `r` completed in set `i` of group `g`, before a report is offered and the engine looks at
its wait list. -/
def afterCompletion (s : State) (g : GroupId) (r : ResultRecord) (i : SetIx) : State :=
  actOn { s with engine := none } g (completeAtGroup r i)

theorem completeEvaluation_eq {s : State} {g : GroupId} {i : SetIx} (hbusy : s.engine = some g)
    (hset : setIn .evaluating s.groups[g].sets = some i) :
    completeEvaluation s =
      engineTake (if s.groups[g].config.reportEnable then
          offerReport g (evaluatedRecord s g i) (afterCompletion s g (evaluatedRecord s g i) i)
        else afterCompletion s g (evaluatedRecord s g i) i) := by
  rw [completeEvaluation, hbusy]
  dsimp only
  rw [hset]
  rfl

section
variable {s : State} {g : GroupId} {i : SetIx} (r : ResultRecord)

theorem afterCompletion_group :
    (afterCompletion s g r i).groups[g] = completedGroup r i s.groups[g] :=
  (upd_get_same ..).trans (completeAtGroup_same ..).1

theorem afterCompletion_other {h : GroupId} (hg : h ≠ g) : (afterCompletion s g r i).groups[h] = s.groups[h] :=
  upd_get_ne _ _ hg.symm

theorem afterCompletion_sets (hs : SetsAccounted s) (hbusy : s.engine = some g)
    (hset : s.groups[g].sets[i].state = .evaluating) : SetsAccounted (afterCompletion s g r i) := by
  obtain ⟨hsets, hwaits, _, hrests⟩ := hs.groups g
  have hother : ¬s.groups[g].sets[other i].state.isClosed := fun hno =>
    ((setsLawful_iff _ i).mp hsets).2 ⟨.inr hset, hno⟩
  have hwait : (afterCompletion s g r i).waitList = s.waitList := (completeAtGroup_same ..).2.1
  have hgroup := completedGroup_windows r i s.groups[g]
  have hat : AccountedAt (afterCompletion s g r i) g := by
    constructor <;> rw [afterCompletion_group r]
    · rw [SetsLawful, hgroup.sets]
      exact (setsLawful_upd ..).mpr ⟨nofun, fun hboth => hother hboth.2⟩
    · rw [HasSet, hgroup.sets, hwait, hwaits]
      refine iff_of_false (fun h => ?_) fun h => ?_
      · obtain hmine | hopen := (hasSet_iff _ i _).mp h
        · cases hset.symm.trans hmine
        · exact hother (.inl hopen)
      · obtain hmine | hopen := (hasSet_upd _ i _ _).mp h
        · cases hmine
        · exact hother (.inl hopen)
    · rw [HasSet, hgroup.sets]
      refine iff_of_false nofun fun h => ?_
      obtain hmine | hopen := (hasSet_upd _ i _ _).mp h
      · cases hmine
      · exact hother (.inr hopen)
    · intro hd
      have hidle := (hrests (hgroup.enabled.symm.trans hd)).1 i
      cases hset.symm.trans hidle
  refine hs.at_group (hwait ▸ hs.nodup) hat (fun h hg => afterCompletion_other r hg) (fun h _ => by rw [hwait])
    fun h hg => ?_
  rw [hbusy]
  exact iff_of_false nofun fun he => hg (Option.some.inj he).symm

theorem afterCompletion_windows (hw : WindowsKept s) (hset : s.groups[g].sets[i].state = .evaluating) :
    WindowsKept (afterCompletion s g r i) := by
  have hgroup := completedGroup_windows r i s.groups[g]
  have heased : SlotsEased s.captures (afterCompletion s g r i).captures :=
    (completeAtGroup_same (contextOf s g) r (viewGroup s g) i).2.2
  refine hw.at_group (g := g) rfl (fun h hg => afterCompletion_other r hg) ?_ ?_
    (fun h _ op n m => m.eased hw.owners heased) hw.stored
  · rw [afterCompletion_group]
    exact hgroup.fits ((hw.groups g).reclosed (.inr hset) nofun rfl)
  · rw [afterCompletion_group, hgroup.tracker]
    exact (hw.slots g).eased hw.owners heased

theorem afterCompletion_runs (hbusy : s.engine = some g) (hset : s.groups[g].sets[i].state = .evaluating) :
    Runs s (afterCompletion s g r i) where
  switch := rfl
  sets hs := afterCompletion_sets r hs hbusy hset
  windows _ hw := afterCompletion_windows r hw hset
  requests := rfl
  enabled h := by
    by_cases hg : h = g
    · subst hg
      rw [afterCompletion_group]
      exact (completedGroup_windows r i _).enabled
    · rw [afterCompletion_other r hg]

end

theorem offerReport_runs (g : GroupId) (r : ResultRecord) (s : State) : Runs s (offerReport g r s) := by
  unfold offerReport
  dsimp only
  split
  · exact .of_same rfl rfl rfl rfl rfl rfl rfl rfl
  · split <;> exact .of_same rfl rfl rfl rfl rfl rfl rfl rfl

/-- An engine that is busy with no EVALUATING set, which the law of R66 excludes. -/
theorem engineReset_runs {s : State} {g : GroupId} (hbusy : s.engine = some g)
    (hnone : setIn .evaluating s.groups[g].sets = none) : Runs s { s with engine := none } where
  switch := rfl
  sets hs := by
    obtain ⟨i, hi⟩ := ((hs.groups g).evaluates).mp hbusy
    exact absurd hi (setIn_none hnone i)
  windows _ hw := ⟨hw.groups, hw.slots, hw.stored⟩
  requests := rfl
  enabled _ := rfl

theorem completeEvaluation_runs (s : State) : Runs s (completeEvaluation s) := by
  cases hbusy : s.engine with
  | none =>
    rw [completeEvaluation, hbusy]
    exact .refl s
  | some g =>
    cases hset : setIn .evaluating s.groups[g].sets with
    | none =>
      have hreset := engineReset_runs hbusy hset
      simp only [completeEvaluation, hbusy, hset]
      exact hreset.trans (engineTake_runs _)
    | some i =>
      rw [completeEvaluation_eq hbusy hset]
      refine .trans ?_ (engineTake_runs _)
      have hdone := afterCompletion_runs (evaluatedRecord s g i) hbusy (setIn_some hset)
      split
      · exact hdone.trans (offerReport_runs ..)
      · exact hdone

/-! ## Silence and the rate check (R31 to R33) -/

theorem deliverNotice_runs (i : StreamId) (s : State) : Runs s (deliverNotice i s) :=
  .foldl (noticeGroup_runs i) groupIxs s

theorem placeNotice_runs (i : StreamId) (s : State) : Runs s (placeNotice i s) := by
  unfold placeNotice
  split
  · exact .of_same rfl rfl rfl rfl rfl rfl rfl rfl
  · split
    · exact .of_same rfl rfl rfl rfl rfl rfl rfl rfl
    · exact deliverNotice_runs i s

theorem takeDeadline_runs (s : State) (i : StreamId) : Runs s (takeDeadline s i) := by
  unfold takeDeadline
  split
  · exact ((setSupervision_runs ..).trans (raiseAt_runs ..)).trans (placeNotice_runs ..)
  · exact .refl s

theorem rateCheckAt_runs (s : State) (i : StreamId) : Runs s (rateCheckAt s i) := by
  unfold rateCheckAt
  dsimp only
  refine .trans ?_ (setSupervision_runs ..)
  split
  · exact .refl s
  · exact raiseAt_runs ..

theorem takeRateCheck_runs (s : State) : Runs s (takeRateCheck s) := by
  have withdrawn : Runs s { s with rateDue := false } := .of_same rfl rfl rfl rfl rfl rfl rfl rfl
  unfold takeRateCheck
  split
  · exact withdrawn.trans (.foldl rateCheckAt_runs streamIxs _)
  · exact .refl s

theorem countTimer_runs (s : State) : Runs s (countTimer s) := .of_same rfl rfl rfl rfl rfl rfl rfl rfl

theorem countRate_runs (s : State) : Runs s (countRate s) := by
  unfold countRate
  split <;> exact .of_same rfl rfl rfl rfl rfl rfl rfl rfl

/-! ## The Analysis Queue (R37, R49) -/

theorem finishEntry_runs (e : QueueEntry) (s : State) : Runs s (finishEntry e s) := by
  have removed (u : State) : Runs u { u with queue := removeHead u.settings u.queue } :=
    .of_same rfl rfl rfl rfl rfl rfl rfl rfl
  unfold finishEntry
  dsimp only
  refine .trans ?_ (removed _)
  split
  · exact deliverNotice_runs e.stream s
  · exact .refl s

theorem leaveIfDone_runs (e : QueueEntry) (s : State) : Runs s (leaveIfDone e s) := by
  unfold leaveIfDone
  split
  · exact .refl s
  · exact finishEntry_runs e s

theorem passGroup_runs (e : QueueEntry) {g : GroupId} {s : State} (hen : s.groups[g].enabled = true) :
    Runs s (passGroup e g s) := by
  have served (u : State) : Runs u { u with queue := { u.queue with served := u.queue.served ++ [g] } } :=
    .of_same rfl rfl rfl rfl rfl rfl rfl rfl
  exact ((passAct_runs e hen).trans (engineTake_runs _)).trans (served _)

theorem unserved_enabled {s : State} {e : QueueEntry} {g : GroupId} (h : unserved s e g = true) :
    s.groups[g].enabled = true := by
  rw [unserved, Bool.and_eq_true] at h
  exact (names_iff.mp h.1).1

theorem applyAt_runs (g : GroupId) (s : State) : Runs s (applyAt g s) := by
  unfold applyAt
  split
  · exact .refl s
  · refine .trans ?_ (leaveIfDone_runs ..)
    split
    · rename_i hunserved
      exact passGroup_runs _ (unserved_enabled hunserved)
    · exact .refl s

/-! ## Arrivals (R27 to R31) -/

theorem intakeFrame_runs (i : StreamId) (l : List Byte) (s : State) : Runs s (intakeFrame i l s) := by
  unfold intakeFrame
  split
  · exact .of_same rfl rfl rfl rfl rfl rfl rfl rfl
  · exact .refl s

theorem rangeFrame_runs (i : StreamId) (s : State) : Runs s (rangeFrame i s) := by
  unfold rangeFrame
  dsimp only
  refine .trans ?_ (setSupervision_runs ..)
  split
  · exact .refl s
  · exact raiseAt_runs ..

theorem superviseFrame_runs (i : StreamId) (l : List Byte) (s : State) : Runs s (superviseFrame i l s) := by
  unfold superviseFrame
  split
  · exact rangeFrame_runs i s
  · split
    · unfold activeFrame
      dsimp only
      split
      · exact (setSupervision_runs ..).trans (intakeFrame_runs ..)
      · exact setSupervision_runs ..
    · exact ((setSupervision_runs ..).trans (raiseAt_runs ..)).trans (intakeFrame_runs ..)

/-! ## The store (R190) -/

theorem cyclesLawful_of_good {a : ImageContents} {c : ImageContents} (h : imageCondition (sealedImage a) = .good c)
    (ha : ∀ g : GroupId, CyclesLawful a.records[g]) (g : GroupId) : CyclesLawful c.records[g] := by
  rw [imageCondition_sealed] at h
  cases h
  exact ha g

theorem store_runs {s : State} {x : Store} (hx : WindowsKept s → StoredCycles x) : Runs s { s with store := x } :=
  LeavesAnalysis.runs (.of_same rfl rfl rfl rfl rfl (.refl _) hx) rfl

theorem completeStore_runs (s : State) : Runs s (completeStore s) := by
  unfold completeStore
  split
  · rename_i c hsnapshot
    refine (store_runs fun hw => ⟨?_, fun _ hgood => ?_⟩).trans (raiseAt_runs ..)
    · nofun
    · exact cyclesLawful_of_good hgood (hw.stored.1 c hsnapshot)
  · exact .refl s

theorem faultStore_runs (s : State) : Runs s (faultStore s) := by
  unfold faultStore
  split
  · refine (store_runs fun _ => ⟨?_, ?_⟩).trans (raiseAt_runs ..) <;> nofun
  · exact .refl s

theorem storeTimeOut_runs (s : State) : Runs s (storeTimeOut s) := by
  unfold storeTimeOut
  split
  · exact faultStore_runs s
  · exact .refl s

end Sys2Proof.Machine
end

section
/-! Enables, disables, restarts and the management requests under the laws of R58 and R66. -/

namespace Sys2Proof.Machine

/-! ## Enables (R45) and disables (R46) -/

/-- An act at group `g` that leaves both its sets IDLE and the group out of the wait list and the engine. -/
theorem SetsAccounted.rest_at {s t : State} {g : GroupId} (hs : SetsAccounted s) (hidle : IdleSets t.groups[g])
    (hlevel : t.groups[g].enabled = false → t.groups[g].levelUnit.level = .normal)
    (hgroups : ∀ h : GroupId, h ≠ g → t.groups[h] = s.groups[h])
    (hwait : t.waitList = s.waitList.filter (fun h => decide (h ≠ g)))
    (hengine : t.engine = if s.engine = some g then none else s.engine) : SetsAccounted t := by
  have hmem (h : GroupId) : h ∈ t.waitList ↔ h ∈ s.waitList ∧ h ≠ g := by simp [hwait]
  have hbusy (h : GroupId) : t.engine = some h ↔ s.engine = some h ∧ h ≠ g := by
    rw [hengine]
    split
    · rename_i he
      exact iff_of_false nofun fun ⟨hh, hne⟩ => hne (Option.some.inj (hh.symm.trans he))
    · rename_i he
      exact ⟨fun hh => ⟨hh, fun hg => he (hg ▸ hh)⟩, And.left⟩
  exact hs.at_group (hwait ▸ hs.nodup.filter _)
    (accountedAt_of_idle hidle (fun h => ((hmem g).mp h).2 rfl) (fun h => ((hbusy g).mp h).2 rfl) hlevel) hgroups
    (fun h hg => (hmem h).trans (and_iff_left hg)) fun h hg => (hbusy h).trans (and_iff_left hg)

/-- A group that rests stands in neither list, so that its removal changes nothing. -/
theorem SetsAccounted.unlisted {s : State} (hs : SetsAccounted s) {g : GroupId} (hidle : IdleSets s.groups[g]) :
    s.waitList = s.waitList.filter (fun h => decide (h ≠ g)) ∧
      s.engine = if s.engine = some g then none else s.engine := by
  obtain ⟨hwait, hengine⟩ := (hs.groups g).idle_places hidle
  exact ⟨(List.filter_eq_self.mpr fun h hmem => decide_eq_true (ne_of_mem_of_not_mem hmem hwait)).symm,
    (if_neg hengine).symm⟩

theorem idleSets_cleared {x y : Group}
    (h : y.sets = upd (upd x.sets 0 (clearSet .idle x.sets[0])) 1 (clearSet .idle x.sets[1])) : IdleSets y := by
  intro i
  rw [h, bothCleared_get]
  rfl

/-- A group whose accumulation has ended, in a timing state without a window. -/
theorem groupWindowsLawful_cleared {r : Rate} {x y : Group}
    (hsets : y.sets = upd (upd x.sets 0 (clearSet .idle x.sets[0])) 1 (clearSet .idle x.sets[1]))
    (hcycles : CyclesLawful y.config) (hcount : y.tracker.winSamples ≤ 4896) (hbuffer : y.buffer = [])
    (htracking : y.tracker.timing ≠ .tracking) (hholdover : y.tracker.timing ≠ .holdover) : GroupWindowsLawful r y := by
  refine groupWindowsLawful_of_idle hcycles hcount (idleSets_cleared hsets) (fun i => ?_) hbuffer htracking hholdover
  rw [hsets, bothCleared_get]
  exact clearSet_sized _

theorem enableGroup_same (g : GroupId) (s : State) :
    ∃ t, (t = .acquiring ∨ t = .noSignal) ∧ (enableGroup g s).groups[g] = enabledGroup t s.groups[g] :=
  ⟨if streamActive s g then .acquiring else .noSignal, by split <;> simp, upd_get_same ..⟩

theorem enableGroup_other {g h : GroupId} (s : State) (hg : h ≠ g) : (enableGroup g s).groups[h] = s.groups[h] :=
  upd_get_ne _ _ hg.symm

/-- An enable of a group that has no open window, and both sets IDLE where the law of R66 holds. -/
theorem enableGroup_keepsLaws {g : GroupId} {s : State} (hidle : SetsAccounted s → IdleSets s.groups[g])
    (hclosed : windowOpen s.groups[g].tracker = false) : KeepsLaws s (enableGroup g s) := by
  obtain ⟨t, ht, hgroup⟩ := enableGroup_same g s
  refine ⟨rfl, fun hs => ?_, fun _ hw => ?_⟩
  · obtain ⟨hwait, hengine⟩ := hs.unlisted (hidle hs)
    exact hs.rest_at (hgroup ▸ idleSets_cleared rfl) (fun _ => by rw [hgroup]; rfl) (fun _ => enableGroup_other s) hwait
      hengine
  · refine hw.at_group rfl (fun _ => enableGroup_other s) ?_ ?_ (fun h _ op n m => m) hw.stored
    · rw [hgroup]
      obtain rfl | rfl := ht <;> exact groupWindowsLawful_cleared rfl (hw.groups g).1 (Nat.zero_le _) rfl nofun nofun
    · exact match_of_none_filling (hw.slots g) fun j => hw.not_filling hclosed j

theorem afterDisable_keepsLaws (g : GroupId) (s : State) : KeepsLaws s (afterDisable g s) where
  switch := rfl
  sets hs := hs.rest_at (afterDisable_same g s ▸ idleSets_cleared rfl) (fun _ => by rw [afterDisable_same]; rfl)
    (fun _ hg => afterDisable_other hg s) rfl rfl
  windows _ hw := by
    have heased : SlotsEased s.captures (afterDisable g s).captures := endGroupSlot_eased g s.captures
    obtain ⟨hcycles, hcount, _⟩ := hw.groups g
    refine hw.at_group rfl (fun _ hg => afterDisable_other hg s) ?_ ?_ (fun h _ op n m => m.eased hw.owners heased)
      hw.stored
    · rw [afterDisable_same]
      exact groupWindowsLawful_cleared rfl hcycles hcount rfl nofun nofun
    · exact match_of_none_filling ((hw.slots g).eased hw.owners heased) (endGroupSlot_not_filling hw.owners)

theorem disableGroup_keepsLaws (g : GroupId) (s : State) : KeepsLaws s (disableGroup g s) :=
  disableGroup_eq g s ▸ (afterDisable_keepsLaws g s).trans (engineTake_runs _).toKeepsLaws

/-! ## Restarts (R47, R185) -/

/-- An enabled group as a restart leaves it (R47, R185). -/
def restartedGroup (x : Group) : Group :=
  { pendingTaken x with
      tracker := Tracker.fresh .noSignal, buffer := []
      sets := upd (upd x.sets 0 (clearSet .idle x.sets[0])) 1 (clearSet .idle x.sets[1])
      levelUnit := LevelUnit.fresh, counter := 0, result := none, first := none, nextRows := 0 }

theorem restartView_same (c : GroupContext) (v : GroupView) :
    (restartView c v).grp = restartedGroup v.grp ∧ (restartView c v).captures = v.captures ∧
      (restartView c v).waitList = v.waitList.filter (fun g => decide (g ≠ c.group)) := by
  rw [restartView, takePending_eq]
  dsimp only
  split <;> exact ⟨rfl, rfl, rfl⟩

/-- What a restart keeps group by group, before the slots of the restarted groups are ended (R168). -/
structure Restarts (s t : State) : Prop where
  switch : t.switch = s.switch
  captures : t.captures = s.captures
  store : t.store = s.store
  sets : SetsAccounted s → SetsAccounted t
  groups : GroupsFit s → GroupsFit t

theorem Restarts.refl (s : State) : Restarts s s := ⟨rfl, rfl, rfl, id, id⟩

theorem Restarts.trans {s t u : State} (h : Restarts s t) (k : Restarts t u) : Restarts s u :=
  ⟨k.switch.trans h.switch, k.captures.trans h.captures, k.store.trans h.store, k.sets ∘ h.sets, k.groups ∘ h.groups⟩

theorem restartGroup_restarts (s : State) (g : GroupId) : Restarts s (restartGroup s g) := by
  unfold restartGroup
  split
  · have hother : endEvaluation g s = { s with engine := if s.engine = some g then none else s.engine } := by
      unfold endEvaluation
      split <;> rfl
    rw [hother]
    generalize hu : actOn { s with engine := if s.engine = some g then none else s.engine } g restartView = u
    obtain ⟨hgrp, hcaptures, hwait⟩ := restartView_same (contextOf s g) (viewGroup s g)
    have hgroup : u.groups[g] = restartedGroup s.groups[g] := hu ▸ (upd_get_same ..).trans hgrp
    have hothers (h : GroupId) (hg : h ≠ g) : u.groups[h] = s.groups[h] := hu ▸ upd_get_ne _ _ hg.symm
    refine ⟨hu ▸ rfl, hu ▸ hcaptures, hu ▸ rfl, fun hs => ?_, fun hw h => ?_⟩
    · exact hs.rest_at (hgroup ▸ idleSets_cleared rfl) (fun _ => by rw [hgroup]; rfl) hothers (hu ▸ hwait) (hu ▸ rfl)
    · have hstreams : u.streams = s.streams := hu ▸ rfl
      rw [hstreams]
      by_cases hg : h = g
      · subst hg
        rw [hgroup]
        exact groupWindowsLawful_cleared rfl (hw h).1 (Nat.zero_le _) rfl nofun nofun
      · rw [hothers h hg]
        exact hw h
  · exact .refl s

theorem restartAnalysis_keepsLaws (s : State) : KeepsLaws s (restartAnalysis s) := by
  have restarted : Restarts s (groupIxs.foldl restartGroup s) :=
    List.foldlRecOn groupIxs restartGroup (.refl s) fun u hu g _ => hu.trans (restartGroup_restarts u g)
  unfold restartAnalysis
  dsimp only
  generalize groupIxs.foldl restartGroup s = u at restarted ⊢
  obtain ⟨hswitch, hcaptures, hstore, hsets, hgroups⟩ := restarted
  refine .trans ?_ (engineTake_runs _).toKeepsLaws
  refine ⟨hswitch, fun hs => ?_, fun _ hw => ⟨hgroups hw.groups, fun g => ?_, hstore ▸ hw.stored⟩⟩
  · exact (hsets hs).of_same rfl rfl rfl
  · exact match_of_none_filling ((hw.slots g).eased hw.owners (hcaptures ▸ endAllSlots_eased s.captures)) fun j _ =>
      endAllSlots_not_filling _ j

/-! ## Writes of the tables (R22, R42, R109) -/

/-- Serving a request keeps the laws, whatever the request and the state. -/
def ServesLawfully (serve : Request → State → Reply) : Prop := ∀ r s, KeepsLaws s (serve r s).state

/-- An act at one group that changes of the group neither the windows nor the level. -/
theorem KeepsLaws.at_same {s : State} {g : GroupId} {x : Group} {q : EventQueue} (hsame : SameWindows s.groups[g] x)
    (hlevel : x.levelUnit.level = s.groups[g].levelUnit.level) :
    KeepsLaws s { s with groups := upd s.groups g x, events := q } :=
  LeavesAnalysis.keepsLaws (.at_group rfl hsame (fun _ => hlevel) rfl rfl rfl rfl (.refl _) rfl)

/-- An act that leaves the analysis as it is once the law of R66 holds. -/
theorem KeepsLaws.of_leaves {s t : State} (hswitch : t.switch = s.switch) (h : SetsAccounted s → LeavesAnalysis s t) :
    KeepsLaws s t := ⟨hswitch, fun hs => (h hs).keepsLaws.sets hs, fun hs => (h hs).keepsLaws.windows hs⟩

/-- A stream that only disabled groups name is rewritten. -/
theorem Fits.rewritten {streams : Vector StreamEntry 16} {x : Group} (h : Fits streams x) {i : StreamId}
    (hi : x.config.stream = i → x.enabled = false ∧ IdleSets x) (e : StreamEntry) : Fits (upd streams i e) x := by
  by_cases hx : x.config.stream = i
  · obtain ⟨hd, hidle⟩ := hi hx
    exact groupWindowsLawful_disabled (config := x.config) h hidle hd h.1
  · unfold Fits
    rw [upd_get_ne _ _ (Ne.symm hx)]
    exact h

theorem writeStream_keepsLaws {i : StreamId} (e : StreamEntry) {s : State} (hfree : streamNamed s i = false) :
    KeepsLaws s (writeStream i e s) where
  switch := rfl
  sets hs := hs.of_same rfl rfl rfl
  windows hs hw := by
    refine ⟨fun g => (hw.groups g).rewritten (fun hg => ?_) e, hw.slots, hw.stored⟩
    have hd : s.groups[g].enabled = false := by
      refine eq_false_of_ne_true fun hen => ?_
      cases hfree.symm.trans (streamNamed_iff.mpr ⟨g, hen, hg⟩)
    exact ⟨hd, ((hs.groups g).rests hd).1⟩

theorem clampGroupRecord_cycles (c : GroupRecord) : CyclesLawful (clampGroupRecord c) := by
  simp only [CyclesLawful, clampGroupRecord, clampTo]
  omega

theorem writeGroup_keepsLaws {g : GroupId} {c : GroupRecord} {s : State} (hd : s.groups[g].enabled = false)
    (hc : CyclesLawful c) : KeepsLaws s (writeGroup g c s) := by
  have hgroup : (writeGroup g c s).groups[g] = { s.groups[g] with config := c } := upd_get_same ..
  have hothers (h : GroupId) (hg : h ≠ g) : (writeGroup g c s).groups[h] = s.groups[h] := upd_get_ne _ _ hg.symm
  refine ⟨rfl, fun hs => ?_, fun hs hw => ?_⟩ <;> obtain ⟨hidle, hlevel⟩ := (hs.groups g).rests hd
  · obtain ⟨hwait, hengine⟩ := hs.unlisted hidle
    exact hs.rest_at (hgroup ▸ hidle) (fun _ => by rw [hgroup]; exact hlevel) hothers hwait hengine
  · refine hw.at_group rfl hothers ?_ ?_ (fun h _ op n m => m) hw.stored
    · rw [hgroup]
      exact groupWindowsLawful_disabled (hw.groups g) hidle hd hc
    · rw [hgroup]
      exact hw.slots g

theorem serveReadStream_lawful : ServesLawfully serveReadStream := by
  intro r s
  unfold serveReadStream
  split <;> exact .refl s

theorem serveWriteStream_lawful : ServesLawfully serveWriteStream := by
  intro r s
  unfold serveWriteStream
  split
  · split
    · exact .refl s
    · rename_i hfree
      exact writeStream_keepsLaws _ (eq_false_of_ne_true hfree)
  · exact .refl s

theorem serveReadGroup_lawful : ServesLawfully serveReadGroup := by
  intro r s
  unfold serveReadGroup
  split <;> exact .refl s

theorem serveWriteGroup_lawful : ServesLawfully serveWriteGroup := by
  intro r s
  unfold serveWriteGroup
  split
  · split
    · exact .refl s
    · rename_i hd
      exact writeGroup_keepsLaws (eq_false_of_ne_true hd) (clampGroupRecord_cycles _)
  · exact .refl s

theorem serveReadLimits_lawful : ServesLawfully serveReadLimits := by
  intro r s
  unfold serveReadLimits
  split
  · split <;> exact .refl s
  · exact .refl s

theorem serveWriteLimits_lawful : ServesLawfully serveWriteLimits := by
  intro r s
  unfold serveWriteLimits
  split
  · exact .refl s
  · dsimp only
    split
    · exact .refl s
    · split
      · exact .refl s
      · split
        · exact .refl s
        · rw [limitReply_state]
          exact .at_same ⟨rfl, rfl, rfl, rfl⟩ rfl

theorem serveWriteSettings_lawful : ServesLawfully serveWriteSettings := by
  intro r s
  unfold serveWriteSettings
  dsimp only
  split
  · exact Runs.toKeepsLaws (.of_same rfl rfl rfl rfl rfl rfl rfl rfl)
  · exact .refl s

/-! ## The requests that concern one group -/

theorem serveCommit_lawful (g : GroupId) (s : State) : KeepsLaws s (serveCommit g s).state := by
  show KeepsLaws s (commitAt g s)
  unfold commitAt
  split <;> exact .at_same ⟨rfl, rfl, rfl, rfl⟩ rfl

theorem serveEnable_lawful (g : GroupId) (s : State) : KeepsLaws s (serveEnable g s).state := by
  unfold serveEnable
  split
  · exact .refl s
  · rename_i hd
    split
    · exact .refl s
    · have hdisabled := eq_false_of_ne_true hd
      exact enableGroup_keepsLaws (fun hs => ((hs.groups g).rests hdisabled).1) (windowOpen_disabled hdisabled)

theorem serveDisable_lawful (g : GroupId) (s : State) : KeepsLaws s (serveDisable g s).state := by
  unfold serveDisable
  split
  · exact disableGroup_keepsLaws g s
  · exact .refl s

theorem serveClearFirst_lawful (g : GroupId) (s : State) : KeepsLaws s (serveClearFirst g s).state :=
  .at_same ⟨rfl, rfl, rfl, rfl⟩ rfl

/-- A release of a TRIPPED group, which is enabled (R133). -/
theorem serveReleaseTrip_lawful (g : GroupId) (s : State) : KeepsLaws s (serveReleaseTrip g s).state := by
  unfold serveReleaseTrip
  split
  · exact .refl s
  · rename_i htripped
    split
    · exact .refl s
    · refine .of_leaves rfl fun hs => LeavesAnalysis.at_group rfl ⟨rfl, rfl, rfl, rfl⟩ (fun hd => ?_) rfl rfl rfl rfl
        (releaseTripHold_eased g s.captures) rfl
      exact absurd (((hs.groups g).rests hd).2.symm.trans (not_not.mp htripped)) (by decide)

theorem serveSnap_lawful (g : GroupId) (s : State) : KeepsLaws s (serveSnap g s).state := by
  unfold serveSnap
  split
  · split
    · rename_i hclaim
      exact LeavesAnalysis.keepsLaws (.of_same rfl rfl rfl rfl rfl (claimSlot_eased hclaim) WindowsKept.stored)
    · exact .refl s
  · exact .refl s

theorem serveRestart_lawful : ServesLawfully serveRestart := by
  intro r s
  rw [serveRestart, done_state]
  exact restartAnalysis_keepsLaws s

theorem serveReadArray_lawful : ServesLawfully serveReadArray := by
  intro r s
  unfold serveReadArray
  split <;> exact .refl s

/-! ## The requests that concern the part -/

theorem serveReadStatus_lawful : ServesLawfully serveReadStatus := by
  intro r s
  unfold serveReadStatus
  split <;> exact .refl s

theorem serveReadEvents_lawful : ServesLawfully serveReadEvents := fun _ _ =>
  Runs.toKeepsLaws (.of_same rfl rfl rfl rfl rfl rfl rfl rfl)

/-- Slots that are held or released. -/
theorem setCaptures_keepsLaws {c : Captures} {s : State} (h : SlotsEased s.captures c) :
    KeepsLaws s (setCaptures c s) :=
  LeavesAnalysis.keepsLaws (.of_same rfl rfl rfl rfl rfl h WindowsKept.stored)

theorem serveHold_lawful (i : CaptureIx) (s : State) : KeepsLaws s (serveHold i s).state := by
  unfold serveHold
  dsimp only
  split
  · exact .refl s
  · split
    · exact .refl s
    · exact setCaptures_keepsLaws (.marks rfl)

theorem serveRelease_lawful (i : CaptureIx) (s : State) : KeepsLaws s (serveRelease i s).state := by
  unfold serveRelease
  split
  · exact .refl s
  · exact setCaptures_keepsLaws (releaseHold_eased i s.captures)

theorem serveReadCapture_lawful : ServesLawfully serveReadCapture := by
  intro r s
  unfold serveReadCapture
  split
  · dsimp only
    split
    · exact .refl s
    · split <;> exact .refl s
  · exact .refl s

/-- The snapshot holds the records of the groups as they stand (R187). -/
theorem snapshotOf_records (s : State) (g : GroupId) : (snapshotOf s).records[g] = s.groups[g].config := ofFn_get _ g

theorem beginStore_keepsLaws (s : State) : KeepsLaws s (beginStore s) := by
  refine (store_runs fun hw => ⟨fun c hc g => ?_, ?_⟩).toKeepsLaws
  · cases hc
    exact snapshotOf_records s g ▸ (hw.groups g).1
  · nofun

theorem serveStoreConfig_lawful : ServesLawfully serveStoreConfig := by
  intro r s
  unfold serveStoreConfig
  split
  · exact .refl s
  · exact beginStore_keepsLaws s

theorem serveResetPart_lawful : ServesLawfully serveResetPart := by
  intro r s
  unfold serveResetPart
  split
  · exact .refl s
  · exact Runs.toKeepsLaws (.of_same rfl rfl rfl rfl rfl rfl rfl rfl)

/-! ## The checks before a request is served (R174) -/

theorem withArgs_lawful (n : Nat) {serve : Request → State → Reply} (h : ServesLawfully serve) :
    ServesLawfully (withArgs n serve) := by
  intro r s
  unfold withArgs
  split
  · exact h r s
  · exact .refl s

theorem withGroup_lawful {serve : GroupId → State → Reply} (h : ∀ g s, KeepsLaws s (serve g s).state) :
    ServesLawfully (withGroup serve) := by
  intro r s
  unfold withGroup
  split
  · exact h _ s
  · exact .refl s

theorem withSlot_lawful {serve : CaptureIx → State → Reply} (h : ∀ i s, KeepsLaws s (serve i s).state) :
    ServesLawfully (withSlot serve) := by
  intro r s
  unfold withSlot
  split
  · exact h _ s
  · exact .refl s

theorem withTable_lawful (n : Nat) {serve : Request → State → Reply} (h : ServesLawfully serve) :
    ServesLawfully (withTable n serve) := by
  refine withArgs_lawful 2 fun r s => ?_
  split
  · exact .refl s
  · exact withArgs_lawful n h r s

end Sys2Proof.Machine
end

section
/-! Resets, start-up, the taking of requests, and every step, under the laws of R58 and R66: the law of the accumulator
sets. -/

namespace Sys2Proof.Machine

/-- What every step keeps of the laws of R58 and R66, with the idle BYPASS of R5. -/
structure LawfulAct (s t : State) : Prop where
  analysis : AnalysisLawful s → AnalysisLawful t
  windows : AnalysisLawful s → WindowsKept s → WindowsKept t

theorem LawfulAct.refl (s : State) : LawfulAct s s := ⟨id, fun _ => id⟩

theorem LawfulAct.trans {s t u : State} (h : LawfulAct s t) (k : LawfulAct t u) : LawfulAct s u :=
  ⟨k.analysis ∘ h.analysis, fun ha hw => k.windows (h.analysis ha) (h.windows ha hw)⟩

/-- An act that keeps the laws in a part that is INLINE, or that has work in BYPASS against R5. -/
theorem KeepsLaws.lawful {s t : State} (h : KeepsLaws s t) (hbusy : s.switch = .bypass → ¬BypassIdle s) :
    LawfulAct s t where
  analysis ha := by
    obtain ⟨hs, hb⟩ := analysisLawful_iff.mp ha
    exact analysisLawful_iff.mpr ⟨h.sets hs, fun hbypass => absurd hb (hbusy (h.switch.symm.trans hbypass))⟩
  windows ha := h.windows (analysisLawful_iff.mp ha).1

theorem Runs.lawful {s t : State} (h : Runs s t) : LawfulAct s t where
  analysis ha := by
    obtain ⟨hs, hb⟩ := analysisLawful_iff.mp ha
    refine analysisLawful_iff.mpr ⟨h.sets hs, fun hbypass => ?_⟩
    obtain ⟨hdisabled, hrequests⟩ := hb (h.switch.symm.trans hbypass)
    exact ⟨fun g => (h.enabled g).trans (hdisabled g), h.requests.trans hrequests⟩
  windows ha := h.windows (analysisLawful_iff.mp ha).1

/-! ## Part reset (R20, R191) -/

theorem reset_windowsKept : WindowsKept State.reset := windowsKept_iff.mpr ⟨reset_capturesLawful.2, reset_windowsLawful⟩

theorem partReset_lawfulAct (p : Power) (s : State) : LawfulAct s (partReset p s) where
  analysis _ := reset_analysisLawful
  windows _ hw := by
    refine ⟨reset_windowsKept.groups, reset_windowsKept.slots, fun _ h => (nomatch h), fun c hgood => ?_⟩
    rw [partReset_store] at hgood
    obtain ⟨_, himage⟩ | ⟨_, himage | ⟨d, k, himage, hk⟩⟩ := imageAfterReset_cases s <;> rw [himage] at hgood
    · exact hw.stored.2 c hgood
    · cases hgood
    · cases (imageCondition_bad hk).symm.trans hgood

/-! ## Start-up (R192 to R195) -/

/-- A group that start-up may enable: both sets IDLE, and no window open. -/
def Rests (x : Group) : Prop := IdleSets x ∧ windowOpen x.tracker = false

/-- The start-up of `s` at `u`, between the loading of the tables and its end. -/
structure StartsUp (s u : State) : Prop where
  sets : SetsAccounted u
  windows : WindowsKept s → WindowsKept u
  rests : ∀ g : GroupId, Rests u.groups[g]

theorem enableGroup_startsUp {s u : State} (h : StartsUp s u) (g : GroupId) : StartsUp s (enableGroup g u) := by
  obtain ⟨hidle, hclosed⟩ := h.rests g
  have hkeeps := enableGroup_keepsLaws (fun _ => hidle) hclosed
  refine ⟨hkeeps.sets h.sets, hkeeps.windows h.sets ∘ h.windows, fun k => ?_⟩
  by_cases hk : k = g
  · subst hk
    obtain ⟨t, ht, hgroup⟩ := enableGroup_same k u
    rw [hgroup]
    obtain rfl | rfl := ht <;> exact ⟨idleSets_cleared rfl, rfl⟩
  · exact enableGroup_other u hk ▸ h.rests k

theorem enableAtStart_startsUp {s u : State} (h : StartsUp s u) (g : GroupId) : StartsUp s (enableAtStart u g) := by
  unfold enableAtStart
  split
  · exact enableGroup_startsUp h g
  · exact h

/-- The tables are loaded into a part whose groups are all disabled. -/
theorem loadTables_startsUp {c : ImageContents} {d : Bool} {s : State} (hs : SetsAccounted s)
    (hdisabled : ∀ g : GroupId, s.groups[g].enabled = false)
    (hc : WindowsKept s → ∀ g : GroupId, CyclesLawful c.records[g]) : StartsUp s (loadTables c d s) := by
  have hgroup (g : GroupId) : (loadTables c d s).groups[g] = loadGroup c.records[g] c.nowBanks[g] s.groups[g] :=
    ofFn_get _ g
  have hidle (g : GroupId) := ((hs.groups g).rests (hdisabled g)).1
  refine ⟨⟨hs.nodup, fun g => ?_⟩, fun hw => ⟨fun g => ?_, fun g => ?_, hw.stored⟩, fun g => ?_⟩
  · obtain ⟨hsets, hwaits, hevaluates, hrests⟩ := hs.groups g
    constructor <;> rw [hgroup] <;> assumption
  · rw [hgroup]
    exact SameWindows.lawful (x := { s.groups[g] with config := c.records[g] }) ⟨rfl, rfl, rfl, rfl⟩
      (groupWindowsLawful_disabled (hw.groups g) (hidle g) (hdisabled g) (hc hw g))
  · rw [hgroup]
    exact hw.slots g
  · rw [hgroup]
    exact ⟨hidle g, windowOpen_disabled (hdisabled g)⟩

theorem defaultContents_cycles (a : Addr) (g : GroupId) : CyclesLawful (defaultContents a).records[g] := by
  have hrecord : (defaultContents a).records[g] = defaultGroupRecord := Vector.getElem_replicate ..
  rw [hrecord]
  exact ⟨by decide, by decide⟩

/-- In BYPASS every group is disabled, and at the end of start-up the switch is INLINE. -/
theorem startUp_lawfulAct {s u : State} (hbypass : s.switch = .bypass)
    (h : SetsAccounted s → (∀ g : GroupId, s.groups[g].enabled = false) → StartsUp s u) :
    LawfulAct s (endStartUp u) where
  analysis ha := by
    obtain ⟨hs, hb⟩ := analysisLawful_iff.mp ha
    exact analysisLawful_iff.mpr ⟨(h hs (hb hbypass).1).sets.of_same rfl rfl rfl, nofun⟩
  windows ha hw := by
    obtain ⟨hs, hb⟩ := analysisLawful_iff.mp ha
    obtain ⟨hgroups, hslots, hstored⟩ := (h hs (hb hbypass).1).windows hw
    exact ⟨hgroups, hslots, hstored⟩

theorem startOnDefaults_lawfulAct {s : State} (hbypass : s.switch = .bypass) : LawfulAct s (startOnDefaults s) :=
  startUp_lawfulAct hbypass fun hs hd => loadTables_startsUp hs hd fun _ => defaultContents_cycles _

theorem startOnImage_lawfulAct {s : State} {c : ImageContents} (hbypass : s.switch = .bypass)
    (hgood : imageCondition s.store.image = .good c) : LawfulAct s (startOnImage c s) :=
  startUp_lawfulAct hbypass fun hs hd => List.foldlRecOn groupIxs enableAtStart
    (loadTables_startsUp hs hd fun hw => hw.stored.2 c hgood) fun _ hu g _ => enableAtStart_startsUp hu g

theorem switch_of_startingUp {s : State} (h : s.startingUp = true) : s.switch = .bypass := by
  cases hswitch : s.switch with
  | bypass => rfl
  | inLine => simp [State.startingUp, State.isInLine, hswitch] at h

theorem finishImageRead_lawfulAct (s : State) : LawfulAct s (finishImageRead s) := by
  unfold finishImageRead
  split
  · rename_i hstarting
    have hbypass := switch_of_startingUp hstarting
    split
    · rename_i hgood
      exact startOnImage_lawfulAct hbypass hgood
    · exact startOnDefaults_lawfulAct hbypass
    · exact startOnDefaults_lawfulAct hbypass
  · exact .refl s

theorem imageReadTimeOut_lawfulAct (s : State) : LawfulAct s (imageReadTimeOut s) := by
  unfold imageReadTimeOut
  split
  · rename_i hstarting
    exact startOnDefaults_lawfulAct (switch_of_startingUp hstarting.1)
  · exact .refl s

/-! ## The ports (R1 to R3, R11, R17) -/

theorem setPort_runs (p : Port) (x : PortState) (s : State) : Runs s (setPort p x s) := by
  cases p <;> exact .of_same rfl rfl rfl rfl rfl rfl rfl rfl

theorem setForwardDrop_runs (s : State) : Runs s (setForwardDrop s) := .of_same rfl rfl rfl rfl rfl rfl rfl rfl

theorem establishLink_runs (p : Port) (s : State) : Runs s (establishLink p s) := by
  unfold establishLink
  split
  · exact setPort_runs ..
  · exact .refl s

theorem abandon_lawfulAct (x : Transmission) (s : State) : LawfulAct s (abandon x s) := by
  unfold abandon
  split
  · exact partReset_lawfulAct ..
  · split
    · exact (setForwardDrop_runs s).lawful
    · exact .refl s

theorem loseLink_lawfulAct (p : Port) (s : State) : LawfulAct s (loseLink p s) := by
  unfold loseLink
  split
  · have freed := (setPort_runs p { link := .down, sending := none } s).lawful
    dsimp only
    split
    · exact freed.trans (abandon_lawfulAct ..)
    · exact freed
  · exact .refl s

theorem completeTransmission_lawfulAct (p : Port) (s : State) : LawfulAct s (completeTransmission p s) := by
  unfold completeTransmission
  split
  · split
    · exact partReset_lawfulAct ..
    · exact (setPort_runs ..).lawful
  · exact .refl s

theorem startPortA_runs (s : State) : Runs s (startPortA s) := by
  unfold startPortA
  split
  · exact .refl s
  · split
    · exact .of_same rfl rfl rfl rfl rfl rfl rfl rfl
    · exact .refl s

theorem chooseManagement_runs (s : State) : Runs s (chooseManagement s) := by
  unfold chooseManagement
  split
  · exact .of_same rfl rfl rfl rfl rfl rfl rfl rfl
  · exact .of_same rfl rfl rfl rfl rfl rfl rfl rfl
  · exact .refl s

theorem arbiterChoice_runs (s : State) : Runs s (arbiterChoice s) := by
  unfold arbiterChoice
  split
  · split
    · split
      · exact chooseManagement_runs s
      · exact .of_same rfl rfl rfl rfl rfl rfl rfl rfl
    · exact chooseManagement_runs s
  · exact .refl s

/-! ## Arrivals (R2, R7, R8) -/

/-- A part that is INLINE has no part in the law of BYPASS. -/
theorem KeepsLaws.lawful_inLine {s t : State} (h : KeepsLaws s t) (hin : s.switch = .inLine) : LawfulAct s t :=
  h.lawful fun hb => nomatch hb.symm.trans hin

theorem offerForward_runs (f : ForwardFrame) (s : State) : Runs s (offerForward f s) := by
  unfold offerForward
  split
  · exact .of_same rfl rfl rfl rfl rfl rfl rfl rfl
  · exact setForwardDrop_runs s

theorem offerReverse_runs (l : List Byte) (s : State) : Runs s (offerReverse l s) := by
  unfold offerReverse
  split
  · exact .of_same rfl rfl rfl rfl rfl rfl rfl rfl
  · exact setForwardDrop_runs s

theorem arriveA_runs (l : List Byte) (s : State) : Runs s (arriveA l s) := by
  unfold arriveA
  dsimp only
  split
  · exact (offerForward_runs ..).trans (superviseFrame_runs ..)
  · exact offerForward_runs ..

/-- An act that changes the Management Unit and the frame path alone. -/
theorem mgmt_keepsLaws (m : Management) (p : FramePath) (s : State) : KeepsLaws s { s with mgmt := m, path := p } :=
  LeavesAnalysis.keepsLaws (.of_same rfl rfl rfl rfl rfl (.refl _) WindowsKept.stored)

theorem arriveB_keepsLaws (l : List Byte) (s : State) : KeepsLaws s (arriveB l s) := by
  unfold arriveB
  split
  · unfold offerRequest
    split
    · exact mgmt_keepsLaws _ s.path s
    · exact .refl s
  · exact (offerReverse_runs l s).toKeepsLaws

theorem receiveFrame_lawfulAct (p : Port) (f : WireFrame) (s : State) : LawfulAct s (receiveFrame p f s) := by
  unfold receiveFrame
  split
  · rename_i harrives
    have hin : s.switch = .inLine := by
      simp only [arrives, Bool.and_eq_true] at harrives
      exact isInLine_iff.mp harrives.1.1
    cases p
    · exact (arriveA_runs f.bytes s).lawful
    · exact (arriveB_keepsLaws f.bytes s).lawful_inLine hin
  · exact .refl s

/-! ## The taking of a request (R174) -/

theorem placeAnswer_keepsLaws (r : Request) (p : Reply) : KeepsLaws p.state (placeAnswer r p) := by
  obtain h | h := placeAnswer_cases r p <;> rw [h]
  · exact mgmt_keepsLaws _ p.state.path p.state
  · exact mgmt_keepsLaws _ _ p.state

theorem takeRequest_lawfulAct (mine : Request → Bool) {serve : Request → State → Reply} (h : ServesLawfully serve)
    (s : State) : LawfulAct s (takeRequest mine serve s) := by
  obtain hnone | ⟨r, rest, hrequests, _, _, _, htaken⟩ := takeRequest_cases mine serve s
  · rw [hnone]
    exact .refl s
  · rw [htaken]
    have left : KeepsLaws s (leaveQueue r rest s) := mgmt_keepsLaws _ s.path s
    refine ((left.trans (h r _)).trans (placeAnswer_keepsLaws ..)).lawful fun hb hidle => ?_
    cases hrequests.symm.trans (hidle hb).2

/-! ## One millisecond -/

theorem resetPartTimeOut_lawfulAct (s : State) : LawfulAct s (resetPartTimeOut s) := by
  obtain h | h := resetPartTimeOut_cases s <;> rw [h]
  · exact .refl s
  · exact partReset_lawfulAct ..

theorem tick_lawfulAct (s : State) : LawfulAct s (tick s) := by
  have limits (u : State) : LawfulAct u (resetPartTimeOut (storeTimeOut (imageReadTimeOut u))) :=
    ((imageReadTimeOut_lawfulAct u).trans (storeTimeOut_runs _).lawful).trans (resetPartTimeOut_lawfulAct _)
  have clocks (u : State) : Runs u (countRate (countTimer (takeRateCheck (streamIxs.foldl takeDeadline u)))) :=
    (((Runs.foldl takeDeadline_runs streamIxs u).trans (takeRateCheck_runs _)).trans (countTimer_runs _)).trans
      (countRate_runs _)
  unfold tick
  split
  · exact (limits s).trans (clocks _).lawful
  · exact .refl s

/-! ## The step -/

/-- An act that is taken under a condition only. -/
theorem LawfulAct.ite {s t : State} {b : Bool} (h : LawfulAct s t) : LawfulAct s (if b then t else s) := by
  cases b
  · exact .refl s
  · exact h

/-- Every command is an act that keeps the laws of R58 and R66, with the lines driven after it. -/
theorem exec_lawfulAct (c : Instr) (s : State) : ∃ t, exec c s = .next (driveLines t) ∧ LawfulAct s t := by
  have reads (mine : Request → Bool) {serve : Request → State → Reply} (h : ServesLawfully serve) :
      LawfulAct s (takeRequest mine serve s) := takeRequest_lawfulAct mine h s
  have passes (g : GroupId) (p : GroupContext → QueueEntry → GroupView → Instant → Bool) :
      LawfulAct s (if happensNext p g s then applyAt g s else s) := (applyAt_runs g s).lawful.ite
  cases c with
  | powerOn => exact ⟨_, rfl, partReset_lawfulAct ..⟩
  | lossOfSupply => exact ⟨_, rfl, partReset_lawfulAct ..⟩
  | nresetAssertion =>
    refine ⟨_, rfl, ?_⟩
    split
    · exact .refl s
    · exact partReset_lawfulAct ..
  | nresetRelease =>
    refine ⟨_, rfl, ?_⟩
    split
    · exact Runs.lawful (.of_same rfl rfl rfl rfl rfl rfl rfl rfl)
    · exact .refl s
  | imageRead => exact ⟨_, rfl, finishImageRead_lawfulAct s⟩
  | imageReadTimeLimit => exact ⟨_, rfl, imageReadTimeOut_lawfulAct s⟩
  | linkEstablished p => exact ⟨_, rfl, (establishLink_runs p s).lawful⟩
  | linkLoss p => exact ⟨_, rfl, loseLink_lawfulAct p s⟩
  | frameArrival p f => exact ⟨_, rfl, receiveFrame_lawfulAct p f s⟩
  | portATransmissionStart => exact ⟨_, rfl, (startPortA_runs s).lawful⟩
  | transmitArbiterChoice => exact ⟨_, rfl, (arbiterChoice_runs s).lawful⟩
  | transmissionComplete p => exact ⟨_, rfl, completeTransmission_lawfulAct p s⟩
  | silenceDeadline i => exact ⟨_, rfl, (takeDeadline_runs s i).lawful⟩
  | rateIntervalEnd => exact ⟨_, rfl, (takeRateCheck_runs s).lawful⟩
  | applyEntry g => exact ⟨_, rfl, (applyAt_runs g s).lawful⟩
  | cycleTooLate g => exact ⟨_, rfl, passes g tooLateAt⟩
  | acquisitionTimeout g => exact ⟨_, rfl, passes g timeoutAt⟩
  | holdoverWindowClose g => exact ⟨_, rfl, passes g holdoverCloseAt⟩
  | evaluationCompletion => exact ⟨_, rfl, (completeEvaluation_runs s).lawful⟩
  | leak => exact ⟨_, rfl, (completeEvaluation_runs s).lawful.ite⟩
  | resetPartTimeLimit => exact ⟨_, rfl, resetPartTimeOut_lawfulAct s⟩
  | storeCompletion => exact ⟨_, rfl, (completeStore_runs s).lawful⟩
  | storeReadBackFault => exact ⟨_, rfl, (faultStore_runs s).lawful⟩
  | storeTimeLimit => exact ⟨_, rfl, (storeTimeOut_runs s).lawful⟩
  | unsupported => exact ⟨_, rfl, reads _ fun _ _ => .refl _⟩
  | identify => exact ⟨_, rfl, reads _ (withArgs_lawful 0 fun _ _ => .refl _)⟩
  | readStatus => exact ⟨_, rfl, reads _ (withArgs_lawful 1 serveReadStatus_lawful)⟩
  | readEntryStream => exact ⟨_, rfl, reads _ (withTable_lawful 2 serveReadStream_lawful)⟩
  | readEntryGroup => exact ⟨_, rfl, reads _ (withTable_lawful 2 serveReadGroup_lawful)⟩
  | readEntryLimitBank => exact ⟨_, rfl, reads _ (withTable_lawful 5 serveReadLimits_lawful)⟩
  | readEntryPartSettings => exact ⟨_, rfl, reads _ (withTable_lawful 2 fun _ _ => .refl _)⟩
  | writeEntryStream => exact ⟨_, rfl, reads _ (withTable_lawful 14 serveWriteStream_lawful)⟩
  | writeEntryGroup => exact ⟨_, rfl, reads _ (withTable_lawful 72 serveWriteGroup_lawful)⟩
  | writeEntryLimitBank => exact ⟨_, rfl, reads _ (withTable_lawful 4 serveWriteLimits_lawful)⟩
  | writeEntryPartSettings => exact ⟨_, rfl, reads _ (withTable_lawful 11 serveWriteSettings_lawful)⟩
  | commitLimits => exact ⟨_, rfl, reads _ (withArgs_lawful 1 (withGroup_lawful serveCommit_lawful))⟩
  | groupEnable => exact ⟨_, rfl, reads _ (withArgs_lawful 1 (withGroup_lawful serveEnable_lawful))⟩
  | groupDisable => exact ⟨_, rfl, reads _ (withArgs_lawful 1 (withGroup_lawful serveDisable_lawful))⟩
  | readResult => exact ⟨_, rfl, reads _ (withArgs_lawful 1 (withGroup_lawful fun _ _ => .refl _))⟩
  | readEvents => exact ⟨_, rfl, reads _ (withArgs_lawful 1 serveReadEvents_lawful)⟩
  | clearFirst => exact ⟨_, rfl, reads _ (withArgs_lawful 1 (withGroup_lawful serveClearFirst_lawful))⟩
  | releaseTrip => exact ⟨_, rfl, reads _ (withArgs_lawful 1 (withGroup_lawful serveReleaseTrip_lawful))⟩
  | snap => exact ⟨_, rfl, reads _ (withArgs_lawful 1 (withGroup_lawful serveSnap_lawful))⟩
  | holdCapture => exact ⟨_, rfl, reads _ (withArgs_lawful 1 (withSlot_lawful serveHold_lawful))⟩
  | releaseCapture => exact ⟨_, rfl, reads _ (withArgs_lawful 1 (withSlot_lawful serveRelease_lawful))⟩
  | readCapture => exact ⟨_, rfl, reads _ (withArgs_lawful 4 serveReadCapture_lawful)⟩
  | readArray => exact ⟨_, rfl, reads _ (withArgs_lawful 4 serveReadArray_lawful)⟩
  | storeConfig => exact ⟨_, rfl, reads _ (withArgs_lawful 0 serveStoreConfig_lawful)⟩
  | restartAnalysis => exact ⟨_, rfl, reads _ (withArgs_lawful 0 serveRestart_lawful)⟩
  | resetPart => exact ⟨_, rfl, reads _ (withArgs_lawful 0 serveResetPart_lawful)⟩

theorem driveLines_runs (s : State) : Runs s (driveLines s) := .of_same rfl rfl rfl rfl rfl rfl rfl rfl

theorem withPending_runs (l : List Instr) (s : State) : Runs s (withPending l s) :=
  .of_same rfl rfl rfl rfl rfl rfl rfl rfl

/-- Every step keeps the laws of R58 and R66. -/
theorem step_lawfulAct {s t : State} (h : step s = .next t) : LawfulAct s t := by
  obtain ⟨_, hstep⟩ | ⟨c, rest, _, hstep⟩ := step_cases s
  · rw [hstep] at h
    cases h
    exact (tick_lawfulAct s).trans (driveLines_runs _).lawful
  · obtain ⟨u, hexec, hlawful⟩ := exec_lawfulAct c (withPending rest s)
    rw [hstep, hexec] at h
    cases h
    exact ((withPending_runs rest s).lawful.trans hlawful).trans (driveLines_runs _).lawful

/-- Settles O10: every step keeps the law of R66 at every group with its place in the wait list and the engine, and, with
the owners of the capture slots, the law of R58. -/
theorem accumulatorSetsStayLawful : Obligations.AccumulatorSetsStayLawful := by
  refine ⟨fun _ _ ha h => (step_lawfulAct h).analysis ha, fun _ _ ha hc hw h => ?_⟩
  obtain ⟨_, howners⟩ := hc
  exact (windowsKept_iff.mp ((step_lawfulAct h).windows ha (windowsKept_iff.mpr ⟨howners, hw⟩))).2

end Sys2Proof.Machine
end

section
/-! The Exceedance Records at a completion (R120, R141, R142): which cells they receive, which of them is chosen, and
which rows the next-row set gains. -/

namespace Sys2Proof.Machine

section
variable {bank : Vector LimitRow 19} {cells : Vector Cell 76}

/-- Cell `p` stands at ALERT or above with value `v` (R120). -/
def Exceeds (cells : Vector Cell 76) (p : Fin 76) (v : Nat) (l : RowLevel) : Prop :=
  cells[p] = .value v l ∧ (l = .alert ∨ l = .trip)

/-- Some cell of row `n` stands at ALERT or above. -/
def RowExceeds (cells : Vector Cell 76) (n : Nat) : Prop :=
  ∃ (p : Fin 76) (v : Nat) (l : RowLevel), Exceeds cells p v l ∧ p.val / 4 = n

/-- The exceedance of cell `p` at value `v` and level `l` (R120). -/
def exceedanceAt (bank : Vector LimitRow 19) (p : Fin 76) (v : Nat) (l : RowLevel) : Exceedance :=
  { row := (cellRow p).val, slot := cellSlot p, value := v, level := l, threshold := thresholdOf bank[cellRow p] l }

theorem two_le_rank_iff (l : RowLevel) : 2 ≤ l.rank ↔ l = .alert ∨ l = .trip := by cases l <;> simp [RowLevel.rank]

theorem exceedanceOf_eq_some {p : Fin 76} {e : Exceedance} :
    exceedanceOf bank cells p = some e ↔ ∃ v l, Exceeds cells p v l ∧ e = exceedanceAt bank p v l := by
  unfold exceedanceOf Exceeds
  cases hcell : cells[p] with
  | value v l =>
    simp only [two_le_rank_iff]
    constructor
    · intro h
      split at h
      · rename_i hl
        exact ⟨v, l, ⟨rfl, hl⟩, (Option.some.inj h).symm⟩
      · cases h
    · rintro ⟨w, m, ⟨hw, hm⟩, rfl⟩
      cases hw
      exact if_pos hm
  | absent => exact ⟨nofun, fun ⟨_, _, h, _⟩ => nomatch h.1⟩
  | notEvaluated => exact ⟨nofun, fun ⟨_, _, h, _⟩ => nomatch h.1⟩

/-- The cells in row order, slot by slot, are the cells in rising order. -/
theorem cellIxs_eq : cellIxs = List.finRange 76 := by decide

theorem mem_exceedances {e : Exceedance} :
    e ∈ exceedances bank cells ↔ ∃ p v l, Exceeds cells p v l ∧ e = exceedanceAt bank p v l := by
  simp only [exceedances, cellIxs_eq, List.mem_filterMap, List.mem_finRange, true_and, exceedanceOf_eq_some]

theorem exceedances_eq_nil : exceedances bank cells = [] ↔ ∀ p v l, ¬Exceeds cells p v l := by
  rw [List.eq_nil_iff_forall_not_mem]
  constructor
  · exact fun h p v l hp => h _ (mem_exceedances.mpr ⟨p, v, l, hp, rfl⟩)
  · intro h e he
    obtain ⟨p, v, l, hp, _⟩ := mem_exceedances.mp he
    exact h p v l hp

/-- The first exceedance of a kind is that of the lowest cell of the kind. -/
theorem find_exceedances {P : Exceedance → Bool} {p : Fin 76} {v : Nat} {l : RowLevel} (hp : Exceeds cells p v l)
    (hkind : P (exceedanceAt bank p v l) = true)
    (hfirst : ∀ q w m, Exceeds cells q w m → P (exceedanceAt bank q w m) = true → p ≤ q) :
    (exceedances bank cells).find? P = some (exceedanceAt bank p v l) := by
  have hsome : exceedanceOf bank cells p = some (exceedanceAt bank p v l) := exceedanceOf_eq_some.mpr ⟨v, l, hp, rfl⟩
  have hfound : (List.finRange 76).find? (fun q => (exceedanceOf bank cells q).any P) = some p := by
    rw [List.find?_eq_some_iff_getElem]
    refine ⟨by rw [hsome]; exact hkind, p.val, by simp, by simp, fun j hj => ?_⟩
    rw [Bool.not_eq_true', ← Bool.not_eq_true, Option.any_eq_true]
    rintro ⟨e, he, hP⟩
    obtain ⟨w, m, hq, rfl⟩ := exceedanceOf_eq_some.mp he
    have hle := hfirst _ w m hq hP
    simp only [List.getElem_finRange, Fin.le_def] at hle
    exact absurd hle (Nat.not_le.mpr hj)
  rw [exceedances, cellIxs_eq, List.find?_filterMap, hfound]
  exact hsome

/-- The chosen cell has the highest level, and is the lowest of that level (R141). -/
theorem chosenExceedance_eq {p : Fin 76} {v : Nat} {l : RowLevel} (hp : Exceeds cells p v l)
    (hbest : ∀ q w m, Exceeds cells q w m → m.rank < l.rank ∨ (m = l ∧ p ≤ q)) :
    chosenExceedance (exceedances bank cells) = some (exceedanceAt bank p v l) := by
  unfold chosenExceedance
  obtain ⟨_, rfl | rfl⟩ := id hp
  · have hnone : (exceedances bank cells).find? (fun e => decide (e.level = .trip)) = none := by
      rw [List.find?_eq_none]
      intro e he
      obtain ⟨q, w, m, hq, rfl⟩ := mem_exceedances.mp he
      obtain hlower | ⟨rfl, _⟩ := hbest q w m hq
      · cases m <;> simp_all [exceedanceAt, RowLevel.rank]
      · simp [exceedanceAt]
    have hfound : (exceedances bank cells).find? (fun _ => true) = some (exceedanceAt bank p v .alert) := by
      refine find_exceedances hp rfl fun q w m hq _ => ?_
      obtain hlower | ⟨_, hle⟩ := hbest q w m hq
      · exact absurd hlower (Nat.not_lt.mpr ((two_le_rank_iff m).mpr hq.2))
      · exact hle
    rw [hnone]
    cases hlist : exceedances bank cells with
    | nil => simp [hlist] at hfound
    | cons e rest => simpa [hlist] using hfound
  · have hfound := find_exceedances (bank := bank) (P := fun e => decide (e.level = .trip)) hp (by simp [exceedanceAt])
      fun q w m hq hm => by
        obtain hlower | ⟨_, hle⟩ := hbest q w m hq
        · cases of_decide_eq_true hm
          exact absurd hlower (Nat.lt_irrefl _)
        · exact hle
    rw [hfound]

theorem chosenExceedance_isSome {l : List Exceedance} (h : l ≠ []) : ∃ e, chosenExceedance l = some e := by
  unfold chosenExceedance
  split
  · exact ⟨_, rfl⟩
  · cases l with
    | nil => exact absurd rfl h
    | cons e rest => exact ⟨e, rfl⟩

/-- The next-row set gains the rows of the exceedances added (R141). -/
theorem getLsbD_addRows (l : List Exceedance) {n : Nat} (hn : n < 19) (rows : BitVec 19) :
    (addRows rows l).getLsbD n = true ↔ rows.getLsbD n = true ∨ ∃ e ∈ l, e.row = n := by
  induction l generalizing rows with
  | nil => simp [addRows]
  | cons e l ih =>
    have hbit : (rows ||| (1#19 <<< e.row)).getLsbD n = true ↔ rows.getLsbD n = true ∨ e.row = n := by
      simp only [BitVec.getLsbD_or, BitVec.getLsbD_shiftLeft, BitVec.getLsbD_one, Bool.or_eq_true, Bool.and_eq_true,
        decide_eq_true_eq, Bool.not_eq_true', decide_eq_false_iff_not]
      refine or_congr_right ?_
      omega
    rw [addRows, List.foldl_cons, ← addRows, ih, hbit]
    simp only [List.mem_cons, exists_eq_or_imp, or_assoc]

/-! ## The record and the set after a completion -/

variable {r : ResultRecord} {x : Group}

theorem exceedWindow_none (hnone : ∀ p v l, ¬Exceeds r.cells p v l) :
    exceedWindow r (exceedances bank r.cells) x = x := by
  rw [exceedances_eq_nil.mpr hnone]
  rfl

theorem exceedWindow_latches {p : Fin 76} {v : Nat} {l : RowLevel} (hp : Exceeds r.cells p v l)
    (hbest : ∀ q w m, Exceeds r.cells q w m → m.rank < l.rank ∨ (m = l ∧ p ≤ q)) (habsent : x.first = none) :
    (exceedWindow r (exceedances bank r.cells) x).first = some (latchRecord r (exceedanceAt bank p v l)) ∧
      ∀ n : Nat, n < 19 → ((exceedWindow r (exceedances bank r.cells) x).nextRows.getLsbD n = true ↔
        x.nextRows.getLsbD n = true ∨ (n ≠ p.val / 4 ∧ RowExceeds r.cells n)) := by
  rw [exceedWindow, chosenExceedance_eq hp hbest, habsent]
  refine ⟨rfl, fun n hn => ?_⟩
  rw [getLsbD_addRows _ hn]
  refine or_congr_right ⟨?_, ?_⟩
  · rintro ⟨e, he, rfl⟩
    obtain ⟨hmem, hrow⟩ := List.mem_filter.mp he
    obtain ⟨q, w, m, hq, rfl⟩ := mem_exceedances.mp hmem
    exact ⟨of_decide_eq_true hrow, q, w, m, hq, rfl⟩
  · rintro ⟨hne, q, w, m, hq, hrow⟩
    have hother : (exceedanceAt bank q w m).row ≠ (exceedanceAt bank p v l).row := fun h => hne (hrow.symm.trans h)
    exact ⟨_, List.mem_filter.mpr ⟨mem_exceedances.mpr ⟨q, w, m, hq, rfl⟩, decide_eq_true hother⟩, hrow⟩

theorem exceedWindow_repeats {p : Fin 76} {v : Nat} {l : RowLevel} {f : FirstRecord} (hp : Exceeds r.cells p v l)
    (hpresent : x.first = some f) :
    (exceedWindow r (exceedances bank r.cells) x).first =
        some { f with repeats := min 65535 (f.repeats + 1), latest := r.number } ∧
      ∀ n : Nat, n < 19 → ((exceedWindow r (exceedances bank r.cells) x).nextRows.getLsbD n = true ↔
        x.nextRows.getLsbD n = true ∨ RowExceeds r.cells n) := by
  obtain ⟨e, he⟩ := chosenExceedance_isSome fun hnil => exceedances_eq_nil.mp hnil p v l hp
  rw [exceedWindow, he, hpresent]
  refine ⟨rfl, fun n hn => ?_⟩
  rw [getLsbD_addRows _ hn]
  refine or_congr_right ⟨?_, ?_⟩
  · rintro ⟨e, he, rfl⟩
    obtain ⟨q, w, m, hq, rfl⟩ := mem_exceedances.mp he
    exact ⟨q, w, m, hq, rfl⟩
  · rintro ⟨q, w, m, hq, hrow⟩
    exact ⟨_, mem_exceedances.mpr ⟨q, w, m, hq, rfl⟩, hrow⟩

end

end Sys2Proof.Machine
end

section
/-! EVALUATION_COMPLETION and LEAK: the claim of an auto capture (R158, R160), what the Level Unit raises (R128, R129),
the report (R182, R183), the leak (R125), and the completion with the engine's next taking (R80, R81). -/

namespace Sys2Proof.Machine

/-! ## The claim of a capture slot (R158, R160) -/

section
variable {c : Captures} {g : GroupId} {j : CaptureIx} {t : Trigger}

theorem claimSlot_owned (hone : ownedSlot c g = some j) (hroom : c.slots[j].holds < 15) :
    claimSlot g .trip c =
      .ok (j, false, setSlot j { c.slots[j] with holds := c.slots[j].holds + 1, auto := true } c) := by
  rw [claimSlot, hone, ← Bool.or_true c.slots[j].auto]
  exact if_pos hroom

theorem claimSlot_full (hone : ownedSlot c g = some j) (hfull : 15 ≤ c.slots[j].holds) :
    claimSlot g t c = .error .holdLimit := by
  rw [claimSlot, hone]
  exact if_neg (Nat.not_lt.mpr hfull)

theorem slotToTake_eq_some (hfree : c.slots[j].state = .free)
    (hmarked : c.slots[other j].state = .free → c.marker = j) : slotToTake c = some j := by
  by_cases hboth : c.slots[other j].state = .free
  · have hall : c.slots[0].state = .free ∧ c.slots[1].state = .free := by
      match j, hfree, hboth with
      | 0, hfree, hboth => exact ⟨hfree, hboth⟩
      | 1, hfree, hboth => exact ⟨hboth, hfree⟩
    rw [slotToTake, if_pos hall, hmarked hboth]
  · match j, hfree, hboth with
    | 0, hfree, hboth => exact (if_neg fun hall => hboth hall.2).trans (if_pos hfree)
    | 1, hfree, hboth => exact (if_neg fun hall => hboth hall.1).trans ((if_neg hboth).trans (if_pos hfree))

theorem slotToTake_eq_none (h : ∀ j : CaptureIx, c.slots[j].state ≠ .free) : slotToTake c = none := by
  cases htake : slotToTake c with
  | none => rfl
  | some j => exact absurd (slotToTake_some htake) (h j)

theorem claimSlot_free (hnone : ∀ j : CaptureIx, c.slots[j].owner ≠ some g) (htake : slotToTake c = some j) :
    claimSlot g t c = .ok (j, true, setSlot j (armedSlot g t) c) := by
  rw [claimSlot, ownedSlot_eq_none hnone]
  dsimp only
  rw [htake]

theorem claimSlot_none (hnone : ∀ j : CaptureIx, c.slots[j].owner ≠ some g)
    (hbusy : ∀ j : CaptureIx, c.slots[j].state ≠ .free) : claimSlot g t c = .error .noSlot := by
  rw [claimSlot, ownedSlot_eq_none hnone]
  dsimp only
  rw [slotToTake_eq_none hbusy]

end

/-! ## The Level Unit's events (R128, R129, R160) -/

section
variable {c : GroupContext} {r : ResultRecord} {v : GroupView}

/-- The Level Unit of a group after the window of a record (R123). -/
def unitAfter (r : ResultRecord) (x : Group) : LevelUnit :=
  handleLevels x.config r.level r.degraded r.idle x.levelUnit

/-- The LEVEL event of a window (R129). -/
def levelEvents (c : GroupContext) (r : ResultRecord) (v : GroupView) : EventQueue :=
  createEvent c.stamp (.level c.group (unitAfter r v.grp).level .window) (some (low16 r.number)) v.events

theorem levelWindow_stays (h : (unitAfter r v.grp).level = v.grp.levelUnit.level) :
    (levelWindow c r v).events = v.events ∧ (levelWindow c r v).captures = v.captures := by
  unfold unitAfter at h
  simp only [levelWindow, if_pos h, and_self]

theorem levelWindow_moves (h : (unitAfter r v.grp).level ≠ v.grp.levelUnit.level)
    (hno : ¬((unitAfter r v.grp).level = .tripped ∧ v.grp.config.autoCapture = true)) :
    (levelWindow c r v).events = levelEvents c r v ∧ (levelWindow c r v).captures = v.captures := by
  unfold unitAfter at h hno
  simp only [levelWindow, if_neg h, if_neg hno]
  exact ⟨rfl, rfl⟩

/-- A window that makes the group TRIPPED with auto capture on claims a slot (R160). -/
theorem levelWindow_claims (h : (unitAfter r v.grp).level ≠ v.grp.levelUnit.level)
    (htrip : (unitAfter r v.grp).level = .tripped ∧ v.grp.config.autoCapture = true) :
    (∀ i new caps, claimSlot c.group .trip v.captures = .ok (i, new, caps) →
      (levelWindow c r v).events = levelEvents c r v ∧ (levelWindow c r v).captures = caps) ∧
    (∀ why, claimSlot c.group .trip v.captures = .error why →
      (levelWindow c r v).events =
          createEvent c.stamp (.captureMiss c.group why) (some (low16 r.number)) (levelEvents c r v) ∧
        (levelWindow c r v).captures = v.captures) := by
  have hlevel : levelWindow c r v = autoCapture c r.number
      { v with grp := { v.grp with levelUnit := unitAfter r v.grp }, events := levelEvents c r v } := by
    unfold unitAfter at h htrip
    simp only [levelWindow, if_neg h, if_pos htrip]
    rfl
  refine ⟨fun i new caps hclaim => ?_, fun why hclaim => ?_⟩ <;>
  · rw [hlevel, autoCapture, hclaim]
    exact ⟨rfl, rfl⟩

end

/-! ## The leak (R125) -/

theorem leakDue_iff {cfg : GroupRecord} {u : LevelUnit} :
    leakDue cfg u = true ↔ cfg.leakPeriod ≠ 0 ∧ cfg.leakPeriod ≤ u.leakCounter + 1 := by simp [leakDue]

/-- A window at whose handling the leak counter reaches Lk (R125). -/
theorem handleLevels_leaks {cfg : GroupRecord} {u : LevelUnit} (hdue : leakDue cfg u = true) (w : RowLevel)
    (degraded idle : Bool) :
    (handleLevels cfg w degraded idle u).leakCounter = 0 ∧
      (handleLevels cfg w degraded idle u).bucket = min 255 (u.bucket + weightOf cfg w degraded) - 1 := by
  have hleak : leakStep cfg (addStep cfg w degraded u) =
      { addStep cfg w degraded u with leakCounter := 0, bucket := (addStep cfg w degraded u).bucket - 1 } := by
    rw [leakStep, if_neg (leakDue_iff.mp hdue).1]
    exact if_pos hdue
  have hrun (y : LevelUnit) : (runStep w degraded idle y).leakCounter = y.leakCounter ∧
      (runStep w degraded idle y).bucket = y.bucket := by
    unfold runStep
    split
    · split <;> exact ⟨rfl, rfl⟩
    · exact ⟨rfl, rfl⟩
  obtain ⟨hcounter, hbucket⟩ := hrun (leakStep cfg (addStep cfg w degraded u))
  exact ⟨hcounter.trans (congrArg LevelUnit.leakCounter hleak), hbucket.trans (congrArg LevelUnit.bucket hleak)⟩

theorem leakAtCompletion_busy {s : State} {g : GroupId} (hbusy : s.engine = some g) :
    leakAtCompletion s = leakDue s.groups[g].config s.groups[g].levelUnit := by
  rw [leakAtCompletion, hbusy]

/-! ## The report (R182, R183) -/

section
variable {g : GroupId} {r : ResultRecord} {s : State}

/-- The Management Unit with the next report's number taken (R183). -/
def reportCounted (m : Management) : Management := { m with reportCounter := m.reportCounter + 1 }

theorem offerReport_frame : offerReport g r s = { s with mgmt := (offerReport g r s).mgmt } := by
  unfold offerReport
  dsimp only
  split
  · rfl
  · split <;> rfl

theorem offerReport_suspended (h : s.queue.suspended = true) : (offerReport g r s).mgmt = reportCounted s.mgmt := by
  simp only [offerReport, if_pos h]
  rfl

theorem offerReport_full (h : s.queue.suspended = false) (hfull : 8 ≤ s.mgmt.reports.length) :
    (offerReport g r s).mgmt = { reportCounted s.mgmt with reportSkipped := true } := by
  have hlt : ¬s.mgmt.reports.length < Config.reportQueueSize := Nat.not_lt.mpr hfull
  simp only [offerReport, h, Bool.false_eq_true, if_false, if_neg hlt]
  rfl

theorem offerReport_room (h : s.queue.suspended = false) (hroom : s.mgmt.reports.length < 8) :
    (offerReport g r s).mgmt =
      { reportCounted s.mgmt with reports := s.mgmt.reports ++ [buildReport s g r] } := by
  have hlt : s.mgmt.reports.length < Config.reportQueueSize := hroom
  simp only [offerReport, h, Bool.false_eq_true, if_false, if_pos hlt]
  rfl

end

/-! ## The completion and the engine's taking (R80, R81) -/

theorem beginEvaluation_none {x : Group} (h : ∀ k : SetIx, x.sets[k].state ≠ .waiting) : beginEvaluation x = x := by
  rw [beginEvaluation, setIn_eq_none h]

/-- An evaluation begins on the sets alone. -/
theorem beginEvaluation_records (x : Group) :
    (beginEvaluation x).first = x.first ∧ (beginEvaluation x).nextRows = x.nextRows ∧
      (beginEvaluation x).levelUnit = x.levelUnit := by
  obtain ⟨_, h⟩ := beginEvaluation_frame x
  rw [h]
  exact ⟨rfl, rfl, rfl⟩

/-- The engine's taking changes of the groups no more than the sets. -/
theorem engineTake_records (s : State) (h : GroupId) :
    (engineTake s).groups[h].first = s.groups[h].first ∧ (engineTake s).groups[h].nextRows = s.groups[h].nextRows ∧
      (engineTake s).groups[h].levelUnit = s.groups[h].levelUnit := by
  obtain heq | heq := engineTake_group s h <;> rw [heq]
  · exact ⟨rfl, rfl, rfl⟩
  · exact beginEvaluation_records _

theorem completedGroup_eq (r : ResultRecord) (i : SetIx) (x : Group) :
    completedGroup r i x =
      { x with sets := upd x.sets i { x.sets[i] with state := .idle, limitGen := x.generation }, result := some r
               levelUnit := unitAfter r x, first := (completedGroup r i x).first
               nextRows := (completedGroup r i x).nextRows } := by
  rw [completedGroup, exceedWindow_frame]
  rfl

section
variable (s : State) (g : GroupId) (i : SetIx)

/-- The completion of the record `r`, with its report offered if the group's report enable is on (R182). -/
def afterReport (r : ResultRecord) : State :=
  if s.groups[g].config.reportEnable then offerReport g r (afterCompletion s g r i) else afterCompletion s g r i

variable (r : ResultRecord)

theorem afterReport_frame :
    afterReport s g i r =
      { s with groups := (afterCompletion s g r i).groups, events := (afterCompletion s g r i).events
               captures := (afterCompletion s g r i).captures, engine := none
               mgmt := (afterReport s g i r).mgmt } := by
  have hwait : (afterCompletion s g r i).waitList = s.waitList := (completeAtGroup_same ..).2.1
  have hdone : afterCompletion s g r i =
      { s with groups := (afterCompletion s g r i).groups, events := (afterCompletion s g r i).events
               captures := (afterCompletion s g r i).captures, engine := none } :=
    congrArg (fun l => { afterCompletion s g r i with waitList := l }) hwait
  unfold afterReport
  split
  · rw [offerReport_frame]
    exact congrArg (fun u : State => { u with mgmt := (offerReport g r (afterCompletion s g r i)).mgmt }) hdone
  · exact hdone

theorem afterReport_groups : (afterReport s g i r).groups = (afterCompletion s g r i).groups := by
  rw [afterReport_frame]

/-- The part after a completion, block by block. -/
theorem completion_frame :
    engineTake (afterReport s g i r) =
      { s with groups := (engineTake (afterReport s g i r)).groups, events := (afterCompletion s g r i).events
               captures := (afterCompletion s g r i).captures, engine := s.waitList.head?, waitList := s.waitList.tail
               mgmt := (afterReport s g i r).mgmt } := by
  have hframe := afterReport_frame s g i r
  obtain ⟨hengine, hwait, _⟩ := engineTake_idle (congrArg State.engine hframe)
  rw [engineTake_fields, hengine, hwait]
  generalize (engineTake (afterReport s g i r)).groups = groups
  generalize hmgmt : (afterReport s g i r).mgmt = m at hframe
  rw [hframe]

theorem completion_groups (h : GroupId) :
    (engineTake (afterReport s g i r)).groups[h] =
      if s.waitList.head? = some h then beginEvaluation (afterCompletion s g r i).groups[h]
      else (afterCompletion s g r i).groups[h] := by
  have hwait : (afterReport s g i r).waitList = s.waitList := by rw [afterReport_frame]
  obtain ⟨_, _, hgroups⟩ := engineTake_idle (congrArg State.engine (afterReport_frame s g i r))
  rw [hgroups, hwait, afterReport_groups]

theorem completion_records (h : GroupId) :
    (engineTake (afterReport s g i r)).groups[h].first = (afterCompletion s g r i).groups[h].first ∧
      (engineTake (afterReport s g i r)).groups[h].nextRows = (afterCompletion s g r i).groups[h].nextRows ∧
      (engineTake (afterReport s g i r)).groups[h].levelUnit = (afterCompletion s g r i).groups[h].levelUnit := by
  rw [← afterReport_groups]
  exact engineTake_records _ h

/-- The Level Unit alone raises events and claims slots, before the engine takes its next window. -/
theorem completion_shows {q : EventQueue} {c : Captures}
    (h : (afterCompletion s g r i).events = q ∧ (afterCompletion s g r i).captures = c) :
    (engineTake (afterReport s g i r)).events = q ∧ (engineTake (afterReport s g i r)).captures = c := by
  rw [completion_frame]
  exact h

/-- The summary that the report carries is that of the part after the completion (R182; log entry 26). -/
theorem summaryOf_completion (hflag : (afterReport s g i r).mgmt.reportSkipped = s.mgmt.reportSkipped) :
    summaryOf (engineTake (afterReport s g i r)) = summaryOf (afterCompletion s g r i) := by
  have hlevels (l : Level) : levelSet (engineTake (afterReport s g i r)) l = levelSet (afterCompletion s g r i) l := by
    simp only [levelSet, (completion_records s g i r _).2.2]
  simp only [summaryOf, hlevels]
  rw [completion_frame, hflag]
  rfl

theorem afterReport_off (hoff : s.groups[g].config.reportEnable = false) : (afterReport s g i r).mgmt = s.mgmt := by
  have hno : ¬s.groups[g].config.reportEnable = true := by rw [hoff]; nofun
  rw [afterReport, if_neg hno]
  rfl

/-- The report is offered to the queue as it stood, and is built from the part with the record in it. -/
theorem afterReport_mgmt (hon : s.groups[g].config.reportEnable = true) :
    (s.queue.suspended = true → (afterReport s g i r).mgmt = reportCounted s.mgmt) ∧
      (s.queue.suspended = false → 8 ≤ s.mgmt.reports.length →
        (afterReport s g i r).mgmt = { reportCounted s.mgmt with reportSkipped := true }) ∧
      (s.queue.suspended = false → s.mgmt.reports.length < 8 →
        (afterReport s g i r).mgmt =
          { reportCounted s.mgmt with
              reports := s.mgmt.reports ++ [buildReport (afterCompletion s g r i) g r] }) := by
  rw [afterReport, if_pos hon]
  exact ⟨offerReport_suspended (s := afterCompletion s g r i), offerReport_full (s := afterCompletion s g r i),
    offerReport_room (s := afterCompletion s g r i)⟩

end

end Sys2Proof.Machine
end

section
/-! What a completion leaves, as EVALUATION_COMPLETION and LEAK say it: the first-exceedance record, the events with the
capture claim, the report, and the part around them. -/

namespace Sys2Proof.Machine

section
variable {s : State} {g : GroupId} {i : SetIx} {r : ResultRecord}

/-! ## The Exceedance Records (R141, R142) -/

theorem completedGroup_unexceeded {x : Group} (h : ∀ p v l, ¬Exceeds r.cells p v l) :
    (completedGroup r i x).first = x.first ∧ (completedGroup r i x).nextRows = x.nextRows := by
  rw [completedGroup, exceedWindow_none h]
  exact ⟨rfl, rfl⟩

theorem completedGroup_latches {x : Group} {p : Fin 76} {v : Nat} {l : RowLevel} (hp : Exceeds r.cells p v l)
    (hbest : ∀ q w m, Exceeds r.cells q w m → m.rank < l.rank ∨ (m = l ∧ p ≤ q)) (habsent : x.first = none) :
    (completedGroup r i x).first = some (latchRecord r (exceedanceAt x.nowBank p v l)) ∧
      ∀ n : Nat, n < 19 → ((completedGroup r i x).nextRows.getLsbD n = true ↔
        x.nextRows.getLsbD n = true ∨ (n ≠ p.val / 4 ∧ RowExceeds r.cells n)) :=
  exceedWindow_latches (x := { storeResult r i x with levelUnit := unitAfter r x }) hp hbest habsent

theorem completedGroup_repeats {x : Group} {p : Fin 76} {v : Nat} {l : RowLevel} {f : FirstRecord}
    (hp : Exceeds r.cells p v l) (hpresent : x.first = some f) :
    (completedGroup r i x).first = some { f with repeats := min 65535 (f.repeats + 1), latest := r.number } ∧
      ∀ n : Nat, n < 19 → ((completedGroup r i x).nextRows.getLsbD n = true ↔
        x.nextRows.getLsbD n = true ∨ RowExceeds r.cells n) :=
  exceedWindow_repeats (x := { storeResult r i x with levelUnit := unitAfter r x }) hp hpresent

/-! ## Events and captures (R128, R129, R160) -/

/-- What the group shows the Level Unit when the record stands in it. -/
def recordView (s : State) (g : GroupId) (i : SetIx) (r : ResultRecord) : GroupView :=
  { viewGroup s g with grp := storeResult r i s.groups[g] }

/-- The LEVEL event of the completion (R129). -/
def completionEvents (s : State) (g : GroupId) (r : ResultRecord) : EventQueue :=
  createEvent s.timer (.level g (unitAfter r s.groups[g]).level .window) (some (low16 r.number)) s.events

theorem afterCompletion_stays (h : (unitAfter r s.groups[g]).level = s.groups[g].levelUnit.level) :
    (afterCompletion s g r i).events = s.events ∧ (afterCompletion s g r i).captures = s.captures :=
  levelWindow_stays (v := recordView s g i r) h

theorem afterCompletion_moves (h : (unitAfter r s.groups[g]).level ≠ s.groups[g].levelUnit.level)
    (hno : ¬((unitAfter r s.groups[g]).level = .tripped ∧ s.groups[g].config.autoCapture = true)) :
    (afterCompletion s g r i).events = completionEvents s g r ∧ (afterCompletion s g r i).captures = s.captures :=
  levelWindow_moves (v := recordView s g i r) h hno

/-- A group that becomes TRIPPED claims a slot with its auto capture on. -/
def Claims (s : State) (g : GroupId) (r : ResultRecord) : Prop :=
  (unitAfter r s.groups[g]).level ≠ s.groups[g].levelUnit.level ∧ (unitAfter r s.groups[g]).level = .tripped ∧
    s.groups[g].config.autoCapture = true ∧ CapturesLawful s.captures

theorem afterCompletion_claims (h : Claims s g r) :
    (∀ j new caps, claimSlot g .trip s.captures = .ok (j, new, caps) →
      (afterCompletion s g r i).events = completionEvents s g r ∧ (afterCompletion s g r i).captures = caps) ∧
    (∀ why, claimSlot g .trip s.captures = .error why →
      (afterCompletion s g r i).events =
          createEvent s.timer (.captureMiss g why) (some (low16 r.number)) (completionEvents s g r) ∧
        (afterCompletion s g r i).captures = s.captures) := by
  obtain ⟨hmoves, htripped, hauto, _⟩ := h
  exact levelWindow_claims (c := contextOf s g) (v := recordView s g i r) hmoves ⟨htripped, hauto⟩

/-- The claim of a group that owns a slot (R158, case 1). -/
theorem afterCompletion_owned (h : Claims s g r) {j : CaptureIx} (howner : s.captures.slots[j].owner = some g) :
    (15 ≤ s.captures.slots[j].holds →
      (afterCompletion s g r i).events =
          createEvent s.timer (.captureMiss g .holdLimit) (some (low16 r.number)) (completionEvents s g r) ∧
        (afterCompletion s g r i).captures = s.captures) ∧
    (s.captures.slots[j].holds < 15 →
      (afterCompletion s g r i).events = completionEvents s g r ∧
        (afterCompletion s g r i).captures =
          setSlot j { s.captures.slots[j] with holds := s.captures.slots[j].holds + 1, auto := true } s.captures) := by
  obtain ⟨hclaimed, hmissed⟩ := afterCompletion_claims (i := i) h
  obtain ⟨_, _, _, _, howners⟩ := h
  have hone := ownedSlot_eq_some (howners g) howner
  exact ⟨fun hfull => hmissed _ (claimSlot_full hone hfull), fun hroom => hclaimed _ _ _ (claimSlot_owned hone hroom)⟩

/-- The claim of a group that owns no slot (R158, case 2). -/
theorem afterCompletion_unowned (h : Claims s g r) (hnone : ∀ j : CaptureIx, s.captures.slots[j].owner ≠ some g) :
    ((∀ j : CaptureIx, s.captures.slots[j].state ≠ .free) →
      (afterCompletion s g r i).events =
          createEvent s.timer (.captureMiss g .noSlot) (some (low16 r.number)) (completionEvents s g r) ∧
        (afterCompletion s g r i).captures = s.captures) ∧
    ∀ j : CaptureIx, s.captures.slots[j].state = .free →
      (s.captures.slots[other j].state = .free → s.captures.marker = j) →
        (afterCompletion s g r i).events = completionEvents s g r ∧
          (afterCompletion s g r i).captures = setSlot j (armedSlot g .trip) s.captures := by
  obtain ⟨hclaimed, hmissed⟩ := afterCompletion_claims (i := i) h
  exact ⟨fun hbusy => hmissed _ (claimSlot_none hnone hbusy), fun j hfree hmarked =>
    hclaimed _ _ _ (claimSlot_free hnone (slotToTake_eq_some hfree hmarked))⟩

/-! ## The report (R182) -/

/-- The report shows the group as the Level Unit and the Exceedance Records leave it (log entry 26). -/
theorem buildReport_shows :
    (buildReport (afterCompletion s g r i) g r).levelUnit = unitAfter r s.groups[g] ∧
      (buildReport (afterCompletion s g r i) g r).timing = s.groups[g].tracker.timing ∧
      (buildReport (afterCompletion s g r i) g r).generation = s.groups[g].generation ∧
      (buildReport (afterCompletion s g r i) g r).firstPresent = (completedGroup r i s.groups[g]).first.isSome := by
  rw [buildReport, afterCompletion_group, completedGroup_eq]
  exact ⟨rfl, rfl, rfl, rfl⟩

/-! ## The group, the engine and the leak (R80, R81, R125) -/

theorem completion_first :
    (engineTake (afterReport s g i r)).groups[g].first = (completedGroup r i s.groups[g]).first :=
  (completion_records ..).1.trans (congrArg Group.first (afterCompletion_group r))

theorem completion_nextRows :
    (engineTake (afterReport s g i r)).groups[g].nextRows = (completedGroup r i s.groups[g]).nextRows :=
  (completion_records ..).2.1.trans (congrArg Group.nextRows (afterCompletion_group r))

theorem completion_levelUnit : (engineTake (afterReport s g i r)).groups[g].levelUnit = unitAfter r s.groups[g] := by
  rw [(completion_records ..).2.2, afterCompletion_group, completedGroup_eq]

/-- The groups before the engine takes the next head. -/
theorem afterCompletion_before (h : GroupId) :
    (afterCompletion s g r i).groups[h] =
      if h = g then
        { s.groups[g] with
            sets := upd s.groups[g].sets i
              { s.groups[g].sets[i] with state := .idle, limitGen := s.groups[g].generation }
            result := some r, levelUnit := unitAfter r s.groups[g]
            first := (engineTake (afterReport s g i r)).groups[g].first
            nextRows := (engineTake (afterReport s g i r)).groups[g].nextRows }
      else s.groups[h] := by
  by_cases hg : h = g
  · subst hg
    rw [if_pos rfl, completion_first, completion_nextRows, afterCompletion_group, ← completedGroup_eq]
  · rw [if_neg hg, afterCompletion_other r hg]

theorem completion_idle (hidle : s.engine = none) : Does .evaluationCompletion s s ∧ Does .leak s s := by
  have hnothing : completeEvaluation s = s := by rw [completeEvaluation, hidle]
  have hnoleak : leakAtCompletion s = false := by rw [leakAtCompletion, hidle]
  refine ⟨congrArg act hnothing, ?_⟩
  show act (if leakAtCompletion s then completeEvaluation s else s) = _
  rw [hnoleak]
  rfl

theorem exec_leak (hbusy : s.engine = some g) :
    exec .leak s = act (if leakDue s.groups[g].config s.groups[g].levelUnit then completeEvaluation s else s) := by
  show act (if leakAtCompletion s then completeEvaluation s else s) = _
  rw [leakAtCompletion_busy hbusy]

end

/-- Settles O35: the idle engine and its taking first; then, of one completion, the leak, the groups with the engine,
the Exceedance Records, the Level Unit's events and claim, and the report. -/
theorem completionsReplaceTheResultRecord : Obligations.CompletionsReplaceTheResultRecord := by
  intro s
  refine ⟨completion_idle, fun x => ⟨beginEvaluation_none, fun k hk hfirst =>
    beginEvaluation_waiting (setIn_of_first hk hfirst)⟩, fun g i hbusy hset => ?_⟩
  intro grp cfg r u
  have hdone : completeEvaluation s = engineTake (afterReport s g i r) := completeEvaluation_eq hbusy hset
  clear_value r
  have hexec : exec .evaluationCompletion s = .next (driveLines (engineTake (afterReport s g i r))) :=
    congrArg act hdone
  have hleak := exec_leak hbusy
  have hfirst := completion_first (s := s) (g := g) (i := i) (r := r)
  have hrows := completion_nextRows (s := s) (g := g) (i := i) (r := r)
  have hunit : (engineTake (afterReport s g i r)).groups[g].levelUnit = u := completion_levelUnit
  have hframe := completion_frame s g i r
  refine ⟨fun hno => ?_, fun hdue => ?_, driveLines (engineTake (afterReport s g i r)), hexec, ?_, ?_, ?_, ?_, ?_, ?_⟩
  · rw [Does, hleak, hno]
    rfl
  · have hsame : exec .leak s = exec .evaluationCompletion s := by rw [hleak, hdue]; rfl
    obtain ⟨hcounter, hbucket⟩ := handleLevels_leaks hdue r.level r.degraded r.idle
    exact ⟨hsame, _, hsame.trans hexec, (congrArg LevelUnit.leakCounter hunit).trans hcounter,
      (congrArg LevelUnit.bucket hunit).trans hbucket⟩
  · intro after before
    have hbefore (h : GroupId) : (afterCompletion s g r i).groups[h] = before h := afterCompletion_before h
    exact ⟨(congrArg State.engine hframe :), (congrArg State.waitList hframe :), fun h =>
      (completion_groups s g i r h).trans (by rw [hbefore h])⟩
  · intro exceeds rowExceeds
    have hbits (n : Nat) : (engineTake (afterReport s g i r)).groups[g].nextRows.getLsbD n = true ↔
        (completedGroup r i grp).nextRows.getLsbD n = true := by rw [hrows]
    refine ⟨fun hnone => ?_, fun p v l hp hbest habsent => ?_, fun p v l f hp hpresent => ?_⟩
    · obtain ⟨hsame, hkept⟩ := completedGroup_unexceeded (i := i) (x := grp) hnone
      exact ⟨hfirst.trans hsame, hrows.trans hkept⟩
    · obtain ⟨hlatched, hadded⟩ := completedGroup_latches (i := i) (x := grp) hp hbest habsent
      exact ⟨hfirst.trans hlatched, fun n hn => (hbits n).trans (hadded n hn)⟩
    · obtain ⟨hrepeated, hadded⟩ := completedGroup_repeats (i := i) (x := grp) hp hpresent
      exact ⟨hfirst.trans hrepeated, fun n hn => (hbits n).trans (hadded n hn)⟩
  · intro e1 missed slots claims
    refine ⟨fun h => completion_shows s g i r (afterCompletion_stays h),
      fun h hno => completion_shows s g i r (afterCompletion_moves h hno), fun j hclaims howner => ?_,
      fun hclaims hnone => ?_⟩
    · obtain ⟨hfull, hroom⟩ := afterCompletion_owned (i := i) hclaims howner
      exact ⟨fun h => completion_shows s g i r (hfull h), fun h => completion_shows s g i r (hroom h)⟩
    · obtain ⟨hbusy, htaken⟩ := afterCompletion_unowned (i := i) hclaims hnone
      exact ⟨fun h => completion_shows s g i r (hbusy h),
        fun j hfree hmarked => completion_shows s g i r (htaken j hfree hmarked)⟩
  · exact fun hoff => (congrArg State.mgmt hframe :).trans (afterReport_off s g i r hoff)
  · intro hon counted
    obtain ⟨hsuspended, hfull, hroom⟩ := afterReport_mgmt s g i r hon
    have hmgmt : (engineTake (afterReport s g i r)).mgmt = (afterReport s g i r).mgmt := (congrArg State.mgmt hframe :)
    obtain ⟨hlevel, htiming, hgeneration, hpresent⟩ := buildReport_shows (s := s) (g := g) (i := i) (r := r)
    refine ⟨fun h => hmgmt.trans (hsuspended h), fun h hl => hmgmt.trans (hfull h hl), fun h hl => ?_⟩
    have hsummary := summaryOf_completion s g i r (by rw [hroom h hl]; rfl)
    exact ⟨buildReport (afterCompletion s g r i) g r, hmgmt.trans (hroom h hl), rfl, rfl, hsummary.symm, rfl, rfl,
      hlevel, htiming, hgeneration, hpresent.trans (congrArg Option.isSome hfirst).symm, rfl⟩
  · rw [hframe]
    rfl

end Sys2Proof.Machine
end

section
/-! The integer square root (R87): the bit-by-bit search keeps the root between the bits found and the bits that remain. -/

namespace Sys2Proof.Machine

/-- While the root so far is not too large and all remaining bits together would be, the search ends on the root. -/
theorem rootBits_isRoot {n : Nat} :
    ∀ (k r : Nat), r * r ≤ n → n < (r + 2 ^ k) * (r + 2 ^ k) →
      rootBits k n r * rootBits k n r ≤ n ∧ n < (rootBits k n r + 1) * (rootBits k n r + 1)
  | 0, _, hlow, hhigh => ⟨hlow, hhigh⟩
  | k + 1, r, hlow, hhigh => by
    unfold rootBits
    split
    · next hfits =>
      refine rootBits_isRoot k (r + 2 ^ k) hfits ?_
      rwa [Nat.add_assoc, ← Nat.two_mul, ← Nat.pow_succ']
    · next hexceeds => exact rootBits_isRoot k r hlow (Nat.lt_of_not_le hexceeds)

/-- The bits that isqrt starts with are enough for every root. -/
theorem lt_square_of_half_log (n : Nat) : n < 2 ^ (n.log2 / 2 + 1) * 2 ^ (n.log2 / 2 + 1) := by
  have hbits : n.log2 + 1 ≤ (n.log2 / 2 + 1) + (n.log2 / 2 + 1) := by omega
  calc n < 2 ^ (n.log2 + 1) := Nat.lt_log2_self
    _ ≤ 2 ^ ((n.log2 / 2 + 1) + (n.log2 / 2 + 1)) := Nat.pow_le_pow_right (by decide) hbits
    _ = _ := Nat.pow_add ..

/-- Settles O38: the search starts at 0 with bits enough, and keeps the root between its bounds. -/
theorem integerSquareRootsAreExact : Obligations.IntegerSquareRootsAreExact := fun n =>
  rootBits_isRoot _ 0 (Nat.zero_le n) ((Nat.zero_add (2 ^ (n.log2 / 2 + 1))).symm ▸ lt_square_of_half_log n)

end Sys2Proof.Machine
end

section
/-! READ RESULT, CLEAR FIRST and READ ARRAY: the group's records (R102, R144, R146), and the pair, the sums and the
samples that READ ARRAY shows of a set (R85). -/

namespace Sys2Proof.Machine

/-! ## A plain request at the head of the queue -/

/-- A request at the head with the command's code and every fixed byte is served (R174). -/
theorem serves_of_asks {c : Instr} {k : RequestCode} {n : Nat} {serve : Request → State → Reply} {s u : State}
    {r : Request} {rest : List Request} {st : Status} {p : Payload}
    (hexec : exec c s = act (takeRequest (hasCode k) (withArgs n serve) s)) (h : HeadAsks s r rest k n)
    (hserve : serve r (taken r rest s) = reply st p u) : Serves c s r st p u := by
  obtain ⟨hhead, hcode, hcovers⟩ := h
  have hserved : withArgs n serve r (taken r rest s) = reply st p u := (if_pos hcovers).trans hserve
  rw [Serves, Does, hexec, takeRequest_of_head hhead (decide_eq_true hcode), hserved, placeAnswer_reply]
  rfl

/-! ## Arguments outside their range (R199) -/

theorem slotArg_eq_none {n : Nat} (h : 4 ≤ n) : slotArg n = none := dif_neg (Nat.not_lt.mpr h)

theorem twoArg_eq_none {n : Nat} (h : 2 ≤ n) : twoArg n = none := dif_neg (Nat.not_lt.mpr h)

theorem selectorArg_eq_none {n : Nat} (h : 16 ≤ n) (hfund : n ≠ 255) : selectorArg n = none :=
  (if_neg hfund).trans (dif_neg (Nat.not_lt.mpr h))

theorem withGroup_refused {serve : GroupId → State → Reply} {r : Request} (h : 8 ≤ argOf r 0) (s : State) :
    withGroup serve r s = refuse .badField s := by
  rw [withGroup, groupArg_eq_none h]

theorem serveReadArray_refused {r : Request}
    (h : 8 ≤ argOf r 0 ∨ 2 ≤ argOf r 1 ∨ 4 ≤ argOf r 2 ∨ (16 ≤ argOf r 3 ∧ argOf r 3 ≠ 255)) (s : State) :
    serveReadArray r s = refuse .badField s := by
  unfold serveReadArray
  split
  · next hgroup hset hslot hselector =>
    obtain hout | hout | hout | ⟨hout, hfund⟩ := h
    · cases (groupArg_eq_none hout).symm.trans hgroup
    · cases (twoArg_eq_none hout).symm.trans hset
    · cases (slotArg_eq_none hout).symm.trans hslot
    · cases (selectorArg_eq_none hout hfund).symm.trans hselector
  · rfl

/-! ## What READ ARRAY shows (R85) -/

section
variable {cfg : GroupRecord} {a : AccSet} {k : SlotIx} {sel : Selector}

/-- A set keeps the fundamental of every used slot, and an order-list position in the slots of its kind. -/
theorem keepsPair_iff :
    keepsPair cfg k sel = true ↔ ∃ kind value, cfg.slots[k] = .used kind value ∧
      (sel = .fundamental ∨ ∃ n o, sel = .position n ∧ cfg.orders[n.val]? = some o ∧ o.kind = kind) := by
  unfold keepsPair
  cases cfg.slots[k] with
  | unused => simp
  | used kind value =>
    cases sel with
    | fundamental => simp
    | position n => cases horder : cfg.orders[n.val]? <;> simp [horder]

theorem selectedPair_not_kept (h : ¬keepsPair cfg k sel = true) : selectedPair cfg a k sel = ⟨0, 0⟩ := if_neg h

theorem selectedPair_fundamental (h : keepsPair cfg k .fundamental = true) :
    selectedPair cfg a k .fundamental = a.sums[k].fund := if_pos h

theorem selectedPair_position {n : Fin 16} (h : keepsPair cfg k (.position n) = true) :
    selectedPair cfg a k (.position n) = pairAt a.sums[k] n.val := if_pos h

theorem shownSums_dc (h : ∃ value, cfg.slots[k] = .used .dc value) : shownSums cfg a k = a.sums[k] :=
  if_pos (slotIsKind_iff.mpr h)

theorem shownSums_not_dc (h : ¬∃ value, cfg.slots[k] = .used .dc value) : shownSums cfg a k = SlotSums.zero :=
  if_neg (slotIsKind_iff.not.mpr h)

end

/-- Settles O54: READ RESULT, CLEAR FIRST and READ ARRAY, each refused and served. -/
theorem recordsAreReadAndCleared : Obligations.RecordsAreReadAndCleared := by
  intro s r rest
  refine ⟨fun h hout => serves_of_asks rfl h (withGroup_refused hout _), fun g h hg => serves_at_group rfl h hg rfl,
    fun h hout => serves_of_asks rfl h (withGroup_refused hout _), fun g h hg => serves_at_group rfl h hg rfl,
    fun h => ⟨fun hout => serves_of_asks rfl h (serveReadArray_refused hout _), fun g i k sel hg hi hk hsel => ?_⟩⟩
  intro grp a sums kept isDc
  have hserve : serveReadArray r (taken r rest s) = done (.array (arrayView grp i k sel)) (taken r rest s) := by
    simp only [serveReadArray, hg, hi, hk, hsel]
    rfl
  have hkept : keepsPair grp.config k sel = true ↔ kept := keepsPair_iff
  refine ⟨arrayView grp i k sel, serves_of_asks rfl h hserve, rfl, hkept,
    fun hno => selectedPair_not_kept (hkept.not.mpr hno), fun hyes hfund => ?_, fun n hyes hpos => ?_, fun hdc => ?_,
    fun hno => ?_, rfl⟩
  · subst hfund
    exact selectedPair_fundamental (hkept.mpr hyes)
  · subst hpos
    exact selectedPair_position (hkept.mpr hyes)
  · have hshown : shownSums grp.config a k = sums := shownSums_dc hdc
    exact ⟨congrArg SlotSums.sum hshown, congrArg SlotSums.sumSq hshown, congrArg SlotSums.min hshown,
      congrArg SlotSums.max hshown⟩
  · have hshown : shownSums grp.config a k = SlotSums.zero := shownSums_not_dc hno
    exact ⟨congrArg SlotSums.sum hshown, congrArg SlotSums.sumSq hshown, congrArg SlotSums.min hshown,
      congrArg SlotSums.max hshown⟩

end Sys2Proof.Machine
end

section
/-! A group's part of the Limit Store through the acts at one group: a pending commit is taken once, at a window's
close, a disable or a restart (R114), and nothing else moves the banks (R115). -/

namespace Sys2Proof.Machine

/-- A group's part of the Limit Store: its banks, its generation and its commit-pending flag (R106 to R108). -/
structure Limits where
  nowBank : Vector LimitRow 19
  nextBank : Vector LimitRow 19
  generation : BitVec 8
  commitPending : Bool

/-- The part of the Limit Store that the group `x` holds. -/
def Group.limits (x : Group) : Limits :=
  { nowBank := x.nowBank, nextBank := x.nextBank, generation := x.generation, commitPending := x.commitPending }

namespace Limits

/-- The limits with a commit that was pending taken (R114, R115). -/
def taken (l : Limits) : Limits :=
  if l.commitPending then
    { l with nowBank := l.nextBank, generation := l.generation + 1, commitPending := false }
  else l

/-- From `l` to `m` nothing changes, or the pending commit is taken. -/
def Moves (l m : Limits) : Prop := m = l ∨ m = l.taken

theorem taken_taken (l : Limits) : l.taken.taken = l.taken := by
  obtain ⟨_, _, _, pending⟩ := l
  cases pending <;> rfl

theorem Moves.refl (l : Limits) : Moves l l := .inl rfl

/-- A taken commit is no longer pending, so that none is taken twice. -/
theorem Moves.taken {l m : Limits} (h : Moves l m) : Moves l m.taken := by
  obtain rfl | rfl := h
  · exact .inr rfl
  · exact .inr (taken_taken l)

theorem Moves.trans {l m n : Limits} (h : Moves l m) (k : Moves m n) : Moves l n := by
  obtain rfl | rfl := k
  · exact h
  · exact h.taken

end Limits

theorem pendingTaken_limits (x : Group) : (pendingTaken x).limits = x.limits.taken := by
  obtain ⟨_, _, _, _, _, _, _, _, _, _, _, _, pending⟩ := x
  cases pending <;> rfl

section
variable {l : Limits} {v : GroupView} (c : GroupContext)

/-! ## Windows and commits (R75 to R77, R114) -/

theorem takePending_moves (w : Option (BitVec 32)) (h : l.Moves v.grp.limits) :
    l.Moves (takePending c w v).grp.limits := by
  rw [takePending_eq]
  exact pendingTaken_limits v.grp ▸ h.taken

theorem captureClose_moves (h : l.Moves v.grp.limits) : l.Moves (captureClose c v).grp.limits := by
  unfold captureClose
  split <;> exact h

theorem closeSets_moves (i : SetIx) (follows : Bool) (h : l.Moves v.grp.limits) :
    l.Moves (closeSets c i follows v).grp.limits := by
  dsimp only [closeSets]
  split <;> exact h

theorem closeWindow_moves (follows : Bool) (h : l.Moves v.grp.limits) :
    l.Moves (closeWindow c follows v).grp.limits := by
  obtain ⟨_, hw⟩ | ⟨i, _, hw⟩ := closeWindow_cases c follows v <;> rw [hw]
  · exact h
  · apply captureClose_moves
    apply takePending_moves
    exact closeSets_moves c i follows h

theorem abortWindow_moves (reason : AbortReason) (follows : Bool) (h : l.Moves v.grp.limits) :
    l.Moves (abortWindow c reason follows v).grp.limits := by
  unfold abortWindow
  split <;> exact h

theorem onOpenSet_limits (f : AccSet → AccSet) (x : Group) : (onOpenSet f x).limits = x.limits := by
  unfold onOpenSet
  split <;> rfl

/-! ## Samples (R51 to R59) -/

theorem openTracking_moves (seq : Nat) (y : Sample) (h : l.Moves v.grp.limits) :
    l.Moves (openTracking c seq y v).grp.limits := h

theorem bufferSample_moves (y : Sample) (h : l.Moves v.grp.limits) : l.Moves (bufferSample c y v).grp.limits := h

theorem acquiringSample_moves (seq : Nat) (y : Sample) (w : Verdict) (h : l.Moves v.grp.limits) :
    l.Moves (acquiringSample c seq y w v).grp.limits := by
  dsimp only [acquiringSample]
  split
  · exact h
  · split <;> exact h

theorem acceptedCycle_moves (seq : Nat) (y : Sample) (len : Nat) (h : l.Moves v.grp.limits) :
    l.Moves (acceptedCycle c seq y len v).grp.limits := by
  have added : l.Moves { onOpenSet (addCycle v.grp.config len v.grp.buffer 0) v.grp with buffer := [] }.limits :=
    (onOpenSet_limits (addCycle v.grp.config len v.grp.buffer 0) v.grp).symm ▸ h
  dsimp only [acceptedCycle]
  split
  · apply openTracking_moves
    exact closeWindow_moves c true added
  · exact bufferSample_moves c y added

theorem trackingSample_moves (seq : Nat) (y : Sample) (w : Verdict) (h : l.Moves v.grp.limits) :
    l.Moves (trackingSample c seq y w v).grp.limits := by
  have lost : l.Moves (enterHoldover c (abortWindow c .timingLoss true v)).grp.limits :=
    abortWindow_moves c .timingLoss true h
  cases w with
  | none => exact h
  | accepted len => exact acceptedCycle_moves c seq y len h
  | early => exact lost
  | late => exact lost

theorem closeHoldover_moves (h : l.Moves v.grp.limits) : l.Moves (closeHoldover c v).grp.limits := by
  dsimp only [closeHoldover]
  split
  · exact closeWindow_moves c false h
  · exact closeWindow_moves c true h

theorem holdoverSample_moves (seq : Nat) (y : Sample) (h : l.Moves v.grp.limits) :
    l.Moves (holdoverSample c seq y v).grp.limits := by
  have opened : l.Moves (if v.grp.tracker.winSamples = 0 then openWindow c .holdover seq v else v).grp.limits := by
    split <;> exact h
  dsimp only [holdoverSample]
  generalize (if v.grp.tracker.winSamples = 0 then openWindow c .holdover seq v else v) = v1 at opened ⊢
  have added (f : AccSet → AccSet) : l.Moves (onOpenSet f v1.grp).limits := (onOpenSet_limits f v1.grp).symm ▸ opened
  split
  · exact closeHoldover_moves c (added _)
  · exact added _

theorem aligningSample_moves (seq : Nat) (y : Sample) (crossing : Bool) (w : Verdict) (h : l.Moves v.grp.limits) :
    l.Moves (aligningSample c seq y crossing w v).grp.limits := by
  unfold aligningSample
  split
  · exact h
  · split
    · exact holdoverSample_moves c seq y h
    · exact h

theorem handleSample_moves (seq : Nat) (y : Sample) (h : l.Moves v.grp.limits) :
    l.Moves (handleSample c seq y v).grp.limits := by
  have tracked : l.Moves { v with grp := trackSample c y v.grp }.grp.limits := h
  dsimp only [handleSample]
  generalize { v with grp := trackSample c y v.grp } = v1 at tracked ⊢
  split
  · exact tracked
  · exact tracked
  · exact acquiringSample_moves c seq y _ tracked
  · exact trackingSample_moves c seq y _ tracked
  · exact holdoverSample_moves c seq y tracked
  · exact aligningSample_moves c seq y _ _ tracked

/-! ## Passes (R49, R60 to R63) -/

theorem largeGap_moves (h : l.Moves v.grp.limits) : l.Moves (largeGap c v).grp.limits := by
  dsimp only [largeGap]
  split
  · exact abortWindow_moves c .gap false h
  · exact h
  · exact h
  · split
    · exact abortWindow_moves c .gap true h
    · exact h
  · exact h
  · exact h

theorem signalReturned_moves (h : l.Moves v.grp.limits) : l.Moves (signalReturned c v).grp.limits := by
  unfold signalReturned
  split <;> exact h

theorem heldSamples_moves (e : QueueEntry) (seqs : List Nat) (h : l.Moves v.grp.limits) :
    l.Moves (seqs.foldl (fun u n => handleSample c n (heldSample e u.grp) u) v).grp.limits := by
  induction seqs generalizing v with
  | nil => exact h
  | cons n seqs ih => exact ih (handleSample_moves c n _ h)

theorem passFinished_moves (e : QueueEntry) (h : l.Moves v.grp.limits) :
    l.Moves (passFinished c e v).grp.limits := handleSample_moves c e.seq _ (v := onTracker _ v) h

/-- A pass commits at most once, however many windows it closes: the first close takes the commit (R114). -/
theorem passEntry_moves (e : QueueEntry) (h : l.Moves v.grp.limits) : l.Moves (passEntry c e v).grp.limits := by
  have returned := signalReturned_moves c h
  obtain hgap | hgap := Nat.lt_or_ge v.grp.config.gapLimit (gapOf c e v.grp.tracker)
  · exact passEntry_large hgap ▸ passFinished_moves c e (largeGap_moves c returned)
  · exact passEntry_small hgap ▸ passFinished_moves c e (heldSamples_moves c e _ returned)

end

/-! ## The other acts at one group -/

theorem silenced_limits (x : Group) : (silenced x).limits = x.limits := by
  unfold silenced
  split
  · rfl
  · split <;> rfl

theorem silenceNotice_moves (c : GroupContext) (v : GroupView) :
    v.grp.limits.Moves (silenceNotice c v).grp.limits := by
  rw [silenceNotice_eq]
  exact .inl (silenced_limits v.grp)

theorem restartedGroup_moves (x : Group) : x.limits.Moves (restartedGroup x).limits := .inr (pendingTaken_limits x)

theorem disabledGroup_moves (x : Group) : x.limits.Moves (disabledGroup x).limits := .inr (pendingTaken_limits x)

theorem completedGroup_limits (r : ResultRecord) (i : SetIx) (x : Group) :
    (completedGroup r i x).limits = x.limits := by
  rw [completedGroup, exceedWindow_frame]
  rfl

theorem beginEvaluation_limits (x : Group) : (beginEvaluation x).limits = x.limits := by
  obtain ⟨_, h⟩ := beginEvaluation_frame x
  rw [h]
  rfl

end Sys2Proof.Machine
end

section
/-! The limit banks through the acts of the analysis, of the time and of the frame path: each leaves every bank as it is
but for the commits that it takes (R115), and keeps every bank rising (R110). -/

namespace Sys2Proof.Machine

/-- From `s` to `t` the switch stays, at each group at most the pending commit is taken, and the banks stay rising; such
acts can follow one another. -/
structure KeepsBanks (s t : State) : Prop where
  switch : t.switch = s.switch
  limits : ∀ g : GroupId, s.groups[g].limits.Moves t.groups[g].limits
  rising : BanksRising s → BanksRising t

/-- Both banks of a group's limits rise. -/
def Limits.Rising (l : Limits) : Prop := BankRising l.nowBank ∧ BankRising l.nextBank

theorem Limits.Moves.rising {l m : Limits} (h : l.Moves m) (hl : l.Rising) : m.Rising := by
  obtain rfl | rfl := h
  · exact hl
  · unfold Limits.taken
    split
    · exact ⟨hl.2, hl.2⟩
    · exact hl

namespace KeepsBanks

theorem refl (s : State) : KeepsBanks s s := ⟨rfl, fun _ => .refl _, id⟩

theorem trans {s t u : State} (h : KeepsBanks s t) (k : KeepsBanks t u) : KeepsBanks s u where
  switch := k.switch.trans h.switch
  limits g := (h.limits g).trans (k.limits g)
  rising := k.rising ∘ h.rising

theorem foldl {α : Type} {f : State → α → State} (h : ∀ s a, KeepsBanks s (f s a)) (l : List α) (s : State) :
    KeepsBanks s (l.foldl f s) := List.foldlRecOn l f (refl s) fun u hu a _ => hu.trans (h u a)

/-- An act that changes the groups by commits alone, and the Configuration Store not at all. -/
theorem of_limits {s t : State} (hswitch : t.switch = s.switch) (hstore : t.store = s.store)
    (hlimits : ∀ g : GroupId, s.groups[g].limits.Moves t.groups[g].limits) : KeepsBanks s t where
  switch := hswitch
  limits := hlimits
  rising := fun ⟨hgroups, hstored⟩ => ⟨fun g => (hlimits g).rising (hgroups g), hstore ▸ hstored⟩

theorem of_same {s t : State} (hswitch : t.switch = s.switch) (hstore : t.store = s.store)
    (hgroups : t.groups = s.groups) : KeepsBanks s t :=
  of_limits hswitch hstore fun g => by rw [hgroups]; exact .refl _

/-- An act at one group. -/
theorem at_group {s t : State} {g : GroupId} {x : Group} (hswitch : t.switch = s.switch) (hstore : t.store = s.store)
    (hgroups : t.groups = upd s.groups g x) (hx : s.groups[g].limits.Moves x.limits) : KeepsBanks s t := by
  refine of_limits hswitch hstore fun h => ?_
  rw [hgroups, upd_get_fin]
  split
  · rename_i hg
    exact hg ▸ hx
  · exact .refl _

end KeepsBanks

/-! ## Acts at groups (R49, R60, R80 to R82, R185) -/

theorem actOn_keepsBanks {f : GroupContext → GroupView → GroupView}
    (hf : ∀ c (v : GroupView), v.grp.limits.Moves (f c v).grp.limits) (g : GroupId) (s : State) :
    KeepsBanks s (actOn s g f) := .at_group rfl rfl rfl (hf (contextOf s g) (viewGroup s g))

theorem engineTake_keepsBanks (s : State) : KeepsBanks s (engineTake s) := by
  obtain ⟨h, _⟩ | ⟨g, _, _, _, h⟩ := engineTake_cases s <;> rw [h]
  · exact .refl s
  · exact .at_group rfl rfl rfl (.inl (beginEvaluation_limits s.groups[g]))

theorem deliverNotice_keepsBanks (i : StreamId) (s : State) : KeepsBanks s (deliverNotice i s) := by
  refine .foldl (fun s g => ?_) groupIxs s
  unfold noticeGroup
  split
  · exact actOn_keepsBanks silenceNotice_moves g s
  · exact .refl s

theorem enableGroup_keepsBanks (g : GroupId) (s : State) : KeepsBanks s (enableGroup g s) :=
  actOn_keepsBanks (f := enableView (streamActive s g)) (fun _ _ => .refl _) g s

theorem disableGroup_keepsBanks (g : GroupId) (s : State) : KeepsBanks s (disableGroup g s) := by
  have disabled : KeepsBanks s (afterDisable g s) := .at_group rfl rfl rfl (disabledGroup_moves s.groups[g])
  exact disableGroup_eq g s ▸ disabled.trans (engineTake_keepsBanks _)

theorem endEvaluation_keepsBanks (g : GroupId) (s : State) : KeepsBanks s (endEvaluation g s) := by
  unfold endEvaluation
  split
  · exact .of_same rfl rfl rfl
  · exact .refl s

theorem restartView_moves (c : GroupContext) (v : GroupView) : v.grp.limits.Moves (restartView c v).grp.limits := by
  obtain ⟨hgrp, _⟩ := restartView_same c v
  exact hgrp ▸ restartedGroup_moves v.grp

theorem restartGroup_keepsBanks (s : State) (g : GroupId) : KeepsBanks s (restartGroup s g) := by
  unfold restartGroup
  split
  · exact (endEvaluation_keepsBanks g s).trans (actOn_keepsBanks restartView_moves g _)
  · exact .refl s

theorem restartAnalysis_keepsBanks (s : State) : KeepsBanks s (restartAnalysis s) := by
  have groups : KeepsBanks s (groupIxs.foldl restartGroup s) := .foldl restartGroup_keepsBanks groupIxs s
  unfold restartAnalysis
  dsimp only
  generalize groupIxs.foldl restartGroup s = u at groups ⊢
  refine groups.trans (.trans ?_ (engineTake_keepsBanks _))
  exact .of_same rfl rfl rfl

theorem completeAtGroup_moves (r : ResultRecord) (i : SetIx) (c : GroupContext) (v : GroupView) :
    v.grp.limits.Moves (completeAtGroup r i c v).grp.limits := by
  obtain ⟨hgrp, _⟩ := completeAtGroup_same c r v i
  exact .inl (hgrp ▸ completedGroup_limits r i v.grp)

theorem offerReport_keepsBanks (g : GroupId) (r : ResultRecord) (s : State) : KeepsBanks s (offerReport g r s) := by
  unfold offerReport
  dsimp only
  split
  · exact .of_same rfl rfl rfl
  · split <;> exact .of_same rfl rfl rfl

theorem completeEvaluation_keepsBanks (s : State) : KeepsBanks s (completeEvaluation s) := by
  have idle : KeepsBanks s { s with engine := none } := .of_same rfl rfl rfl
  unfold completeEvaluation
  split
  · exact .refl s
  · rename_i g _
    split
    · exact idle.trans (engineTake_keepsBanks _)
    · rename_i i _
      have written := idle.trans (actOn_keepsBanks (completeAtGroup_moves (evaluatedRecord s g i) i) g _)
      refine .trans ?_ (engineTake_keepsBanks _)
      split
      · exact written.trans (offerReport_keepsBanks ..)
      · exact written

theorem passGroup_keepsBanks (e : QueueEntry) (g : GroupId) (s : State) : KeepsBanks s (passGroup e g s) := by
  have served (u : State) : KeepsBanks u { u with queue := { u.queue with served := u.queue.served ++ [g] } } :=
    .of_same rfl rfl rfl
  exact ((actOn_keepsBanks (fun c _ => passEntry_moves c e (.refl _)) g s).trans (engineTake_keepsBanks _)).trans
    (served _)

theorem finishEntry_keepsBanks (e : QueueEntry) (s : State) : KeepsBanks s (finishEntry e s) := by
  have removed (u : State) : KeepsBanks u { u with queue := removeHead u.settings u.queue } := .of_same rfl rfl rfl
  unfold finishEntry
  dsimp only
  refine .trans ?_ (removed _)
  split
  · exact deliverNotice_keepsBanks e.stream s
  · exact .refl s

theorem leaveIfDone_keepsBanks (e : QueueEntry) (s : State) : KeepsBanks s (leaveIfDone e s) := by
  unfold leaveIfDone
  split
  · exact .refl s
  · exact finishEntry_keepsBanks e s

theorem applyAt_keepsBanks (g : GroupId) (s : State) : KeepsBanks s (applyAt g s) := by
  unfold applyAt
  split
  · exact .refl s
  · refine .trans ?_ (leaveIfDone_keepsBanks ..)
    split
    · exact passGroup_keepsBanks _ g s
    · exact .refl s

/-! ## Streams and time (R27 to R33) -/

theorem placeNotice_keepsBanks (i : StreamId) (s : State) : KeepsBanks s (placeNotice i s) := by
  unfold placeNotice
  split
  · exact .of_same rfl rfl rfl
  · split
    · exact .of_same rfl rfl rfl
    · exact deliverNotice_keepsBanks i s

theorem takeDeadline_keepsBanks (s : State) (i : StreamId) : KeepsBanks s (takeDeadline s i) := by
  have raised (r : Supervision) : KeepsBanks s (raiseAt (.streamSilent i) (setSupervision i r s)) :=
    .of_same rfl rfl rfl
  unfold takeDeadline
  split
  · exact (raised _).trans (placeNotice_keepsBanks i _)
  · exact .refl s

theorem takeRateCheck_keepsBanks (s : State) : KeepsBanks s (takeRateCheck s) := by
  unfold takeRateCheck
  split
  · rw [rateCheck_eq]
    exact .of_same rfl rfl rfl
  · exact .refl s

theorem superviseFrame_keepsBanks (i : StreamId) (l : List Byte) (s : State) :
    KeepsBanks s (superviseFrame i l s) := by
  unfold superviseFrame
  split
  · rw [rangeFrame_eq]
    exact .of_same rfl rfl rfl
  · split
    · unfold activeFrame
      dsimp only
      split
      · rw [intakeFrame_eq]
        exact .of_same rfl rfl rfl
      · exact .of_same rfl rfl rfl
    · rw [wakingFrame_eq]
      exact .of_same rfl rfl rfl

/-- The deadlines, the rate check and the two clocks of one millisecond. -/
theorem clocks_keepBanks (s : State) :
    KeepsBanks s (countRate (countTimer (takeRateCheck (streamIxs.foldl takeDeadline s)))) := by
  have counted (u : State) : KeepsBanks u (countRate (countTimer u)) := by
    unfold countRate
    split <;> exact .of_same rfl rfl rfl
  exact ((KeepsBanks.foldl takeDeadline_keepsBanks streamIxs s).trans (takeRateCheck_keepsBanks _)).trans (counted _)

/-! ## The frame path (chapter 1) -/

theorem setPort_keepsBanks (p : Port) (x : PortState) (s : State) : KeepsBanks s (setPort p x s) := by
  cases p <;> exact .of_same rfl rfl rfl

theorem establishLink_keepsBanks (p : Port) (s : State) : KeepsBanks s (establishLink p s) := by
  unfold establishLink
  split
  · exact setPort_keepsBanks ..
  · exact .refl s

theorem startPortA_keepsBanks (s : State) : KeepsBanks s (startPortA s) := by
  unfold startPortA
  split
  · exact .refl s
  · split
    · exact .of_same rfl rfl rfl
    · exact .refl s

theorem chooseManagement_keepsBanks (s : State) : KeepsBanks s (chooseManagement s) := by
  unfold chooseManagement
  split
  · exact .of_same rfl rfl rfl
  · exact .of_same rfl rfl rfl
  · exact .refl s

theorem arbiterChoice_keepsBanks (s : State) : KeepsBanks s (arbiterChoice s) := by
  unfold arbiterChoice
  split
  · split
    · split
      · exact chooseManagement_keepsBanks s
      · exact .of_same rfl rfl rfl
    · exact chooseManagement_keepsBanks s
  · exact .refl s

theorem arriveA_keepsBanks (l : List Byte) (s : State) : KeepsBanks s (arriveA l s) := by
  have offered (f : ForwardFrame) : KeepsBanks s (offerForward f s) := by
    unfold offerForward
    split <;> exact .of_same rfl rfl rfl
  unfold arriveA
  dsimp only
  split
  · exact (offered _).trans (superviseFrame_keepsBanks ..)
  · exact offered _

theorem arriveB_keepsBanks (l : List Byte) (s : State) : KeepsBanks s (arriveB l s) := by
  unfold arriveB
  split
  · unfold offerRequest
    split
    · exact .of_same rfl rfl rfl
    · exact .refl s
  · unfold offerReverse
    split <;> exact .of_same rfl rfl rfl

theorem receiveFrame_keepsBanks (p : Port) (f : WireFrame) (s : State) : KeepsBanks s (receiveFrame p f s) := by
  unfold receiveFrame
  split
  · cases p
    · exact arriveA_keepsBanks f.bytes s
    · exact arriveB_keepsBanks f.bytes s
  · exact .refl s

/-! ## The Configuration Store (R187 to R190) -/

/-- The banks of a sealed image are those of its contents. -/
theorem contentsRising_of_sealed {a c : ImageContents} (h : imageCondition (sealedImage a) = .good c)
    (ha : ContentsRising a) : ContentsRising c := by
  rw [imageCondition_sealed] at h
  cases h
  exact ha

/-- An act that changes the Configuration Store, and no group. -/
theorem KeepsBanks.of_store {s t : State} (hswitch : t.switch = s.switch) (hgroups : t.groups = s.groups)
    (hstored : BanksRising s → (∀ c, t.store.snapshot = some c → ContentsRising c) ∧
      ∀ c, imageCondition t.store.image = .good c → ContentsRising c) : KeepsBanks s t where
  switch := hswitch
  limits g := by rw [hgroups]; exact .refl _
  rising h := ⟨by rw [hgroups]; exact h.1, hstored h⟩

theorem completeStore_keepsBanks (s : State) : KeepsBanks s (completeStore s) := by
  unfold completeStore
  split
  · rename_i c hsnapshot
    refine .of_store rfl rfl fun ⟨_, hsnap, _⟩ => ⟨nofun, fun _ hgood => ?_⟩
    exact contentsRising_of_sealed hgood (hsnap c hsnapshot)
  · exact .refl s

theorem faultStore_keepsBanks (s : State) : KeepsBanks s (faultStore s) := by
  unfold faultStore
  split
  · exact .of_store rfl rfl fun _ => ⟨nofun, nofun⟩
  · exact .refl s

theorem storeTimeOut_keepsBanks (s : State) : KeepsBanks s (storeTimeOut s) := by
  unfold storeTimeOut
  split
  · exact faultStore_keepsBanks s
  · exact .refl s

/-- The snapshot holds the NOW banks of the groups as they stand (R187). -/
theorem snapshotOf_nowBanks (s : State) (g : GroupId) : (snapshotOf s).nowBanks[g] = s.groups[g].nowBank := ofFn_get _ g

theorem beginStore_keepsBanks (s : State) : KeepsBanks s (beginStore s) := by
  refine .of_store rfl rfl fun ⟨hgroups, _⟩ => ⟨fun c hc g => ?_, nofun⟩
  cases hc
  exact snapshotOf_nowBanks s g ▸ (hgroups g).1

end Sys2Proof.Machine
end

section
/-! The limit banks through resets, start-up, the management requests and every step: the laws of R110 and R115. -/

namespace Sys2Proof.Machine

/-- From the group `x` to the group `y` the NOW bank and the generation stay, or one commit is taken (R115). -/
def ChangesByCommit (x y : Group) : Prop :=
  (y.nowBank = x.nowBank ∧ y.generation = x.generation) ∨
    (y.nowBank = x.nextBank ∧ y.nextBank = x.nextBank ∧ y.generation = x.generation + 1 ∧ y.commitPending = false)

/-- What every step keeps of the limit banks: they stay rising, and in a part that stays INLINE each NOW bank changes by
a commit alone. -/
structure BanksLawful (s t : State) : Prop where
  rising : BanksRising s → BanksRising t
  commits : s.switch = .inLine → t.switch = .inLine → ∀ g : GroupId, ChangesByCommit s.groups[g] t.groups[g]

theorem changesByCommit_of_moves {x y : Group} (h : x.limits.Moves y.limits) : ChangesByCommit x y := by
  obtain h | h := h
  · exact .inl ⟨congrArg Limits.nowBank h, congrArg Limits.generation h⟩
  · cases hpending : x.commitPending with
    | false =>
      have hstays : x.limits.taken = x.limits := if_neg (by simp [Group.limits, hpending])
      rw [hstays] at h
      exact .inl ⟨congrArg Limits.nowBank h, congrArg Limits.generation h⟩
    | true =>
      have htaken : x.limits.taken = (commitBanks x).limits := if_pos hpending
      rw [htaken] at h
      exact .inr ⟨congrArg Limits.nowBank h, congrArg Limits.nextBank h, congrArg Limits.generation h,
        congrArg Limits.commitPending h⟩

theorem KeepsBanks.lawful {s t : State} (h : KeepsBanks s t) : BanksLawful s t :=
  ⟨h.rising, fun _ _ g => changesByCommit_of_moves (h.limits g)⟩

theorem BanksLawful.refl (s : State) : BanksLawful s s := (KeepsBanks.refl s).lawful

/-- An act that is taken under a condition only. -/
theorem BanksLawful.ite {s t : State} {b : Bool} (h : BanksLawful s t) : BanksLawful s (if b then t else s) := by
  cases b
  · exact .refl s
  · exact h

/-! ## Part reset (R20, R191) -/

theorem partReset_rising (p : Power) {s : State} (h : BanksRising s) : BanksRising (partReset p s) := by
  obtain ⟨hgroups, _⟩ := reset_banksRising
  obtain ⟨_, _, hgood⟩ := h
  refine ⟨hgroups, nofun, fun c hc => ?_⟩
  rw [partReset_store] at hc
  obtain ⟨_, himage⟩ | ⟨_, himage | ⟨d, k, himage, hk⟩⟩ := imageAfterReset_cases s <;> rw [himage] at hc
  · exact hgood c hc
  · cases hc
  · cases (imageCondition_bad hk).symm.trans hc

/-- A part reset leads to BYPASS, where the law of R115 does not speak. -/
theorem partReset_banksLawful (p : Power) (s : State) : BanksLawful s (partReset p s) := ⟨partReset_rising p, nofun⟩

theorem resetPartTimeOut_banksLawful (s : State) : BanksLawful s (resetPartTimeOut s) := by
  obtain h | h := resetPartTimeOut_cases s <;> rw [h]
  · exact .refl s
  · exact partReset_banksLawful ..

/-! ## Start-up (R192 to R195) -/

/-- Each group's two banks are loaded from one NOW bank (R106, R193). -/
theorem loadTables_rising {c : ImageContents} (hc : ContentsRising c) (d : Bool) {s : State} (h : BanksRising s) :
    BanksRising (loadTables c d s) := by
  obtain ⟨_, hstored⟩ := h
  refine ⟨fun g => ?_, hstored⟩
  have hgroup : (loadTables c d s).groups[g] = loadGroup c.records[g] c.nowBanks[g] s.groups[g] := ofFn_get _ g
  rw [hgroup]
  exact ⟨hc g, hc g⟩

theorem defaultContents_rising (a : Addr) : ContentsRising (defaultContents a) := fun g => by
  have hbank : (defaultContents a).nowBanks[g] = defaultBank := Vector.getElem_replicate ..
  exact hbank ▸ bankRising_default

/-- Start-up begins in BYPASS, where the law of R115 does not speak. -/
theorem startUp_banksLawful {s u : State} (hstarting : s.startingUp = true) (h : BanksRising s → BanksRising u) :
    BanksLawful s (endStartUp u) :=
  ⟨h, fun hin => nomatch hin.symm.trans (switch_of_startingUp hstarting)⟩

theorem startOnDefaults_banksLawful {s : State} (hstarting : s.startingUp = true) :
    BanksLawful s (startOnDefaults s) :=
  startUp_banksLawful hstarting (loadTables_rising (defaultContents_rising _) true)

theorem startOnImage_banksLawful {s : State} {c : ImageContents} (hstarting : s.startingUp = true)
    (hgood : imageCondition s.store.image = .good c) : BanksLawful s (startOnImage c s) := by
  have enabled (u : State) (g : GroupId) : KeepsBanks u (enableAtStart u g) := by
    unfold enableAtStart
    split
    · exact enableGroup_keepsBanks g u
    · exact .refl u
  refine startUp_banksLawful hstarting fun hs => (KeepsBanks.foldl enabled groupIxs _).rising ?_
  have ⟨_, _, hcontents⟩ := hs
  exact loadTables_rising (hcontents c hgood) false hs

theorem finishImageRead_banksLawful (s : State) : BanksLawful s (finishImageRead s) := by
  unfold finishImageRead
  split
  · rename_i hstarting
    split
    · rename_i hgood
      exact startOnImage_banksLawful hstarting hgood
    · exact startOnDefaults_banksLawful hstarting
    · exact startOnDefaults_banksLawful hstarting
  · exact .refl s

theorem imageReadTimeOut_banksLawful (s : State) : BanksLawful s (imageReadTimeOut s) := by
  unfold imageReadTimeOut
  split
  · rename_i hstarting
    exact startOnDefaults_banksLawful hstarting.1
  · exact .refl s

theorem imageReadTimeOut_inLine {s : State} (hin : s.switch = .inLine) : imageReadTimeOut s = s :=
  if_neg fun hstarting => nomatch hin.symm.trans (switch_of_startingUp hstarting.1)

/-! ## The end of transmissions (R3, R186) -/

theorem loseLink_banksLawful (p : Port) (s : State) : BanksLawful s (loseLink p s) := by
  have freed := setPort_keepsBanks p { link := .down, sending := none } s
  have dropped (u : State) : KeepsBanks u (setForwardDrop u) := .of_same rfl rfl rfl
  unfold loseLink abandon
  split
  · dsimp only
    split
    · split
      · exact ⟨partReset_rising _ ∘ freed.rising, nofun⟩
      · split
        · exact (freed.trans (dropped _)).lawful
        · exact freed.lawful
    · exact freed.lawful
  · exact .refl s

theorem completeTransmission_banksLawful (p : Port) (s : State) : BanksLawful s (completeTransmission p s) := by
  unfold completeTransmission
  split
  · split
    · exact partReset_banksLawful ..
    · exact (setPort_keepsBanks ..).lawful
  · exact .refl s

/-! ## One millisecond -/

theorem tick_banksLawful (s : State) : BanksLawful s (tick s) := by
  unfold tick takeDue
  split
  · refine ⟨fun hs => ?_, fun hin hout => ?_⟩
    · have read := (imageReadTimeOut_banksLawful s).rising hs
      have stored := (storeTimeOut_keepsBanks _).rising read
      exact (clocks_keepBanks _).rising ((resetPartTimeOut_banksLawful _).rising stored)
    · rw [imageReadTimeOut_inLine hin] at hout ⊢
      obtain h | h := resetPartTimeOut_cases (storeTimeOut s) <;> rw [h] at hout ⊢
      · exact ((storeTimeOut_keepsBanks s).trans (clocks_keepBanks _)).lawful.commits hin hout
      · exact nomatch hout.symm.trans (clocks_keepBanks _).switch
  · exact .refl s

/-! ## The checks before a request is served (R174) -/

/-- Serving a request leads from its state to one related to it by `R`, whatever the request and the state. -/
def ServesBy (R : State → State → Prop) (serve : Request → State → Reply) : Prop := ∀ r s, R s (serve r s).state

section
variable {R : State → State → Prop}

theorem withArgs_servesBy (hR : ∀ s, R s s) (n : Nat) {serve : Request → State → Reply} (h : ServesBy R serve) :
    ServesBy R (withArgs n serve) := by
  intro r s
  unfold withArgs
  split
  · exact h r s
  · exact hR s

theorem withGroup_servesBy (hR : ∀ s, R s s) {serve : GroupId → State → Reply} (h : ∀ g s, R s (serve g s).state) :
    ServesBy R (withGroup serve) := by
  intro r s
  unfold withGroup
  split
  · exact h _ s
  · exact hR s

theorem withSlot_servesBy (hR : ∀ s, R s s) {serve : CaptureIx → State → Reply} (h : ∀ i s, R s (serve i s).state) :
    ServesBy R (withSlot serve) := by
  intro r s
  unfold withSlot
  split
  · exact h _ s
  · exact hR s

theorem withTable_servesBy (hR : ∀ s, R s s) (n : Nat) {serve : Request → State → Reply} (h : ServesBy R serve) :
    ServesBy R (withTable n serve) := by
  refine withArgs_servesBy hR 2 fun r s => ?_
  split
  · exact hR s
  · exact withArgs_servesBy hR n h r s

end

/-! ## Requests that only read (R23, R43, R85, R111, R170) -/

theorem serveReadStream_state (r : Request) (s : State) : (serveReadStream r s).state = s := by
  unfold serveReadStream
  split <;> rfl

theorem serveReadGroup_state (r : Request) (s : State) : (serveReadGroup r s).state = s := by
  unfold serveReadGroup
  split <;> rfl

theorem serveReadLimits_state (r : Request) (s : State) : (serveReadLimits r s).state = s := by
  unfold serveReadLimits
  split
  · split <;> rfl
  · rfl

theorem serveReadArray_state (r : Request) (s : State) : (serveReadArray r s).state = s := by
  unfold serveReadArray
  split <;> rfl

theorem serveReadCapture_state (r : Request) (s : State) : (serveReadCapture r s).state = s := by
  unfold serveReadCapture
  split
  · dsimp only
    split
    · rfl
    · split <;> rfl
  · rfl

theorem serveReadStatus_state (r : Request) (s : State) : (serveReadStatus r s).state = s := by
  unfold serveReadStatus
  split <;> rfl

theorem servesBy_of_state {R : State → State → Prop} (hR : ∀ s, R s s) {serve : Request → State → Reply}
    (h : ∀ r s, (serve r s).state = s) : ServesBy R serve := fun r s => (h r s).symm ▸ hR s

/-! ## Writes of the tables (R22, R42, R109, R180) -/

theorem serveWriteStream_keepsBanks : ServesBy KeepsBanks serveWriteStream := by
  intro r s
  unfold serveWriteStream
  split
  · split
    · exact .refl s
    · exact .of_same rfl rfl rfl
  · exact .refl s

theorem serveWriteGroup_keepsBanks : ServesBy KeepsBanks serveWriteGroup := by
  intro r s
  unfold serveWriteGroup
  split
  · split
    · exact .refl s
    · exact .at_group rfl rfl rfl (.refl _)
  · exact .refl s

theorem serveWriteSettings_keepsBanks : ServesBy KeepsBanks serveWriteSettings := by
  intro r s
  unfold serveWriteSettings
  dsimp only
  split
  · exact .of_same rfl rfl rfl
  · exact .refl s

/-- An act at one group that keeps its banks rising and changes its NOW bank by a commit alone. -/
theorem BanksLawful.at_group {s t : State} {g : GroupId} {x : Group} (hstore : t.store = s.store)
    (hgroups : t.groups = upd s.groups g x) (hrising : s.groups[g].limits.Rising → x.limits.Rising)
    (hx : ChangesByCommit s.groups[g] x) : BanksLawful s t := by
  refine ⟨fun ⟨hbanks, hstored⟩ => ⟨fun h => ?_, hstore ▸ hstored⟩, fun _ _ h => ?_⟩ <;> rw [hgroups, upd_get_fin] <;>
    split
  · exact hrising (hbanks g)
  · exact hbanks h
  · rename_i hg
    exact hg ▸ hx
  · exact .inl ⟨rfl, rfl⟩

/-- The ranges of R104 and the law of R110 in numbers. -/
theorem limitRow_wf_iff {r : LimitRow} :
    r.wf = true ↔ (r.notice ≤ 65535 ∧ r.alert ≤ 65535 ∧ r.trip ≤ 65535) ∧ (r.alert = 0 ∨ r.notice ≤ r.alert) ∧
      (r.trip = 0 ∨ r.notice ≤ r.trip ∧ r.alert ≤ r.trip) := by
  simp only [LimitRow.wf, Bool.and_eq_true, Bool.or_eq_true, decide_eq_true_eq, and_assoc]

/-- Thresholds of 16 bits meet the law of R110 once they are clamped. -/
theorem clampLimitRow_wf {r : LimitRow} (hnotice : r.notice ≤ 65535) (halert : r.alert ≤ 65535)
    (htrip : r.trip ≤ 65535) : (clampLimitRow r).wf = true := by
  rw [limitRow_wf_iff]
  dsimp only [clampLimitRow]
  split <;> split <;> omega

theorem limitRowArg_clamped_wf (b : List Byte) (k : Nat) : (clampLimitRow (limitRowArg b k)).wf = true := by
  have h16 (i : Nat) : beNat b i 2 ≤ 65535 := Nat.le_of_lt_succ (beNat_lt b i 2)
  exact clampLimitRow_wf (h16 _) (h16 _) (h16 _)

theorem writtenBank_get (b : List Byte) (first count : Nat) (bank : Vector LimitRow 19) (k : Fin 19) :
    (writtenBank b first count bank)[k] =
      if namesRow first count k then clampLimitRow (limitRowArg b (k.val - first)) else bank[k] := ofFn_get _ k

theorem writtenBank_rising (b : List Byte) (first count : Nat) {bank : Vector LimitRow 19} (h : BankRising bank) :
    BankRising (writtenBank b first count bank) := by
  intro k
  rw [writtenBank_get]
  split
  · exact limitRowArg_clamped_wf ..
  · exact h k

theorem writeLimits_banksLawful (g : GroupId) (b : List Byte) (first count : Nat) (s : State) :
    BanksLawful s (writeLimits g b first count s) := by
  refine .at_group rfl rfl (fun hbanks => ?_) (.inl ⟨rfl, rfl⟩)
  obtain ⟨hnow, hnext⟩ : BankRising s.groups[g].nowBank ∧ BankRising s.groups[g].nextBank := hbanks
  show BankRising s.groups[g].nowBank ∧ BankRising (writtenBank b first count s.groups[g].nextBank)
  exact ⟨hnow, writtenBank_rising b first count hnext⟩

theorem serveWriteLimits_banksLawful : ServesBy BanksLawful serveWriteLimits := by
  intro r s
  unfold serveWriteLimits
  split
  · exact .refl s
  · dsimp only
    split
    · exact .refl s
    · split
      · exact .refl s
      · split
        · exact .refl s
        · rw [limitReply_state]
          exact writeLimits_banksLawful ..

/-! ## The requests that concern one group -/

/-- A commit is taken at a disabled group, and pends at an enabled one (R112, R113). -/
theorem serveCommit_banksLawful (g : GroupId) (s : State) : BanksLawful s (serveCommit g s).state := by
  show BanksLawful s (commitAt g s)
  unfold commitAt
  split
  · exact .at_group rfl rfl id (.inl ⟨rfl, rfl⟩)
  · exact .at_group rfl rfl (fun ⟨_, hnext⟩ => ⟨hnext, hnext⟩) (.inr ⟨rfl, rfl, rfl, rfl⟩)

theorem serveEnable_keepsBanks (g : GroupId) (s : State) : KeepsBanks s (serveEnable g s).state := by
  unfold serveEnable
  split
  · exact .refl s
  · split
    · exact .refl s
    · exact enableGroup_keepsBanks g s

theorem serveDisable_keepsBanks (g : GroupId) (s : State) : KeepsBanks s (serveDisable g s).state := by
  unfold serveDisable
  split
  · exact disableGroup_keepsBanks g s
  · exact .refl s

theorem serveReleaseTrip_keepsBanks (g : GroupId) (s : State) : KeepsBanks s (serveReleaseTrip g s).state := by
  unfold serveReleaseTrip
  split
  · exact .refl s
  · split
    · exact .refl s
    · exact actOn_keepsBanks (f := releaseView) (fun _ _ => .refl _) g s

theorem serveSnap_keepsBanks (g : GroupId) (s : State) : KeepsBanks s (serveSnap g s).state := by
  unfold serveSnap
  split
  · split
    · exact .of_same rfl rfl rfl
    · exact .refl s
  · exact .refl s

theorem serveRestart_keepsBanks : ServesBy KeepsBanks serveRestart := by
  intro r s
  rw [serveRestart, done_state]
  exact restartAnalysis_keepsBanks s

/-! ## The requests that concern the part -/

theorem serveHold_keepsBanks (i : CaptureIx) (s : State) : KeepsBanks s (serveHold i s).state := by
  unfold serveHold
  dsimp only
  split
  · exact .refl s
  · split
    · exact .refl s
    · exact .of_same rfl rfl rfl

theorem serveRelease_keepsBanks (i : CaptureIx) (s : State) : KeepsBanks s (serveRelease i s).state := by
  unfold serveRelease
  split
  · exact .refl s
  · exact .of_same rfl rfl rfl

theorem serveStoreConfig_keepsBanks : ServesBy KeepsBanks serveStoreConfig := by
  intro r s
  unfold serveStoreConfig
  split
  · exact .refl s
  · exact beginStore_keepsBanks s

theorem serveResetPart_keepsBanks : ServesBy KeepsBanks serveResetPart := by
  intro r s
  unfold serveResetPart
  split
  · exact .refl s
  · exact .of_same rfl rfl rfl

/-! ## The step -/

/-- The request that leaves its queue and the answer that joins its own are no part of the banks. -/
theorem takeRequest_banksLawful (mine : Request → Bool) {serve : Request → State → Reply}
    (h : ServesBy BanksLawful serve) (s : State) : BanksLawful s (takeRequest mine serve s) := by
  obtain hnone | ⟨r, rest, _, _, _, _, htaken⟩ := takeRequest_cases mine serve s
  · rw [hnone]
    exact .refl s
  · obtain ⟨hrising, hcommits⟩ := h r (leaveQueue r rest s)
    rw [htaken]
    obtain hp | hp := placeAnswer_cases r (serve r (leaveQueue r rest s)) <;> rw [hp] <;> exact ⟨hrising, hcommits⟩

/-- Every command is an act that is lawful for the limit banks, with the lines driven after it. -/
theorem exec_banksLawful (c : Instr) (s : State) : ∃ t, exec c s = .next (driveLines t) ∧ BanksLawful s t := by
  have serves (mine : Request → Bool) (n : Nat) {serve : Request → State → Reply} (h : ServesBy BanksLawful serve) :
      BanksLawful s (takeRequest mine (withArgs n serve) s) :=
    takeRequest_banksLawful mine (withArgs_servesBy BanksLawful.refl n h) s
  have reads (mine : Request → Bool) (n : Nat) {serve : Request → State → Reply} (h : ∀ r s, (serve r s).state = s) :
      BanksLawful s (takeRequest mine (withArgs n serve) s) :=
    serves mine n (servesBy_of_state BanksLawful.refl h)
  have entry (mine : Request → Bool) (n : Nat) {serve : Request → State → Reply} (h : ServesBy BanksLawful serve) :
      BanksLawful s (takeRequest mine (withTable n serve) s) :=
    takeRequest_banksLawful mine (withTable_servesBy BanksLawful.refl n h) s
  have readsEntry (mine : Request → Bool) (n : Nat) {serve : Request → State → Reply}
      (h : ∀ r s, (serve r s).state = s) : BanksLawful s (takeRequest mine (withTable n serve) s) :=
    entry mine n (servesBy_of_state BanksLawful.refl h)
  have atGroup (mine : Request → Bool) {serve : GroupId → State → Reply}
      (h : ∀ g s, BanksLawful s (serve g s).state) :
      BanksLawful s (takeRequest mine (withArgs 1 (withGroup serve)) s) :=
    serves mine 1 (withGroup_servesBy BanksLawful.refl h)
  have atSlot (mine : Request → Bool) {serve : CaptureIx → State → Reply}
      (h : ∀ i s, KeepsBanks s (serve i s).state) :
      BanksLawful s (takeRequest mine (withArgs 1 (withSlot serve)) s) :=
    serves mine 1 (withSlot_servesBy BanksLawful.refl fun i s => (h i s).lawful)
  have applied (g : GroupId) := (applyAt_keepsBanks g s).lawful
  cases c with
  | powerOn => exact ⟨_, rfl, partReset_banksLawful ..⟩
  | lossOfSupply => exact ⟨_, rfl, partReset_banksLawful ..⟩
  | nresetAssertion =>
    refine ⟨_, rfl, ?_⟩
    split
    · exact .refl s
    · exact partReset_banksLawful ..
  | nresetRelease =>
    refine ⟨_, rfl, ?_⟩
    split
    · exact KeepsBanks.lawful (.of_same rfl rfl rfl)
    · exact .refl s
  | imageRead => exact ⟨_, rfl, finishImageRead_banksLawful s⟩
  | imageReadTimeLimit => exact ⟨_, rfl, imageReadTimeOut_banksLawful s⟩
  | linkEstablished p => exact ⟨_, rfl, (establishLink_keepsBanks p s).lawful⟩
  | linkLoss p => exact ⟨_, rfl, loseLink_banksLawful p s⟩
  | frameArrival p f => exact ⟨_, rfl, (receiveFrame_keepsBanks p f s).lawful⟩
  | portATransmissionStart => exact ⟨_, rfl, (startPortA_keepsBanks s).lawful⟩
  | transmitArbiterChoice => exact ⟨_, rfl, (arbiterChoice_keepsBanks s).lawful⟩
  | transmissionComplete p => exact ⟨_, rfl, completeTransmission_banksLawful p s⟩
  | silenceDeadline i => exact ⟨_, rfl, (takeDeadline_keepsBanks s i).lawful⟩
  | rateIntervalEnd => exact ⟨_, rfl, (takeRateCheck_keepsBanks s).lawful⟩
  | applyEntry g => exact ⟨_, rfl, applied g⟩
  | cycleTooLate g => exact ⟨_, rfl, (applied g).ite⟩
  | acquisitionTimeout g => exact ⟨_, rfl, (applied g).ite⟩
  | holdoverWindowClose g => exact ⟨_, rfl, (applied g).ite⟩
  | evaluationCompletion => exact ⟨_, rfl, (completeEvaluation_keepsBanks s).lawful⟩
  | leak => exact ⟨_, rfl, (completeEvaluation_keepsBanks s).lawful.ite⟩
  | resetPartTimeLimit => exact ⟨_, rfl, resetPartTimeOut_banksLawful s⟩
  | storeCompletion => exact ⟨_, rfl, (completeStore_keepsBanks s).lawful⟩
  | storeReadBackFault => exact ⟨_, rfl, (faultStore_keepsBanks s).lawful⟩
  | storeTimeLimit => exact ⟨_, rfl, (storeTimeOut_keepsBanks s).lawful⟩
  | unsupported => exact ⟨_, rfl, takeRequest_banksLawful _ (fun _ s => .refl s) s⟩
  | identify => exact ⟨_, rfl, reads _ 0 fun _ _ => rfl⟩
  | readStatus => exact ⟨_, rfl, reads _ 1 serveReadStatus_state⟩
  | readEntryStream => exact ⟨_, rfl, readsEntry _ 2 serveReadStream_state⟩
  | readEntryGroup => exact ⟨_, rfl, readsEntry _ 2 serveReadGroup_state⟩
  | readEntryLimitBank => exact ⟨_, rfl, readsEntry _ 5 serveReadLimits_state⟩
  | readEntryPartSettings => exact ⟨_, rfl, readsEntry _ 2 fun _ _ => rfl⟩
  | writeEntryStream => exact ⟨_, rfl, entry _ 14 fun r s => (serveWriteStream_keepsBanks r s).lawful⟩
  | writeEntryGroup => exact ⟨_, rfl, entry _ 72 fun r s => (serveWriteGroup_keepsBanks r s).lawful⟩
  | writeEntryLimitBank => exact ⟨_, rfl, entry _ 4 serveWriteLimits_banksLawful⟩
  | writeEntryPartSettings => exact ⟨_, rfl, entry _ 11 fun r s => (serveWriteSettings_keepsBanks r s).lawful⟩
  | commitLimits => exact ⟨_, rfl, atGroup _ serveCommit_banksLawful⟩
  | groupEnable => exact ⟨_, rfl, atGroup _ fun g s => (serveEnable_keepsBanks g s).lawful⟩
  | groupDisable => exact ⟨_, rfl, atGroup _ fun g s => (serveDisable_keepsBanks g s).lawful⟩
  | readResult => exact ⟨_, rfl, atGroup _ fun _ s => .refl s⟩
  | readEvents => exact ⟨_, rfl, serves _ 1 fun _ _ => KeepsBanks.lawful (.of_same rfl rfl rfl)⟩
  | clearFirst => exact ⟨_, rfl, atGroup _ fun _ _ => KeepsBanks.lawful (.at_group rfl rfl rfl (.refl _))⟩
  | releaseTrip => exact ⟨_, rfl, atGroup _ fun g s => (serveReleaseTrip_keepsBanks g s).lawful⟩
  | snap => exact ⟨_, rfl, atGroup _ fun g s => (serveSnap_keepsBanks g s).lawful⟩
  | holdCapture => exact ⟨_, rfl, atSlot _ serveHold_keepsBanks⟩
  | releaseCapture => exact ⟨_, rfl, atSlot _ serveRelease_keepsBanks⟩
  | readCapture => exact ⟨_, rfl, reads _ 4 serveReadCapture_state⟩
  | readArray => exact ⟨_, rfl, reads _ 4 serveReadArray_state⟩
  | storeConfig => exact ⟨_, rfl, serves _ 0 fun r s => (serveStoreConfig_keepsBanks r s).lawful⟩
  | restartAnalysis => exact ⟨_, rfl, serves _ 0 fun r s => (serveRestart_keepsBanks r s).lawful⟩
  | resetPart => exact ⟨_, rfl, serves _ 0 fun r s => (serveResetPart_keepsBanks r s).lawful⟩

/-- Every step is lawful for the limit banks; the lines that it drives and the command that leaves the queue are no part
of them. -/
theorem step_banksLawful {s t : State} (h : step s = .next t) : BanksLawful s t := by
  obtain ⟨_, hstep⟩ | ⟨c, rest, _, hstep⟩ := step_cases s
  · obtain ⟨hrising, hcommits⟩ := tick_banksLawful s
    rw [hstep] at h
    cases h
    exact ⟨hrising, hcommits⟩
  · obtain ⟨u, hexec, hrising, hcommits⟩ := exec_banksLawful c (withPending rest s)
    rw [hstep, hexec] at h
    cases h
    exact ⟨hrising, hcommits⟩

/-- Settles O8: every step is lawful for the limit banks, the law of R110 among the rest. -/
theorem limitBanksStayRising : Obligations.LimitBanksStayRising := fun _ _ hs h => (step_banksLawful h).rising hs

/-- Settles O13: every step is lawful for the limit banks, the law of R115 among the rest. -/
theorem nowBanksChangeOnlyByCommits : Obligations.NowBanksChangeOnlyByCommits := fun _ _ g hin h hout =>
  (step_banksLawful h).commits hin hout g

end Sys2Proof.Machine
end

section
/-! Grading (R118, R119): the level of a value under a row, and the window level as the highest of its cells. -/

namespace Sys2Proof.Machine

/-! ## The level of a value (R118) -/

/-- A value exceeds a level of a row: its threshold is nonzero and strictly less than the value (R118). -/
def ExceedsRow (row : LimitRow) (v : Nat) (l : RowLevel) : Prop := thresholdOf row l ≠ 0 ∧ thresholdOf row l < v

/-- The level given is exceeded, unless it is CLEAR, and no higher one is. -/
theorem gradeValue_highest (row : LimitRow) (v : Nat) :
    (gradeValue row v ≠ .clear → ExceedsRow row v (gradeValue row v)) ∧
      ∀ h : RowLevel, (gradeValue row v).rank < h.rank → ¬ExceedsRow row v h := by
  unfold gradeValue
  split
  · rename_i htrip
    exact ⟨fun _ => htrip, fun h hrank => by cases h <;> simp [RowLevel.rank] at hrank⟩
  · rename_i htrip
    split
    · rename_i halert
      refine ⟨fun _ => halert, fun h hrank => ?_⟩
      cases h with
      | trip => exact htrip
      | _ => simp [RowLevel.rank] at hrank
    · rename_i halert
      split
      · rename_i hnotice
        refine ⟨fun _ => hnotice, fun h hrank => ?_⟩
        cases h with
        | trip => exact htrip
        | alert => exact halert
        | _ => simp [RowLevel.rank] at hrank
      · rename_i hnotice
        refine ⟨fun hclear => absurd rfl hclear, fun h hrank => ?_⟩
        cases h with
        | trip => exact htrip
        | alert => exact halert
        | notice => exact hnotice
        | clear => simp [RowLevel.rank] at hrank

/-! ## The window level (R119) -/

theorem le_maxLevel_left (a b : RowLevel) : a.rank ≤ (maxLevel a b).rank := by
  unfold maxLevel
  split <;> omega

theorem le_maxLevel_right (a b : RowLevel) : b.rank ≤ (maxLevel a b).rank := by
  unfold maxLevel
  split <;> omega

theorem maxLevel_cases (a b : RowLevel) : maxLevel a b = a ∨ maxLevel a b = b := by
  unfold maxLevel
  split
  · exact .inr rfl
  · exact .inl rfl

theorem le_raiseLevel (w : RowLevel) (c : Cell) : w.rank ≤ (raiseLevel w c).rank := by
  cases c with
  | value v l => exact le_maxLevel_left w l
  | absent => exact le_rfl
  | notEvaluated => exact le_rfl

/-- A cell taken in raises W to its own level, or leaves it. -/
theorem raiseLevel_cases (w : RowLevel) (c : Cell) :
    raiseLevel w c = w ∨ ∃ v, c = .value v (raiseLevel w c) := by
  cases c with
  | value v l =>
    obtain h | h := maxLevel_cases w l
    · exact .inl h
    · exact .inr ⟨v, congrArg (Cell.value v) h.symm⟩
  | absent => exact .inl rfl
  | notEvaluated => exact .inl rfl

/-- W begun at `w` and raised by the cells of a list is no lower than `w` or any valued cell, and is `w` or the level of
one of them. -/
theorem foldl_raiseLevel (cells : List Cell) (w : RowLevel) :
    w.rank ≤ (cells.foldl raiseLevel w).rank ∧
      (∀ v l, .value v l ∈ cells → l.rank ≤ (cells.foldl raiseLevel w).rank) ∧
      (cells.foldl raiseLevel w = w ∨ ∃ v, .value v (cells.foldl raiseLevel w) ∈ cells) := by
  induction cells generalizing w with
  | nil => exact ⟨le_rfl, nofun, .inl rfl⟩
  | cons c cells ih =>
    obtain ⟨hbegin, hcells, hreached⟩ := ih (raiseLevel w c)
    refine ⟨(le_raiseLevel w c).trans hbegin, fun v l hmem => ?_, ?_⟩
    · obtain rfl | hmem := List.mem_cons.mp hmem
      · exact (le_maxLevel_right w l).trans hbegin
      · exact hcells v l hmem
    · obtain hstays | ⟨v, hmem⟩ := hreached
      · rw [List.foldl_cons, hstays]
        obtain hw | ⟨v, hc⟩ := raiseLevel_cases w c
        · exact .inl hw
        · exact .inr ⟨v, List.mem_cons.mpr (.inl hc.symm)⟩
      · exact .inr ⟨v, List.mem_cons_of_mem c hmem⟩

/-- Settles O37: the level of a value by the order in which the thresholds are tried, and W by the cells taken in. -/
theorem gradingTakesTheHighestExceededLevel : Obligations.GradingTakesTheHighestExceededLevel := by
  refine ⟨fun row v l hl => hl ▸ gradeValue_highest row v, fun cells => ?_⟩
  obtain ⟨_, hcells, hreached⟩ := foldl_raiseLevel cells.toList .clear
  refine ⟨fun i v l hi => hcells v l ?_, hreached.imp_right fun ⟨v, hmem⟩ => ?_⟩
  · exact hi ▸ Vector.mem_toList_iff.mpr (Vector.getElem_mem i.isLt)
  · obtain ⟨i, hlt, hi⟩ := Vector.mem_iff_getElem.mp (Vector.mem_toList_iff.mp hmem)
    exact ⟨⟨i, hlt⟩, v, hi⟩

end Sys2Proof.Machine
end

section
/-! WRITE ENTRY of the limit bank (R109, R110) and COMMIT LIMITS (R112, R113, R115, R117). -/

namespace Sys2Proof.Machine

/-! ## The rows that the arguments carry (R109, R199) -/

/-- A row stands in six bytes, two for each threshold (R199). -/
theorem limitRowArg_eq (b : List Byte) (k : Nat) :
    limitRowArg b k =
      { notice := numberAt b (4 + 6 * k) 2, alert := numberAt b (4 + 6 * k + 2) 2,
        trip := numberAt b (4 + 6 * k + 4) 2 } := by
  simp only [limitRowArg, numberAt_eq_beNat, Nat.add_right_comm 4 (6 * k)]

theorem namesRow_iff {first count : Nat} {k : Fin 19} :
    namesRow first count k = true ↔ first ≤ k.val ∧ k.val < first + count := by
  simp [namesRow]

theorem writtenBank_named {b : List Byte} {first count : Nat} {bank : Vector LimitRow 19} {k : Fin 19}
    (h : first ≤ k.val ∧ k.val < first + count) :
    (writtenBank b first count bank)[k] = clampLimitRow (limitRowArg b (k.val - first)) :=
  (writtenBank_get ..).trans (if_pos (namesRow_iff.mpr h))

theorem writtenBank_other {b : List Byte} {first count : Nat} {bank : Vector LimitRow 19} {k : Fin 19}
    (h : ¬(first ≤ k.val ∧ k.val < first + count)) : (writtenBank b first count bank)[k] = bank[k] :=
  (writtenBank_get ..).trans (if_neg (namesRow_iff.not.mpr h))

/-! ## The set of clamped rows (R109) -/

/-- A set gathered row by row holds the rows of the list that the condition holds of. -/
theorem getLsbD_gathered (p : Fin 19 → Bool) (l : List (Fin 19)) (w : BitVec 19) (n : Fin 19) :
    (l.foldl (fun w k => if p k then w ||| (1#19 <<< k.val) else w) w).getLsbD n.val = true ↔
      w.getLsbD n.val = true ∨ (n ∈ l ∧ p n = true) := by
  induction l generalizing w with
  | nil => simp
  | cons k l ih =>
    have hbit : (if p k then w ||| (1#19 <<< k.val) else w).getLsbD n.val = true ↔
        w.getLsbD n.val = true ∨ (n = k ∧ p n = true) := by
      have hplace : (1#19 <<< k.val).getLsbD n.val = true ↔ n = k := by
        simp only [BitVec.getLsbD_shiftLeft, BitVec.getLsbD_one, Bool.and_eq_true, decide_eq_true_eq,
          Bool.not_eq_true', decide_eq_false_iff_not, Fin.ext_iff]
        omega
      split
      · rename_i hp
        rw [BitVec.getLsbD_or, Bool.or_eq_true, hplace]
        exact or_congr_right ⟨fun hk => ⟨hk, hk ▸ hp⟩, And.left⟩
      · rename_i hp
        exact ⟨.inl, fun hw => hw.resolve_right fun ⟨hk, hn⟩ => hp (hk ▸ hn)⟩
    rw [List.foldl_cons, ih, hbit, List.mem_cons, or_and_right, or_assoc]

theorem clampedRowSet_getLsbD (b : List Byte) (first count : Nat) (bank : Vector LimitRow 19) (k : Fin 19) :
    (clampedRowSet b first count).getLsbD k.val = true ↔
      (first ≤ k.val ∧ k.val < first + count) ∧
        (writtenBank b first count bank)[k] ≠ limitRowArg b (k.val - first) := by
  rw [clampedRowSet, getLsbD_gathered]
  simp only [BitVec.getLsbD_zero, Bool.false_eq_true, false_or, List.mem_finRange, true_and, Bool.and_eq_true,
    namesRow_iff, decide_eq_true_eq]
  exact and_congr_right fun hk => by rw [writtenBank_named hk]

/-- A set of rows is empty exactly when it holds none. -/
theorem rowSet_eq_zero_iff {w : BitVec 19} : w = 0 ↔ ∀ k : Fin 19, ¬w.getLsbD k.val = true := by
  constructor
  · rintro rfl k
    simp
  · intro h
    refine BitVec.eq_of_getLsbD_eq fun i hi => ?_
    rw [eq_false_of_ne_true (h ⟨i, hi⟩)]
    exact BitVec.getLsbD_zero.symm

theorem limitReply_eq (rows : BitVec 19) (s : State) :
    limitReply rows s =
      reply (if rows = 0 then .done else .doneClamped) (if rows = 0 then .empty else .clampedRows rows) s := by
  unfold limitReply
  split <;> rfl

/-! ## The write -/

theorem covers_iff {r : Request} {n : Nat} : covers r n = true ↔ n ≤ r.argLen ∧ r.argLen ≤ r.body.length := by
  simp [covers]

theorem serveWriteLimits_refused {r : Request} (h : 8 ≤ argOf r 1 ∨ rowsInRange (argOf r 2) (argOf r 3) = false)
    (s : State) : serveWriteLimits r s = refuse .badField s := by
  unfold serveWriteLimits
  obtain hgroup | hrows := h
  · rw [groupArg_eq_none hgroup]
  · cases groupArg (argOf r 1) <;> simp [hrows]

section
variable {r : Request} {g : GroupId} (s : State) (hg : groupArg (argOf r 1) = some g)
  (hrows : rowsInRange (argOf r 2) (argOf r 3) = true)
include hg hrows

theorem serveWriteLimits_short (h : covers r (4 + 6 * argOf r 3) = false) :
    serveWriteLimits r s = refuse .badLength s := by
  simp [serveWriteLimits, hg, hrows, h]

theorem serveWriteLimits_pending (h : covers r (4 + 6 * argOf r 3) = true)
    (hpending : s.groups[g].commitPending = true) : serveWriteLimits r s = refuse .commitPending s := by
  unfold serveWriteLimits
  rw [hg]
  dsimp only
  rw [if_neg (not_not.mpr hrows), if_neg (not_not.mpr h), if_pos hpending]

theorem serveWriteLimits_taken (h : covers r (4 + 6 * argOf r 3) = true) (hfree : s.groups[g].commitPending = false) :
    serveWriteLimits r s =
      limitReply (clampedRowSet r.body (argOf r 2) (argOf r 3)) (writeLimits g r.body (argOf r 2) (argOf r 3) s) := by
  unfold serveWriteLimits
  rw [hg]
  dsimp only
  rw [if_neg (not_not.mpr hrows), if_neg (not_not.mpr h), if_neg (ne_true_of_eq_false hfree)]

end

/-- Settles O49: the range of rows, the three refusals, and the write with its rows, its status and the set of clamped
rows. -/
theorem limitWritesGoToNextAlone : Obligations.LimitWritesGoToNextAlone := by
  refine ⟨fun _ _ => rowsInRange_iff, fun s r rest h => ⟨fun hout =>
    serves_of_names rfl h (serveWriteLimits_refused hout _), fun g hg hrows => ⟨fun hshort => ?_, fun hlong => ?_⟩⟩⟩
  · refine serves_of_names rfl h (serveWriteLimits_short _ hg hrows (eq_false_of_ne_true fun hcovers => ?_))
    exact absurd (covers_iff.mp hcovers).1 (Nat.not_le.mpr hshort)
  · have ⟨_, _, _, hfixed⟩ := h
    have hcovers : covers r (4 + 6 * argOf r 3) = true := covers_iff.mpr ⟨hlong, (covers_iff.mp hfixed).2⟩
    refine ⟨fun hpending => serves_of_names rfl h (serveWriteLimits_pending _ hg hrows hcovers hpending),
      fun hfree => ?_⟩
    intro named carried
    have hcarried (k : Fin 19) : limitRowArg r.body (k.val - argOf r 2) = carried k := limitRowArg_eq ..
    have hset (k : Fin 19) := clampedRowSet_getLsbD r.body (argOf r 2) (argOf r 3) s.groups[g].nextBank k
    refine ⟨writtenBank r.body (argOf r 2) (argOf r 3) s.groups[g].nextBank, _, _,
      serves_of_names rfl h ((serveWriteLimits_taken (taken r rest s) hg hrows hcovers hfree).trans (limitReply_eq ..)),
      fun k => ?_,
      fun hsame => ?_, fun ⟨k, hk⟩ => ?_⟩
    · exact ⟨fun hk => hcarried k ▸ writtenBank_named hk, writtenBank_other⟩
    · have hempty : clampedRowSet r.body (argOf r 2) (argOf r 3) = 0 :=
        rowSet_eq_zero_iff.mpr fun k hk => ((hset k).mp hk).2 ((hsame k ((hset k).mp hk).1).trans (hcarried k).symm)
      exact ⟨if_pos hempty, if_pos hempty⟩
    · have hsome : clampedRowSet r.body (argOf r 2) (argOf r 3) ≠ 0 := fun hempty =>
        rowSet_eq_zero_iff.mp hempty k ((hset k).mpr (hcarried k ▸ hk))
      exact ⟨if_neg hsome, _, if_neg hsome, fun k => hcarried k ▸ hset k⟩

/-! ## COMMIT LIMITS (R112, R113) -/

theorem commitAt_enabled {s : State} {g : GroupId} (h : s.groups[g].enabled = true) :
    commitAt g s = { s with groups := upd s.groups g { s.groups[g] with commitPending := true } } := if_pos h

/-- The commit of a disabled group is taken at once, with its event (R112, R115, R117). -/
theorem commitAt_disabled {s : State} {g : GroupId} (h : s.groups[g].enabled = false) :
    commitAt g s =
      { s with
          groups := upd s.groups g (commitBanks s.groups[g])
          events := createEvent s.timer (.limitsCommitted g (s.groups[g].generation + 1)) none s.events } :=
  if_neg (ne_true_of_eq_false h)

/-- The answer to COMMIT LIMITS shows the group as it then stands (R112, R113). -/
theorem serveCommit_of_group {s u : State} {g : GroupId} {x : Group} (hu : commitAt g s = u)
    (hx : u.groups = upd s.groups g x) : serveCommit g s = done (.commit x.generation x.commitPending) u := by
  have hgroup : u.groups[g] = x := by rw [hx, upd_get_same]
  rw [serveCommit, hu, hgroup]

/-- Settles O51: the group out of range, and the commit of an enabled group and of a disabled one. -/
theorem commitLimitsIsTakenOrPends : Obligations.CommitLimitsIsTakenOrPends := by
  intro s r rest h
  refine ⟨fun hout => serves_of_asks rfl h (withGroup_refused hout _), fun g hg => ⟨fun henabled => ?_,
    fun hdisabled => ?_⟩⟩
  · exact serves_at_group rfl h hg (serveCommit_of_group (commitAt_enabled (s := taken r rest s) henabled) rfl)
  · exact serves_at_group rfl h hg (serveCommit_of_group (commitAt_disabled (s := taken r rest s) hdisabled) rfl)

end Sys2Proof.Machine
end

section
/-! The Level Unit's handling of a window: each of the four steps by its cases (R123 to R127), the bounds of R122
through them, and the TRIPPED unit, which no window moves (R128). -/

namespace Sys2Proof.Machine

section
variable {cfg : GroupRecord} {u : LevelUnit}

/-! ## The leak (R125) -/

theorem leakStep_off (h : cfg.leakPeriod = 0) : leakStep cfg u = u := if_pos h

theorem leakStep_counts (h : u.leakCounter + 1 < cfg.leakPeriod) :
    leakStep cfg u = { u with leakCounter := u.leakCounter + 1 } := by
  have hoff : cfg.leakPeriod ≠ 0 := by omega
  have hdue : ¬leakDue cfg u = true := fun hdue => Nat.not_le.mpr h (leakDue_iff.mp hdue).2
  rw [leakStep, if_neg hoff, if_neg hdue]

theorem leakStep_leaks (h : leakDue cfg u = true) :
    leakStep cfg u = { u with leakCounter := 0, bucket := u.bucket - 1 } := by
  rw [leakStep, if_neg (leakDue_iff.mp h).1, if_pos h]

/-- The leak moves the leak counter, and takes at most one from the bucket. -/
theorem leakStep_cases (cfg : GroupRecord) (u : LevelUnit) :
    ∃ n bucket, bucket ≤ u.bucket ∧ leakStep cfg u = { u with leakCounter := n, bucket := bucket } := by
  unfold leakStep
  split
  · exact ⟨_, _, le_rfl, rfl⟩
  · split
    · exact ⟨_, _, Nat.sub_le .., rfl⟩
    · exact ⟨_, _, le_rfl, rfl⟩

/-! ## The run (R126) -/

theorem runStep_falls {w : RowLevel} {idle : Bool} (h : ¬(w = .trip ∧ ¬idle = true)) (degraded : Bool) :
    runStep w degraded idle u = { u with run := 0 } := if_neg h

/-- The run stays, falls to 0, or advances by one up to 255. -/
theorem runStep_cases (w : RowLevel) (degraded idle : Bool) (u : LevelUnit) :
    ∃ n, (n = u.run ∨ n = 0 ∨ n = min 255 (u.run + 1)) ∧ runStep w degraded idle u = { u with run := n } := by
  unfold runStep
  split
  · split
    · exact ⟨_, .inl rfl, rfl⟩
    · exact ⟨_, .inr (.inr rfl), rfl⟩
  · exact ⟨_, .inr (.inl rfl), rfl⟩

/-! ## The level (R127) -/

/-- What makes a unit TRIPPED: the trip function, and a run that has reached the trip persistence (R127). -/
def Trips (cfg : GroupRecord) (u : LevelUnit) : Prop :=
  cfg.tripFunction = true ∧ u.level ≠ .tripped ∧ cfg.tripPersistence ≤ u.run

/-- The level that the bucket gives, from the level that stands (R127). -/
def bucketLevel (cfg : GroupRecord) (bucket : Nat) : Level → Level
  | .normal => if cfg.bHi ≤ bucket then .alarm else .normal
  | .alarm => if bucket ≤ cfg.bLo then .normal else .alarm
  | .tripped => .tripped

theorem levelStep_trips (h : Trips cfg u) : levelStep cfg u = { u with level := .tripped } := by
  have hgiven : levelGiven cfg u = .tripped := if_pos h
  rw [levelStep, hgiven]

theorem levelStep_by_bucket (h : ¬Trips cfg u) :
    levelStep cfg u = { u with level := bucketLevel cfg u.bucket u.level } := by
  have hgiven : levelGiven cfg u = bucketLevel cfg u.bucket u.level := by
    refine (if_neg h).trans ?_
    cases hlevel : u.level <;> simp [bucketLevel]
  rw [levelStep, hgiven]

theorem levelStep_gives (h : ¬Trips cfg u) {l m : Level} (hlevel : u.level = l) (hm : bucketLevel cfg u.bucket l = m) :
    levelStep cfg u = { u with level := m } := by
  rw [levelStep_by_bucket h, hlevel, hm]

theorem levelStep_stays (h : ¬Trips cfg u) {l : Level} (hlevel : u.level = l) (hl : bucketLevel cfg u.bucket l = l) :
    levelStep cfg u = u := by
  rw [levelStep_gives h hlevel hl, ← hlevel]

/-- A TRIPPED unit has no way out of TRIPPED at a window (R128). -/
theorem levelStep_of_tripped (h : u.level = .tripped) : levelStep cfg u = u :=
  levelStep_stays (fun ⟨_, hnot, _⟩ => hnot h) h rfl

end

/-- Settles O36: the weights and the undegraded run by the definitions, the leak and the level case by case. -/
theorem theLevelUnitHandlesAWindowInFourSteps : Obligations.TheLevelUnitHandlesAWindowInFourSteps := by
  intro cfg w degraded idle u
  refine ⟨rfl, ⟨rfl, rfl, rfl, rfl, rfl⟩, ⟨leakStep_off, leakStep_counts, fun hon hdue =>
    leakStep_leaks (leakDue_iff.mpr ⟨hon, hdue.le⟩)⟩, ⟨rfl, rfl, ?_, fun hw => ?_⟩,
    fun hfunction hlevel hrun => levelStep_trips ⟨hfunction, hlevel, hrun⟩, fun h => ?_⟩
  · exact runStep_falls (fun hidle => hidle.2 rfl) degraded
  · exact runStep_falls (fun htrip => hw htrip.1) degraded
  · exact ⟨fun hl hb => levelStep_gives h hl (if_pos hb),
      fun hl hb => levelStep_stays h hl (if_neg (Nat.not_le.mpr hb)),
      fun hl hb => levelStep_gives h hl (if_pos hb),
      fun hl hb => levelStep_stays h hl (if_neg (Nat.not_le.mpr hb)),
      levelStep_of_tripped⟩

/-! ## The bounds and the TRIPPED unit through the four steps (R122, R128) -/

/-- The law of R122 for one unit. -/
def LevelUnit.Bounded (u : LevelUnit) : Prop := u.bucket ≤ 255 ∧ u.run ≤ 255

theorem LevelUnit.fresh_bounded : LevelUnit.fresh.Bounded := ⟨Nat.zero_le _, Nat.zero_le _⟩

section
variable (cfg : GroupRecord) (w : RowLevel) (degraded idle : Bool) {u : LevelUnit}

/-- The first three steps leave the level to the fourth. -/
theorem level_before_levelStep :
    (runStep w degraded idle (leakStep cfg (addStep cfg w degraded u))).level = u.level := by
  obtain ⟨_, _, _, hleak⟩ := leakStep_cases cfg (addStep cfg w degraded u)
  obtain ⟨_, _, hrun⟩ := runStep_cases w degraded idle (leakStep cfg (addStep cfg w degraded u))
  rw [hrun, hleak]
  rfl

/-- The add step bounds the bucket, whatever it was; the run advances to no more than 255. -/
theorem handleLevels_bounded (h : u.Bounded) : (handleLevels cfg w degraded idle u).Bounded := by
  obtain ⟨_, bucket, hbucket, hleak⟩ := leakStep_cases cfg (addStep cfg w degraded u)
  obtain ⟨n, hn, hrun⟩ := runStep_cases w degraded idle (leakStep cfg (addStep cfg w degraded u))
  have hadded : bucket ≤ 255 := hbucket.trans (Nat.min_le_left ..)
  rw [hleak] at hn
  rw [handleLevels, hrun, hleak]
  refine ⟨hadded, ?_⟩
  show n ≤ 255
  obtain rfl | rfl | rfl := hn
  · exact h.2
  · exact Nat.zero_le _
  · exact Nat.min_le_left ..

/-- No window moves a TRIPPED unit to another level (R128). -/
theorem handleLevels_of_tripped (h : u.level = .tripped) : (handleLevels cfg w degraded idle u).level = .tripped := by
  have hbefore := (level_before_levelStep cfg w degraded idle).trans h
  rw [handleLevels, levelStep_of_tripped hbefore, hbefore]

end

end Sys2Proof.Machine
end

section
/-! The three alarm lines after a step: every step ends by driving them from their conditions (R135 to R138). -/

namespace Sys2Proof.Machine

/-! ## What holds each line (R136, R137) -/

theorem holdsTrip_iff {x : Group} :
    holdsTrip x = true ↔ x.config.tripLine = true ∧ x.levelUnit.level = .tripped := by simp [holdsTrip]

theorem ne_normal_iff {l : Level} : l ≠ .normal ↔ l = .alarm ∨ l = .tripped := by cases l <;> simp

theorem holdsAlert_iff {x : Group} :
    holdsAlert x = true ↔ x.enabled = true ∧ x.config.alertLine = true ∧
      (x.levelUnit.level = .alarm ∨ x.levelUnit.level = .tripped) := by
  rw [holdsAlert, Bool.and_eq_true, Bool.and_eq_true, decide_eq_true_iff, ne_normal_iff, and_assoc]

theorem holdsSupv_iff {x : Group} : holdsSupv x = true ↔ x.tracker.timing = .noSignal := decide_eq_true_iff

/-- A walk over the groups finds one that meets the condition wherever there is one. -/
theorem any_groupIxs_iff {p : GroupId → Bool} : groupIxs.any p = true ↔ ∃ g, p g = true := by
  simp [List.any_eq_true, mem_groupIxs]

theorem linesLawful_driveLines (s : State) : LinesLawful (driveLines s) := by
  refine ⟨?_, ?_, ?_⟩
  · show (s.isInLine && groupIxs.any fun g => holdsTrip s.groups[g]) = true ↔ _
    simp only [Bool.and_eq_true, isInLine_iff, any_groupIxs_iff, holdsTrip_iff, driveLines_switch, driveLines_groups]
  · show (s.isInLine && groupIxs.any fun g => holdsAlert s.groups[g]) = true ↔ _
    simp only [Bool.and_eq_true, isInLine_iff, any_groupIxs_iff, holdsAlert_iff, driveLines_switch, driveLines_groups]
  · show (s.isInLine && ((groupIxs.any fun g => holdsSupv s.groups[g]) || s.store.defaulted || s.store.faultLatch)) =
      true ↔ _
    simp only [Bool.and_eq_true, Bool.or_eq_true, isInLine_iff, any_groupIxs_iff, holdsSupv_iff, driveLines_switch,
      driveLines_groups, driveLines_store, or_assoc]

/-! ## Every step drives the lines (R138) -/

theorem step_drivesLines {s t : State} (h : step s = .next t) : ∃ u, t = driveLines u := by
  obtain ⟨_, hstep⟩ | ⟨c, rest, _, hstep⟩ := step_cases s
  · rw [hstep] at h
    cases h
    exact ⟨_, rfl⟩
  · obtain ⟨u, hexec, _⟩ := exec_lawful c (withPending rest s)
    rw [hstep, hexec] at h
    cases h
    exact ⟨_, rfl⟩

/-- Settles O5: a step leaves the lines as it drove them. -/
theorem linesFollowTheirConditionsAfterEveryStep : Obligations.LinesFollowTheirConditionsAfterEveryStep := by
  intro s t h
  obtain ⟨u, rfl⟩ := step_drivesLines h
  exact linesLawful_driveLines u

end Sys2Proof.Machine
end

section
/-! RELEASE TRIP: the checks in their order (R130), the release of the trip's hold (R167) and the released unit
(R131). -/

namespace Sys2Proof.Machine

/-! ## The trip's hold (R166, R167) -/

section
variable {c : Captures} {g : GroupId}

theorem releaseTripHold_unmarked (h : ∀ j : CaptureIx, c.slots[j].owner = some g → c.slots[j].auto = false) :
    releaseTripHold g c = c := by
  unfold releaseTripHold
  split
  · rename_i j hj
    exact if_neg (ne_true_of_eq_false (h j (ownedSlot_some hj)))
  · rfl

theorem upd_upd {α : Type} {n : Nat} (v : Vector α n) (i : Fin n) (x y : α) : upd (upd v i x) i y = upd v i y := by
  simp [upd]

variable {j : CaptureIx} (howner : c.slots[j].owner = some g) (hother : c.slots[other j].owner ≠ some g)
  (hauto : c.slots[j].auto = true)
include howner hother hauto

/-- The mark is cleared, and one hold of the slot is released. -/
theorem releaseTripHold_marked :
    releaseTripHold g c = releaseHold j (setSlot j { c.slots[j] with auto := false } c) := by
  rw [releaseTripHold, ownedSlot_eq_some (owns_one_of_other hother) howner]
  exact if_pos hauto

theorem releaseTripHold_keeps (h : 2 ≤ c.slots[j].holds) :
    releaseTripHold g c =
      { c with slots := upd c.slots j { c.slots[j] with holds := c.slots[j].holds - 1, auto := false } } := by
  have hslot : (setSlot j { c.slots[j] with auto := false } c).slots[j] = { c.slots[j] with auto := false } :=
    upd_get_same ..
  rw [releaseTripHold_marked howner hother hauto]
  obtain ⟨hlast, _⟩ | ⟨_, hrelease⟩ := releaseHold_cases j (setSlot j { c.slots[j] with auto := false } c)
  · rw [hslot] at hlast
    exact absurd hlast (Nat.not_le.mpr h)
  · rw [hrelease, hslot]
    simp only [setSlot, upd_upd]

theorem releaseTripHold_frees (h : c.slots[j].holds ≤ 1) :
    releaseTripHold g c = { slots := upd c.slots j CaptureSlot.free, marker := other j } := by
  have hslot : (setSlot j { c.slots[j] with auto := false } c).slots[j] = { c.slots[j] with auto := false } :=
    upd_get_same ..
  rw [releaseTripHold_marked howner hother hauto]
  obtain ⟨_, hrelease⟩ | ⟨hmore, _⟩ := releaseHold_cases j (setSlot j { c.slots[j] with auto := false } c)
  · rw [hrelease]
    simp only [freeSlot, setSlot, upd_upd]
  · rw [hslot] at hmore
    exact absurd hmore (Nat.not_le.mpr (Nat.lt_succ_of_le h))

end

/-! ## The checks (R130) -/

theorem latestIsTrip_iff {x : Group} : latestIsTrip x = true ↔ ∃ w, x.result = some w ∧ w.level = .trip := by
  unfold latestIsTrip
  cases x.result <;> simp

section
variable {s : State} {g : GroupId}

theorem serveReleaseTrip_not_tripped (h : s.groups[g].levelUnit.level ≠ .tripped) :
    serveReleaseTrip g s = refuse .notTripped s := if_pos h

theorem serveReleaseTrip_still_tripped (h : s.groups[g].levelUnit.level = .tripped)
    (hlatest : latestIsTrip s.groups[g] = true) : serveReleaseTrip g s = refuse .stillTripped s :=
  (if_neg (not_not.mpr h)).trans (if_pos hlatest)

theorem serveReleaseTrip_released (h : s.groups[g].levelUnit.level = .tripped)
    (hlatest : latestIsTrip s.groups[g] = false) : serveReleaseTrip g s = done .empty (actOn s g releaseView) :=
  (if_neg (not_not.mpr h)).trans (if_neg (ne_true_of_eq_false hlatest))

end

/-- Settles O55: the group out of range, the two refusals, the release at the group, and the trip's hold. -/
theorem releaseTripReturnsTheLevel : Obligations.ReleaseTripReturnsTheLevel := by
  intro s r rest h
  refine ⟨fun hout => serves_of_asks rfl h (withGroup_refused hout _), fun g hg => ?_⟩
  intro u level
  refine ⟨fun hnot => serves_at_group rfl h hg (serveReleaseTrip_not_tripped (s := taken r rest s) hnot),
    fun htripped hstill => ?_, fun htripped hfree => ?_, releaseTripHold_unmarked, fun j howner hother hauto =>
      ⟨releaseTripHold_keeps howner hother hauto, releaseTripHold_frees howner hother hauto⟩⟩
  · exact serves_at_group rfl h hg
      (serveReleaseTrip_still_tripped (s := taken r rest s) htripped (latestIsTrip_iff.mpr hstill))
  · have hlatest : latestIsTrip s.groups[g] = false :=
      eq_false_of_ne_true fun htrip => let ⟨w, hw, hlevel⟩ := latestIsTrip_iff.mp htrip; hfree w hw hlevel
    exact serves_at_group rfl h hg (serveReleaseTrip_released (s := taken r rest s) htripped hlatest)

end Sys2Proof.Machine
end

section
/-! The groups through the frame path, the stores and the rate check, which leave them as they stand, and their Level
Units through the passes, the notices and the engine's taking, which leave those (R49, R123). -/

namespace Sys2Proof.Machine

/-! ## Acts that leave the groups as they stand -/

theorem setPort_groups (p : Port) (x : PortState) (s : State) : (setPort p x s).groups = s.groups := by
  cases p <;> rfl

theorem establishLink_groups (p : Port) (s : State) : (establishLink p s).groups = s.groups := by
  unfold establishLink
  split
  · exact setPort_groups ..
  · rfl

theorem startPortA_groups (s : State) : (startPortA s).groups = s.groups := by
  unfold startPortA
  split
  · rfl
  · split <;> rfl

theorem chooseManagement_groups (s : State) : (chooseManagement s).groups = s.groups := by
  unfold chooseManagement
  split <;> rfl

theorem arbiterChoice_groups (s : State) : (arbiterChoice s).groups = s.groups := by
  unfold arbiterChoice
  split
  · split
    · split
      · exact chooseManagement_groups s
      · rfl
    · exact chooseManagement_groups s
  · rfl

theorem Supervises.groups {s t : State} (h : Supervises s t) : t.groups = s.groups := by
  obtain ⟨_, _, _, rfl⟩ := h
  rfl

theorem arriveA_groups (l : List Byte) (s : State) : (arriveA l s).groups = s.groups := by
  rw [(arriveA_supervises l s).groups, offerForward_eq]

theorem arriveB_groups (l : List Byte) (s : State) : (arriveB l s).groups = s.groups := by
  unfold arriveB offerRequest offerReverse
  split <;> split <;> rfl

theorem receiveFrame_groups (p : Port) (f : WireFrame) (s : State) : (receiveFrame p f s).groups = s.groups := by
  unfold receiveFrame
  split
  · cases p
    · exact arriveA_groups f.bytes s
    · exact arriveB_groups f.bytes s
  · rfl

theorem completeStore_groups (s : State) : (completeStore s).groups = s.groups := by
  unfold completeStore
  split <;> rfl

theorem faultStore_groups (s : State) : (faultStore s).groups = s.groups := by
  unfold faultStore
  split <;> rfl

theorem storeTimeOut_groups (s : State) : (storeTimeOut s).groups = s.groups := by
  unfold storeTimeOut
  split
  · exact faultStore_groups s
  · rfl

theorem takeRateCheck_groups (s : State) : (takeRateCheck s).groups = s.groups := by
  unfold takeRateCheck
  split
  · rw [rateCheck_eq]
  · rfl

theorem countRate_groups (s : State) : (countRate s).groups = s.groups := by
  unfold countRate
  split <;> rfl

theorem offerReport_groups (g : GroupId) (r : ResultRecord) (s : State) : (offerReport g r s).groups = s.groups := by
  rw [offerReport_frame]

/-! ## Acts that leave every Level Unit as it stands -/

/-- From `s` to `t` the Level Unit of every group stays. -/
structure UnitsKept (s t : State) : Prop where
  unit : ∀ g : GroupId, t.groups[g].levelUnit = s.groups[g].levelUnit

namespace UnitsKept

theorem refl (s : State) : UnitsKept s s := ⟨fun _ => rfl⟩

theorem trans {s t u : State} (h : UnitsKept s t) (k : UnitsKept t u) : UnitsKept s u :=
  ⟨fun g => (k.unit g).trans (h.unit g)⟩

theorem foldl {α : Type} {f : State → α → State} (h : ∀ s a, UnitsKept s (f s a)) (l : List α) (s : State) :
    UnitsKept s (l.foldl f s) := List.foldlRecOn l f (refl s) fun u hu a _ => hu.trans (h u a)

theorem of_groups {s t : State} (h : t.groups = s.groups) : UnitsKept s t := ⟨fun g => by rw [h]⟩

/-- An act at one group that leaves its Level Unit. -/
theorem at_group {s t : State} {g : GroupId} {x : Group} (hgroups : t.groups = upd s.groups g x)
    (hx : x.levelUnit = s.groups[g].levelUnit) : UnitsKept s t := by
  refine ⟨fun h => ?_⟩
  rw [hgroups, upd_get_fin]
  split
  · rename_i hg
    exact hg ▸ hx
  · rfl

end UnitsKept

theorem engineTake_unitsKept (s : State) : UnitsKept s (engineTake s) :=
  ⟨fun h => (engineTake_records s h).2.2⟩

theorem silencedBy_levelUnit (i : StreamId) (x : Group) : (silencedBy i x).levelUnit = x.levelUnit := by
  unfold silencedBy silenced
  split
  · split
    · rfl
    · split <;> rfl
  · rfl

theorem deliverNotice_unitsKept (i : StreamId) (s : State) : UnitsKept s (deliverNotice i s) :=
  ⟨fun g => by rw [deliverNotice_group, silencedBy_levelUnit]⟩

theorem placeNotice_unitsKept (i : StreamId) (s : State) : UnitsKept s (placeNotice i s) := by
  unfold placeNotice
  split
  · exact .of_groups rfl
  · split
    · exact .of_groups rfl
    · exact deliverNotice_unitsKept i s

theorem takeDeadline_unitsKept (s : State) (i : StreamId) : UnitsKept s (takeDeadline s i) := by
  have raised (r : Supervision) : UnitsKept s (raiseAt (.streamSilent i) (setSupervision i r s)) := .of_groups rfl
  unfold takeDeadline
  split
  · exact (raised _).trans (placeNotice_unitsKept i _)
  · exact .refl s

/-- The deadlines, the rate check and the two clocks of one millisecond. -/
theorem clocks_unitsKept (s : State) :
    UnitsKept s (countRate (countTimer (takeRateCheck (streamIxs.foldl takeDeadline s)))) := by
  refine (UnitsKept.foldl takeDeadline_unitsKept streamIxs s).trans (.of_groups ?_)
  rw [countRate_groups, countTimer_groups, takeRateCheck_groups]

/-- A pass changes nothing of the Level Unit of its group (R49). -/
theorem passGroup_unitsKept (e : QueueEntry) (g : GroupId) (s : State) : UnitsKept s (passGroup e g s) := by
  have passed : UnitsKept s (afterPass e g s) := by
    refine .at_group rfl ?_
    rw [(passEntry_keepsGroup (contextOf s g) e (viewGroup s g)).frame]
    rfl
  exact passGroup_eq e g s ▸ passed.trans (engineTake_unitsKept _)

theorem leaveIfDone_unitsKept (e : QueueEntry) (s : State) : UnitsKept s (leaveIfDone e s) := by
  have removed (u : State) : UnitsKept u { u with queue := removeHead u.settings u.queue } := .of_groups rfl
  unfold leaveIfDone finishEntry
  dsimp only
  split
  · exact .refl s
  · refine .trans ?_ (removed _)
    split
    · exact deliverNotice_unitsKept e.stream s
    · exact .refl s

theorem applyAt_unitsKept (g : GroupId) (s : State) : UnitsKept s (applyAt g s) := by
  unfold applyAt
  split
  · exact .refl s
  · refine .trans ?_ (leaveIfDone_unitsKept ..)
    split
    · exact passGroup_unitsKept _ g s
    · exact .refl s

/-- The working tables are loaded around the Level Units (R193). -/
theorem loadTables_unitsKept (c : ImageContents) (d : Bool) (s : State) : UnitsKept s (loadTables c d s) := by
  refine ⟨fun g => ?_⟩
  have hgroup : (loadTables c d s).groups[g] = loadGroup c.records[g] c.nowBanks[g] s.groups[g] := ofFn_get _ g
  rw [hgroup]
  rfl

theorem startOnDefaults_unitsKept (s : State) : UnitsKept s (startOnDefaults s) :=
  (loadTables_unitsKept (defaultContents s.ident.factory) true s).trans (.of_groups (endStartUp_groups _))

theorem imageReadTimeOut_unitsKept (s : State) : UnitsKept s (imageReadTimeOut s) := by
  unfold imageReadTimeOut
  split
  · exact startOnDefaults_unitsKept s
  · exact .refl s

/-! ## Requests that leave every Level Unit as it stands -/

theorem serveWriteStream_unitsKept : ServesBy UnitsKept serveWriteStream := by
  intro r s
  unfold serveWriteStream
  split
  · split <;> exact .of_groups rfl
  · exact .refl s

theorem serveWriteGroup_unitsKept : ServesBy UnitsKept serveWriteGroup := by
  intro r s
  unfold serveWriteGroup
  split
  · split
    · exact .refl s
    · exact .at_group rfl rfl
  · exact .refl s

theorem serveWriteLimits_unitsKept : ServesBy UnitsKept serveWriteLimits := by
  intro r s
  unfold serveWriteLimits
  split
  · exact .refl s
  · dsimp only
    split
    · exact .refl s
    · split
      · exact .refl s
      · split
        · exact .refl s
        · rw [limitReply_state]
          exact .at_group rfl rfl

theorem serveWriteSettings_unitsKept : ServesBy UnitsKept serveWriteSettings := by
  intro r s
  unfold serveWriteSettings
  dsimp only
  split <;> exact .of_groups rfl

theorem serveCommit_unitsKept (g : GroupId) (s : State) : UnitsKept s (serveCommit g s).state := by
  show UnitsKept s (commitAt g s)
  unfold commitAt
  split <;> exact .at_group rfl rfl

theorem serveSnap_unitsKept (g : GroupId) (s : State) : UnitsKept s (serveSnap g s).state := by
  unfold serveSnap
  split
  · split <;> exact .of_groups rfl
  · exact .refl s

theorem serveHold_unitsKept (i : CaptureIx) (s : State) : UnitsKept s (serveHold i s).state := by
  unfold serveHold
  dsimp only
  split
  · exact .refl s
  · split <;> exact .of_groups rfl

theorem serveRelease_unitsKept (i : CaptureIx) (s : State) : UnitsKept s (serveRelease i s).state := by
  unfold serveRelease
  split <;> exact .of_groups rfl

theorem serveStoreConfig_unitsKept : ServesBy UnitsKept serveStoreConfig := by
  intro r s
  unfold serveStoreConfig
  split <;> exact .of_groups rfl

theorem serveResetPart_unitsKept : ServesBy UnitsKept serveResetPart := by
  intro r s
  unfold serveResetPart
  split <;> exact .of_groups rfl

/-- The request that leaves its queue and the answer that joins its own leave the groups. -/
theorem placeAnswer_groups (r : Request) (p : Reply) : (placeAnswer r p).groups = p.state.groups := by
  obtain h | h := placeAnswer_cases r p <;> rw [h] <;> rfl

theorem takeRequest_unitsKept (mine : Request → Bool) {serve : Request → State → Reply}
    (h : ServesBy UnitsKept serve) (s : State) : UnitsKept s (takeRequest mine serve s) := by
  obtain hnone | ⟨r, rest, _, _, _, _, htaken⟩ := takeRequest_cases mine serve s
  · rw [hnone]
    exact .refl s
  · have left : UnitsKept s (leaveQueue r rest s) := .of_groups rfl
    exact htaken ▸ (left.trans (h r _)).trans (.of_groups (placeAnswer_groups ..))

end Sys2Proof.Machine
end

section
/-! The Level Units through every step: what a step can do to one, with the law of R122 on its counts and the law of
R128 on its TRIPPED level. -/

namespace Sys2Proof.Machine

/-! ## What an act can do to a Level Unit -/

/-- What an act other than a release, a disable or a restart does to the Level Unit of a group, which is `x` before and
`y` after it, the switch `p` before and `q` after it: nothing, the handling of a window (R123), a part reset (R20), or
an enable of a disabled group, at start-up of any (R45, R193). -/
inductive UnitMoves (p q : SwitchState) (x y : Group) : Prop where
  | kept (h : y.levelUnit = x.levelUnit)
  | windowed (r : ResultRecord) (h : y.levelUnit = unitAfter r x)
  | reset (hswitch : q = .bypass) (h : y.levelUnit = LevelUnit.fresh)
  | enabled (hbefore : p = .bypass ∨ x.enabled = false) (h : y.levelUnit = LevelUnit.fresh)

/-- What the command of the request `r` does to the Level Unit of group `g` when it ends a trip: a release once the
latest window is not of level TRIP (R131), a disable (R46) or a restart (R185). -/
inductive UnitEnds (r : Request) (g : GroupId) (x y : Group) : Instr → Prop where
  | released (hg : groupArg (argOf r 0) = some g) (hlatest : latestIsTrip x = false)
      (h : y.levelUnit = releasedUnit x.config x.levelUnit) : UnitEnds r g x y .releaseTrip
  | disabled (hg : groupArg (argOf r 0) = some g) (hd : y.enabled = false) (h : y.levelUnit = LevelUnit.fresh) :
      UnitEnds r g x y .groupDisable
  | restarted (h : y.levelUnit = LevelUnit.fresh) : UnitEnds r g x y .restartAnalysis

section
variable {p q : SwitchState} {x y : Group}

theorem UnitMoves.bounded (h : UnitMoves p q x y) (hx : x.levelUnit.Bounded) : y.levelUnit.Bounded := by
  cases h with
  | kept h => exact h ▸ hx
  | windowed r h => exact h ▸ handleLevels_bounded _ _ _ _ hx
  | reset _ h => exact h ▸ LevelUnit.fresh_bounded
  | enabled _ h => exact h ▸ LevelUnit.fresh_bounded

theorem UnitEnds.bounded {r : Request} {g : GroupId} {c : Instr} (h : UnitEnds r g x y c) (hx : x.levelUnit.Bounded) :
    y.levelUnit.Bounded := by
  cases h with
  | released _ _ h => exact h ▸ ⟨hx.1, Nat.zero_le _⟩
  | disabled _ _ h => exact h ▸ LevelUnit.fresh_bounded
  | restarted h => exact h ▸ LevelUnit.fresh_bounded

/-- An enabled group of a part that is INLINE stays TRIPPED, but for a part reset (R128). -/
theorem UnitMoves.tripped (h : UnitMoves p q x y) (hin : p = .inLine) (hen : x.enabled = true)
    (hx : x.levelUnit.level = .tripped) : y.levelUnit.level = .tripped ∨ q = .bypass := by
  cases h with
  | kept h => exact .inl (h ▸ hx)
  | windowed r h => exact .inl (h ▸ handleLevels_of_tripped _ _ _ _ hx)
  | reset hswitch _ => exact .inr hswitch
  | enabled hbefore _ =>
    obtain hp | hd := hbefore
    · exact nomatch hin.symm.trans hp
    · exact nomatch hen.symm.trans hd

end

/-- From `s` to `t` the Level Unit of every group moves as an act can move it. -/
structure UnitsMove (s t : State) : Prop where
  unit : ∀ g : GroupId, UnitMoves s.switch t.switch s.groups[g] t.groups[g]

theorem UnitsKept.move {s t : State} (h : UnitsKept s t) : UnitsMove s t := ⟨fun g => .kept (h.unit g)⟩

theorem UnitsMove.refl (s : State) : UnitsMove s s := (UnitsKept.refl s).move

/-- An act that is taken under a condition only. -/
theorem UnitsMove.ite {s t : State} {b : Bool} (h : UnitsMove s t) : UnitsMove s (if b then t else s) := by
  cases b
  · exact .refl s
  · exact h

/-! ## Completions (R81, R123) -/

theorem completeEvaluation_unitsMove (s : State) : UnitsMove s (completeEvaluation s) := by
  cases hbusy : s.engine with
  | none =>
    rw [completeEvaluation, hbusy]
    exact .refl s
  | some g =>
    cases hset : setIn .evaluating s.groups[g].sets with
    | none =>
      have idle : UnitsKept s { s with engine := none } := .of_groups rfl
      simp only [completeEvaluation, hbusy, hset]
      exact (idle.trans (engineTake_unitsKept _)).move
    | some i =>
      have hcomplete : completeEvaluation s = engineTake (afterReport s g i (evaluatedRecord s g i)) :=
        completeEvaluation_eq hbusy hset
      refine ⟨fun h => ?_⟩
      rw [hcomplete]
      by_cases hg : h = g
      · subst hg
        exact .windowed _ completion_levelUnit
      · exact .kept (by rw [(completion_records ..).2.2, afterCompletion_other _ hg])

/-! ## Part reset (R20) -/

theorem unitsMove_of_reset {s t : State} (hswitch : t.switch = .bypass) (h : UnitsKept State.reset t) :
    UnitsMove s t :=
  ⟨fun g => .reset hswitch ((h.unit g).trans (congrArg Group.levelUnit (reset_group g)))⟩

theorem partReset_unitsMove (p : Power) (s : State) : UnitsMove s (partReset p s) :=
  unitsMove_of_reset rfl (.of_groups rfl)

theorem resetPartTimeOut_unitsMove (s : State) : UnitsMove s (resetPartTimeOut s) := by
  obtain h | h := resetPartTimeOut_cases s <;> rw [h]
  · exact .refl s
  · exact partReset_unitsMove ..

theorem loseLink_unitsMove (p : Port) (s : State) : UnitsMove s (loseLink p s) := by
  have freed : UnitsKept s (setPort p { link := .down, sending := none } s) := .of_groups (setPort_groups ..)
  have dropped (u : State) : UnitsKept u (setForwardDrop u) := .of_groups rfl
  unfold loseLink abandon
  split
  · dsimp only
    split
    · split
      · exact unitsMove_of_reset rfl (.of_groups rfl)
      · split
        · exact (freed.trans (dropped _)).move
        · exact freed.move
    · exact freed.move
  · exact .refl s

theorem completeTransmission_unitsMove (p : Port) (s : State) : UnitsMove s (completeTransmission p s) := by
  unfold completeTransmission
  split
  · split
    · exact partReset_unitsMove ..
    · exact UnitsKept.move (.of_groups (setPort_groups ..))
  · exact .refl s

/-- One millisecond: the limits of start-up and of a store, then a pending reset, then the clocks. -/
theorem tick_unitsMove (s : State) : UnitsMove s (tick s) := by
  have before : UnitsKept s (storeTimeOut (imageReadTimeOut s)) :=
    (imageReadTimeOut_unitsKept s).trans (.of_groups (storeTimeOut_groups _))
  unfold tick takeDue
  split
  · obtain h | h := resetPartTimeOut_cases (storeTimeOut (imageReadTimeOut s)) <;> rw [h]
    · exact (before.trans (clocks_unitsKept _)).move
    · refine unitsMove_of_reset (clocks_keepBanks _).switch (.trans (.of_groups ?_) (clocks_unitsKept _))
      rfl
  · exact .refl s

/-! ## Enables, disables and restarts, which renew a unit (R45, R46, R185) -/

/-- From `s` to `t` the Level Unit of every group stays or returns to NORMAL with its counts 0 (R122). -/
structure UnitsRenewed (s t : State) : Prop where
  unit : ∀ g : GroupId, t.groups[g].levelUnit = s.groups[g].levelUnit ∨ t.groups[g].levelUnit = LevelUnit.fresh

namespace UnitsRenewed

theorem trans {s t u : State} (h : UnitsRenewed s t) (k : UnitsRenewed t u) : UnitsRenewed s u :=
  ⟨fun g => (k.unit g).elim (fun hk => hk ▸ h.unit g) .inr⟩

theorem foldl {α : Type} {f : State → α → State} (h : ∀ s a, UnitsRenewed s (f s a)) (l : List α) (s : State) :
    UnitsRenewed s (l.foldl f s) := List.foldlRecOn l f ⟨fun _ => .inl rfl⟩ fun u hu a _ => hu.trans (h u a)

theorem at_group {s t : State} {g : GroupId} {x : Group} (hgroups : t.groups = upd s.groups g x)
    (hx : x.levelUnit = LevelUnit.fresh) : UnitsRenewed s t := by
  refine ⟨fun h => ?_⟩
  rw [hgroups, upd_get_fin]
  split
  · exact .inr hx
  · exact .inl rfl

end UnitsRenewed

theorem UnitsKept.renewed {s t : State} (h : UnitsKept s t) : UnitsRenewed s t := ⟨fun g => .inl (h.unit g)⟩

/-- Start-up enables groups of a part in BYPASS (R193). -/
theorem startOnImage_unitsMove {s : State} (hbypass : s.switch = .bypass) (c : ImageContents) :
    UnitsMove s (startOnImage c s) := by
  have enabled (u : State) (g : GroupId) : UnitsRenewed u (enableAtStart u g) := by
    unfold enableAtStart
    split
    · exact .at_group rfl rfl
    · exact (UnitsKept.refl u).renewed
  have started := (loadTables_unitsKept c false s).renewed.trans (.foldl enabled groupIxs _)
  unfold startOnImage
  generalize groupIxs.foldl enableAtStart (loadTables c false s) = u at started ⊢
  exact ⟨fun g => (started.unit g).elim .kept (.enabled (.inl hbypass))⟩

theorem finishImageRead_unitsMove (s : State) : UnitsMove s (finishImageRead s) := by
  have defaults := (startOnDefaults_unitsKept s).move
  unfold finishImageRead
  split
  · rename_i hstarting
    split
    · exact startOnImage_unitsMove (switch_of_startingUp hstarting) _
    · exact defaults
    · exact defaults
  · exact .refl s

theorem restartAnalysis_unitsRenewed (s : State) : UnitsRenewed s (restartAnalysis s) := by
  have restarted (u : State) (g : GroupId) : UnitsRenewed u (restartGroup u g) := by
    unfold restartGroup endEvaluation
    split
    · split <;>
      · refine .at_group rfl ?_
        rw [(restartView_same ..).1]
        rfl
    · exact (UnitsKept.refl u).renewed
  have groups := UnitsRenewed.foldl restarted groupIxs s
  unfold restartAnalysis
  dsimp only
  generalize groupIxs.foldl restartGroup s = u at groups ⊢
  refine groups.trans (UnitsKept.renewed (.trans ?_ (engineTake_unitsKept _)))
  exact .of_groups rfl

/-! ## The requests that move a Level Unit -/

/-- A request of one group leaves every group, or is served at the group that it names. -/
theorem takeRequest_at_group (mine : Request → Bool) (serve : GroupId → State → Reply) (s : State) :
    (takeRequest mine (withArgs 1 (withGroup serve)) s).groups = s.groups ∨
      ∃ r rest g, s.mgmt.requests = r :: rest ∧ groupArg (argOf r 0) = some g ∧
        (takeRequest mine (withArgs 1 (withGroup serve)) s).groups = (serve g (leaveQueue r rest s)).state.groups := by
  obtain hnone | ⟨r, rest, hrequests, _, _, _, htaken⟩ := takeRequest_cases mine (withArgs 1 (withGroup serve)) s
  · exact .inl (congrArg State.groups hnone)
  · rw [htaken, placeAnswer_groups]
    unfold withArgs withGroup
    split
    · split
      · rename_i g hg
        exact .inr ⟨r, rest, g, hrequests, hg, rfl⟩
      · exact .inl rfl
    · exact .inl rfl

theorem groupEnable_unitsMove (s : State) :
    UnitsMove s (takeRequest (hasCode .groupEnable) (withArgs 1 (withGroup serveEnable)) s) := by
  obtain hsame | ⟨r, rest, h, _, _, hgroups⟩ := takeRequest_at_group (hasCode .groupEnable) serveEnable s
  · exact UnitsKept.move (.of_groups hsame)
  · refine ⟨fun g => ?_⟩
    rw [hgroups]
    unfold serveEnable
    split
    · exact .kept rfl
    · rename_i hd
      split
      · exact .kept rfl
      · by_cases hg : g = h
        · subst hg
          obtain ⟨t, _, hgroup⟩ := enableGroup_same g (leaveQueue r rest s)
          exact .enabled (.inr (eq_false_of_ne_true hd)) (congrArg Group.levelUnit hgroup)
        · exact .kept (congrArg Group.levelUnit (enableGroup_other (leaveQueue r rest s) hg))

/-- What a command leaves of a group's Level Unit: as an act can move it, or as the request at the head ends a trip. -/
def CommandMoves (c : Instr) (s t : State) : Prop :=
  ∀ g : GroupId, UnitMoves s.switch t.switch s.groups[g] t.groups[g] ∨
    ∃ r rest, s.mgmt.requests = r :: rest ∧ UnitEnds r g s.groups[g] t.groups[g] c

theorem UnitsMove.command {s t : State} (h : UnitsMove s t) (c : Instr) : CommandMoves c s t :=
  fun g => .inl (h.unit g)

theorem releaseTrip_moves (s : State) :
    CommandMoves .releaseTrip s (takeRequest (hasCode .releaseTrip) (withArgs 1 (withGroup serveReleaseTrip)) s) := by
  obtain hsame | ⟨r, rest, h, hrequests, hh, hgroups⟩ :=
    takeRequest_at_group (hasCode .releaseTrip) serveReleaseTrip s
  · exact UnitsMove.command (UnitsKept.move (.of_groups hsame)) _
  · intro g
    rw [hgroups]
    unfold serveReleaseTrip
    split
    · exact .inl (.kept rfl)
    · split
      · exact .inl (.kept rfl)
      · rename_i hlatest
        by_cases hg : g = h
        · subst hg
          have hunit : (actOn (leaveQueue r rest s) g releaseView).groups[g].levelUnit =
              releasedUnit s.groups[g].config s.groups[g].levelUnit := congrArg Group.levelUnit (upd_get_same ..)
          exact .inr ⟨r, rest, hrequests, .released hh (eq_false_of_ne_true hlatest) hunit⟩
        · exact .inl (.kept (congrArg Group.levelUnit (upd_get_ne _ _ (Ne.symm hg))))

theorem groupDisable_moves (s : State) :
    CommandMoves .groupDisable s (takeRequest (hasCode .groupDisable) (withArgs 1 (withGroup serveDisable)) s) := by
  obtain hsame | ⟨r, rest, h, hrequests, hh, hgroups⟩ := takeRequest_at_group (hasCode .groupDisable) serveDisable s
  · exact UnitsMove.command (UnitsKept.move (.of_groups hsame)) _
  · intro g
    rw [hgroups]
    unfold serveDisable
    split
    · by_cases hg : g = h
      · subst hg
        have hgroup : (disableGroup g (leaveQueue r rest s)).groups[g] = disabledGroup s.groups[g] :=
          disableGroup_same ..
        exact .inr ⟨r, rest, hrequests,
          .disabled hh (congrArg Group.enabled hgroup) (congrArg Group.levelUnit hgroup)⟩
      · have hother : (afterDisable h (leaveQueue r rest s)).groups[g] = s.groups[g] := afterDisable_other hg _
        have htake := (engineTake_unitsKept (afterDisable h (leaveQueue r rest s))).unit g
        rw [hother, ← disableGroup_eq] at htake
        exact .inl (.kept htake)
    · exact .inl (.kept rfl)

theorem restartAnalysis_moves (s : State) :
    CommandMoves .restartAnalysis s (takeRequest (hasCode .restartAnalysis) (withArgs 0 serveRestart) s) := by
  obtain hnone | ⟨r, rest, hrequests, _, _, _, htaken⟩ :=
    takeRequest_cases (hasCode .restartAnalysis) (withArgs 0 serveRestart) s
  · rw [hnone]
    exact (UnitsMove.refl s).command _
  · intro g
    rw [htaken, placeAnswer_groups]
    unfold withArgs
    split
    · have renewed := (restartAnalysis_unitsRenewed (leaveQueue r rest s)).unit g
      exact renewed.imp .kept fun h => ⟨r, rest, hrequests, .restarted h⟩
    · exact .inl (.kept rfl)

/-! ## The step -/

/-- Every command moves the Level Units as an act can, or ends a trip by its request, with the lines driven after it. -/
theorem exec_moves (c : Instr) (s : State) : ∃ t, exec c s = .next (driveLines t) ∧ CommandMoves c s t := by
  have serves (mine : Request → Bool) (n : Nat) {serve : Request → State → Reply} (h : ServesBy UnitsKept serve) :
      CommandMoves c s (takeRequest mine (withArgs n serve) s) :=
    (takeRequest_unitsKept mine (withArgs_servesBy UnitsKept.refl n h) s).move.command c
  have reads (mine : Request → Bool) (n : Nat) {serve : Request → State → Reply} (h : ∀ r s, (serve r s).state = s) :
      CommandMoves c s (takeRequest mine (withArgs n serve) s) := serves mine n (servesBy_of_state UnitsKept.refl h)
  have entry (mine : Request → Bool) (n : Nat) {serve : Request → State → Reply} (h : ServesBy UnitsKept serve) :
      CommandMoves c s (takeRequest mine (withTable n serve) s) :=
    (takeRequest_unitsKept mine (withTable_servesBy UnitsKept.refl n h) s).move.command c
  have readsEntry (mine : Request → Bool) (n : Nat) {serve : Request → State → Reply}
      (h : ∀ r s, (serve r s).state = s) : CommandMoves c s (takeRequest mine (withTable n serve) s) :=
    entry mine n (servesBy_of_state UnitsKept.refl h)
  have atGroup (mine : Request → Bool) {serve : GroupId → State → Reply} (h : ∀ g s, UnitsKept s (serve g s).state) :
      CommandMoves c s (takeRequest mine (withArgs 1 (withGroup serve)) s) :=
    serves mine 1 (withGroup_servesBy UnitsKept.refl h)
  have atSlot (mine : Request → Bool) {serve : CaptureIx → State → Reply} (h : ∀ i s, UnitsKept s (serve i s).state) :
      CommandMoves c s (takeRequest mine (withArgs 1 (withSlot serve)) s) :=
    serves mine 1 (withSlot_servesBy UnitsKept.refl h)
  have same {t : State} (h : t.groups = s.groups) : CommandMoves c s t := (UnitsKept.of_groups h).move.command c
  have passes (g : GroupId) : UnitsMove s (applyAt g s) := (applyAt_unitsKept g s).move
  cases c with
  | powerOn => exact ⟨_, rfl, (partReset_unitsMove ..).command _⟩
  | lossOfSupply => exact ⟨_, rfl, (partReset_unitsMove ..).command _⟩
  | nresetAssertion =>
    refine ⟨_, rfl, ?_⟩
    split
    · exact same rfl
    · exact (partReset_unitsMove ..).command _
  | nresetRelease =>
    refine ⟨_, rfl, ?_⟩
    split <;> exact same rfl
  | imageRead => exact ⟨_, rfl, (finishImageRead_unitsMove s).command _⟩
  | imageReadTimeLimit => exact ⟨_, rfl, (imageReadTimeOut_unitsKept s).move.command _⟩
  | linkEstablished p => exact ⟨_, rfl, same (establishLink_groups p s)⟩
  | linkLoss p => exact ⟨_, rfl, (loseLink_unitsMove p s).command _⟩
  | frameArrival p f => exact ⟨_, rfl, same (receiveFrame_groups p f s)⟩
  | portATransmissionStart => exact ⟨_, rfl, same (startPortA_groups s)⟩
  | transmitArbiterChoice => exact ⟨_, rfl, same (arbiterChoice_groups s)⟩
  | transmissionComplete p => exact ⟨_, rfl, (completeTransmission_unitsMove p s).command _⟩
  | silenceDeadline i => exact ⟨_, rfl, (takeDeadline_unitsKept s i).move.command _⟩
  | rateIntervalEnd => exact ⟨_, rfl, same (takeRateCheck_groups s)⟩
  | applyEntry g => exact ⟨_, rfl, (passes g).command _⟩
  | cycleTooLate g => exact ⟨_, rfl, (passes g).ite.command _⟩
  | acquisitionTimeout g => exact ⟨_, rfl, (passes g).ite.command _⟩
  | holdoverWindowClose g => exact ⟨_, rfl, (passes g).ite.command _⟩
  | evaluationCompletion => exact ⟨_, rfl, (completeEvaluation_unitsMove s).command _⟩
  | leak => exact ⟨_, rfl, (completeEvaluation_unitsMove s).ite.command _⟩
  | resetPartTimeLimit => exact ⟨_, rfl, (resetPartTimeOut_unitsMove s).command _⟩
  | storeCompletion => exact ⟨_, rfl, same (completeStore_groups s)⟩
  | storeReadBackFault => exact ⟨_, rfl, same (faultStore_groups s)⟩
  | storeTimeLimit => exact ⟨_, rfl, same (storeTimeOut_groups s)⟩
  | unsupported => exact ⟨_, rfl, (takeRequest_unitsKept _ (fun _ s => .refl s) s).move.command _⟩
  | identify => exact ⟨_, rfl, reads _ 0 fun _ _ => rfl⟩
  | readStatus => exact ⟨_, rfl, reads _ 1 serveReadStatus_state⟩
  | readEntryStream => exact ⟨_, rfl, readsEntry _ 2 serveReadStream_state⟩
  | readEntryGroup => exact ⟨_, rfl, readsEntry _ 2 serveReadGroup_state⟩
  | readEntryLimitBank => exact ⟨_, rfl, readsEntry _ 5 serveReadLimits_state⟩
  | readEntryPartSettings => exact ⟨_, rfl, readsEntry _ 2 fun _ _ => rfl⟩
  | writeEntryStream => exact ⟨_, rfl, entry _ 14 serveWriteStream_unitsKept⟩
  | writeEntryGroup => exact ⟨_, rfl, entry _ 72 serveWriteGroup_unitsKept⟩
  | writeEntryLimitBank => exact ⟨_, rfl, entry _ 4 serveWriteLimits_unitsKept⟩
  | writeEntryPartSettings => exact ⟨_, rfl, entry _ 11 serveWriteSettings_unitsKept⟩
  | commitLimits => exact ⟨_, rfl, atGroup _ serveCommit_unitsKept⟩
  | groupEnable => exact ⟨_, rfl, (groupEnable_unitsMove s).command _⟩
  | groupDisable => exact ⟨_, rfl, groupDisable_moves s⟩
  | readResult => exact ⟨_, rfl, atGroup _ fun _ s => .refl s⟩
  | readEvents => exact ⟨_, rfl, serves _ 1 fun _ _ => .of_groups rfl⟩
  | clearFirst => exact ⟨_, rfl, atGroup _ fun _ _ => .at_group rfl rfl⟩
  | releaseTrip => exact ⟨_, rfl, releaseTrip_moves s⟩
  | snap => exact ⟨_, rfl, atGroup _ serveSnap_unitsKept⟩
  | holdCapture => exact ⟨_, rfl, atSlot _ serveHold_unitsKept⟩
  | releaseCapture => exact ⟨_, rfl, atSlot _ serveRelease_unitsKept⟩
  | readCapture => exact ⟨_, rfl, reads _ 4 serveReadCapture_state⟩
  | readArray => exact ⟨_, rfl, reads _ 4 serveReadArray_state⟩
  | storeConfig => exact ⟨_, rfl, serves _ 0 serveStoreConfig_unitsKept⟩
  | restartAnalysis => exact ⟨_, rfl, restartAnalysis_moves s⟩
  | resetPart => exact ⟨_, rfl, serves _ 0 serveResetPart_unitsKept⟩

/-- What a step can do to the Level Unit of a group: what an act can, or what the request at the head does by the front
command when it ends a trip. -/
theorem step_moves {s t : State} (h : step s = .next t) (g : GroupId) :
    UnitMoves s.switch t.switch s.groups[g] t.groups[g] ∨
      ∃ c l r rest, s.pending = c :: l ∧ s.mgmt.requests = r :: rest ∧ UnitEnds r g s.groups[g] t.groups[g] c := by
  obtain ⟨_, hstep⟩ | ⟨c, l, hpending, hstep⟩ := step_cases s
  · rw [hstep] at h
    cases h
    exact .inl ((tick_unitsMove s).unit g)
  · obtain ⟨u, hexec, hmoves⟩ := exec_moves c (withPending l s)
    rw [hstep, hexec] at h
    cases h
    exact (hmoves g).imp_right fun ⟨r, rest, hrequests, hends⟩ => ⟨c, l, r, rest, hpending, hrequests, hends⟩

/-- Settles O9: whatever a step does to a Level Unit keeps its counts within their bounds. -/
theorem levelCountsStayBounded : Obligations.LevelCountsStayBounded := by
  intro s t hs h g
  obtain hmoves | ⟨_, _, _, _, _, _, hends⟩ := step_moves h g
  · exact hmoves.bounded (hs g)
  · exact hends.bounded (hs g)

/-- Settles O12: an act leaves the group TRIPPED or resets the part, and each of the three requests is one that the law
names. -/
theorem trippedGroupsStayTripped : Obligations.TrippedGroupsStayTripped := by
  intro s t g hin hen htripped h
  obtain hmoves | ⟨c, l, r, rest, hpending, hrequests, hends⟩ := step_moves h g
  · exact (hmoves.tripped hin hen htripped).imp_right .inl
  · refine .inr (.inr ⟨c, l, r, rest, hpending, hrequests, ?_⟩)
    cases hends with
    | released hg hlatest _ => exact .inl ⟨rfl, hg, hlatest⟩
    | disabled hg hd _ => exact .inr (.inl ⟨rfl, hg, hd⟩)
    | restarted _ => exact .inr (.inr rfl)

end Sys2Proof.Machine
end

section
/-! The Event Queue through every act but READ EVENTS: records are created in it and nothing else happens to it, but for
a part reset, which empties it (R20, R147 to R150). -/

namespace Sys2Proof.Machine

/-- Creations follow one another. -/
theorem EventsCreated.trans {q q' q'' : EventQueue} (h : EventsCreated q q') (k : EventsCreated q' q'') :
    EventsCreated q q'' := by
  induction k with
  | refl => exact h
  | step _ n e d ih => exact .step ih n e d

/-- Creations add at the tail, and change nothing else but lost-after marks (R149, R150). -/
theorem EventsCreated.bare {q q' : EventQueue} (h : EventsCreated q q') :
    ∃ new, q'.records.map bareRecord = q.records.map bareRecord ++ new := by
  induction h with
  | refl => exact ⟨[], (List.append_nil _).symm⟩
  | step _ n e d ih =>
    obtain ⟨new, hnew⟩ := ih
    obtain ⟨last, hlast⟩ := createEvent_bare n e d _
    exact ⟨new ++ last, by rw [hlast, hnew, List.append_assoc]⟩

/-- From `s` to `t` the Event Queue has records created in it, and nothing else; such acts can follow one another. -/
structure AddsEvents (s t : State) : Prop where
  created : EventsCreated s.events t.events

namespace AddsEvents

theorem refl (s : State) : AddsEvents s s := ⟨.refl⟩

theorem trans {s t u : State} (h : AddsEvents s t) (k : AddsEvents t u) : AddsEvents s u :=
  ⟨h.created.trans k.created⟩

theorem foldl {α : Type} {f : State → α → State} (h : ∀ s a, AddsEvents s (f s a)) (l : List α) (s : State) :
    AddsEvents s (l.foldl f s) := List.foldlRecOn l f (refl s) fun u hu a _ => hu.trans (h u a)

/-- An act that leaves the Event Queue as it stands. -/
theorem of_same {s t : State} (h : t.events = s.events) : AddsEvents s t := ⟨h ▸ .refl⟩

end AddsEvents

/-! ## The shared operations -/

theorem raiseAt_addsEvents (e : Event) (s : State) : AddsEvents s (raiseAt e s) := ⟨.step .refl ..⟩

theorem setSupervision_addsEvents (i : StreamId) (r : Supervision) (s : State) :
    AddsEvents s (setSupervision i r s) := .of_same rfl

theorem actOn_addsEvents {f : GroupContext → GroupView → GroupView} (hf : ∀ c v, EventsCreated v.events (f c v).events)
    (g : GroupId) (s : State) : AddsEvents s (actOn s g f) := ⟨hf (contextOf s g) (viewGroup s g)⟩

theorem engineTake_addsEvents (s : State) : AddsEvents s (engineTake s) := by
  obtain ⟨_, _, _, _, _, hevents, _⟩ := engineTake_frame s
  exact .of_same hevents

theorem endEvaluation_addsEvents (g : GroupId) (s : State) : AddsEvents s (endEvaluation g s) := by
  unfold endEvaluation
  split <;> exact .of_same rfl

/-! ## Streams and time (R27 to R33) -/

theorem rangeFrame_addsEvents (i : StreamId) (s : State) : AddsEvents s (rangeFrame i s) := by
  unfold rangeFrame
  dsimp only
  refine .trans ?_ (setSupervision_addsEvents ..)
  split
  · exact .refl s
  · exact raiseAt_addsEvents ..

theorem intakeFrame_addsEvents (i : StreamId) (l : List Byte) (s : State) : AddsEvents s (intakeFrame i l s) :=
  intakeFrame_eq i l s ▸ .of_same rfl

theorem superviseFrame_addsEvents (i : StreamId) (l : List Byte) (s : State) :
    AddsEvents s (superviseFrame i l s) := by
  unfold superviseFrame
  split
  · exact rangeFrame_addsEvents i s
  · split
    · unfold activeFrame
      dsimp only
      split
      · exact (setSupervision_addsEvents ..).trans (intakeFrame_addsEvents ..)
      · exact setSupervision_addsEvents ..
    · exact ((setSupervision_addsEvents ..).trans (raiseAt_addsEvents ..)).trans (intakeFrame_addsEvents ..)

theorem deliverNotice_addsEvents (i : StreamId) (s : State) : AddsEvents s (deliverNotice i s) := by
  refine .foldl (fun s g => ?_) groupIxs s
  unfold noticeGroup
  split
  · exact actOn_addsEvents (fun c _ => silenceNotice_events c .refl) g s
  · exact .refl s

theorem placeNotice_addsEvents (i : StreamId) (s : State) : AddsEvents s (placeNotice i s) := by
  unfold placeNotice
  split
  · exact .of_same rfl
  · split
    · exact .of_same rfl
    · exact deliverNotice_addsEvents i s

theorem takeDeadline_addsEvents (s : State) (i : StreamId) : AddsEvents s (takeDeadline s i) := by
  unfold takeDeadline
  split
  · exact ((setSupervision_addsEvents ..).trans (raiseAt_addsEvents ..)).trans (placeNotice_addsEvents ..)
  · exact .refl s

theorem rateCheckAt_addsEvents (s : State) (i : StreamId) : AddsEvents s (rateCheckAt s i) := by
  unfold rateCheckAt
  dsimp only
  refine .trans ?_ (setSupervision_addsEvents ..)
  split
  · exact .refl s
  · exact raiseAt_addsEvents ..

theorem takeRateCheck_addsEvents (s : State) : AddsEvents s (takeRateCheck s) := by
  have withdrawn : AddsEvents s { s with rateDue := false } := .of_same rfl
  unfold takeRateCheck
  split
  · exact withdrawn.trans (.foldl rateCheckAt_addsEvents streamIxs _)
  · exact .refl s

/-- The deadlines, the rate check and the two clocks of one millisecond. -/
theorem clocks_addEvents (s : State) :
    AddsEvents s (countRate (countTimer (takeRateCheck (streamIxs.foldl takeDeadline s)))) := by
  have counted (u : State) : AddsEvents u (countRate (countTimer u)) := by
    unfold countRate
    split <;> exact .of_same rfl
  exact ((AddsEvents.foldl takeDeadline_addsEvents streamIxs s).trans (takeRateCheck_addsEvents _)).trans (counted _)

/-! ## The store (R190) -/

theorem completeStore_addsEvents (s : State) : AddsEvents s (completeStore s) := by
  unfold completeStore
  split
  · exact ⟨.step .refl ..⟩
  · exact .refl s

theorem faultStore_addsEvents (s : State) : AddsEvents s (faultStore s) := by
  unfold faultStore
  split
  · exact ⟨.step .refl ..⟩
  · exact .refl s

theorem storeTimeOut_addsEvents (s : State) : AddsEvents s (storeTimeOut s) := by
  unfold storeTimeOut
  split
  · exact faultStore_addsEvents s
  · exact .refl s

/-! ## Passes, evaluations, enables and restarts (R37, R45 to R47, R49, R81) -/

theorem passGroup_addsEvents (e : QueueEntry) (g : GroupId) (s : State) : AddsEvents s (passGroup e g s) := by
  have served (u : State) : AddsEvents u { u with queue := { u.queue with served := u.queue.served ++ [g] } } :=
    .of_same rfl
  exact ((actOn_addsEvents (fun c _ => passEntry_events c e .refl) g s).trans (engineTake_addsEvents _)).trans
    (served _)

theorem leaveIfDone_addsEvents (e : QueueEntry) (s : State) : AddsEvents s (leaveIfDone e s) := by
  have removed (u : State) : AddsEvents u { u with queue := removeHead u.settings u.queue } := .of_same rfl
  unfold leaveIfDone finishEntry
  dsimp only
  split
  · exact .refl s
  · refine .trans ?_ (removed _)
    split
    · exact deliverNotice_addsEvents e.stream s
    · exact .refl s

theorem applyAt_addsEvents (g : GroupId) (s : State) : AddsEvents s (applyAt g s) := by
  unfold applyAt
  split
  · exact .refl s
  · refine .trans ?_ (leaveIfDone_addsEvents ..)
    split
    · exact passGroup_addsEvents _ g s
    · exact .refl s

theorem offerReport_addsEvents (g : GroupId) (r : ResultRecord) (s : State) : AddsEvents s (offerReport g r s) := by
  rw [offerReport_frame]
  exact .of_same rfl

theorem completeEvaluation_addsEvents (s : State) : AddsEvents s (completeEvaluation s) := by
  have idle : AddsEvents s { s with engine := none } := .of_same rfl
  unfold completeEvaluation
  split
  · exact .refl s
  · rename_i g _
    split
    · exact idle.trans (engineTake_addsEvents _)
    · rename_i i _
      have written := idle.trans
        (actOn_addsEvents (fun c _ => completeAtGroup_events c (evaluatedRecord s g i) i .refl) g _)
      refine .trans ?_ (engineTake_addsEvents _)
      split
      · exact written.trans (offerReport_addsEvents ..)
      · exact written

theorem enableGroup_addsEvents (g : GroupId) (s : State) : AddsEvents s (enableGroup g s) :=
  actOn_addsEvents (fun c _ => enableView_events c _ .refl) g s

theorem disableGroup_addsEvents (g : GroupId) (s : State) : AddsEvents s (disableGroup g s) :=
  ((endEvaluation_addsEvents g s).trans (actOn_addsEvents (fun c _ => disableView_events c .refl) g _)).trans
    (engineTake_addsEvents _)

theorem restartGroup_addsEvents (s : State) (g : GroupId) : AddsEvents s (restartGroup s g) := by
  unfold restartGroup
  split
  · exact (endEvaluation_addsEvents g s).trans (actOn_addsEvents (fun c _ => restartView_events c .refl) g _)
  · exact .refl s

theorem restartAnalysis_addsEvents (s : State) : AddsEvents s (restartAnalysis s) := by
  have groups : AddsEvents s (groupIxs.foldl restartGroup s) := .foldl restartGroup_addsEvents groupIxs s
  unfold restartAnalysis
  dsimp only
  generalize groupIxs.foldl restartGroup s = u at groups ⊢
  refine groups.trans (.trans ?_ (engineTake_addsEvents _))
  exact .of_same rfl

/-! ## Start-up (R193 to R195) -/

theorem startOnDefaults_addsEvents (s : State) : AddsEvents s (startOnDefaults s) := .of_same rfl

theorem startOnImage_addsEvents (c : ImageContents) (s : State) : AddsEvents s (startOnImage c s) := by
  have loaded : AddsEvents s (loadTables c false s) := .of_same rfl
  have enabled (u : State) (g : GroupId) : AddsEvents u (enableAtStart u g) := by
    unfold enableAtStart
    split
    · exact enableGroup_addsEvents g u
    · exact .refl u
  exact (loaded.trans (.foldl enabled groupIxs _)).trans (.of_same (endStartUp_events _))

theorem finishImageRead_addsEvents (s : State) : AddsEvents s (finishImageRead s) := by
  unfold finishImageRead
  split
  · split
    · exact startOnImage_addsEvents _ s
    · exact startOnDefaults_addsEvents s
    · exact startOnDefaults_addsEvents s
  · exact .refl s

theorem imageReadTimeOut_addsEvents (s : State) : AddsEvents s (imageReadTimeOut s) := by
  unfold imageReadTimeOut
  split
  · exact startOnDefaults_addsEvents s
  · exact .refl s

/-! ## The frame path (chapter 1) -/

theorem establishLink_addsEvents (p : Port) (s : State) : AddsEvents s (establishLink p s) := by
  unfold establishLink
  split
  · exact .of_same (setPort_events ..)
  · exact .refl s

theorem startPortA_addsEvents (s : State) : AddsEvents s (startPortA s) := by
  unfold startPortA
  split
  · exact .refl s
  · split <;> exact .of_same rfl

theorem chooseManagement_addsEvents (s : State) : AddsEvents s (chooseManagement s) := by
  unfold chooseManagement
  split <;> exact .of_same rfl

theorem arbiterChoice_addsEvents (s : State) : AddsEvents s (arbiterChoice s) := by
  unfold arbiterChoice
  split
  · split
    · split
      · exact chooseManagement_addsEvents s
      · exact .of_same rfl
    · exact chooseManagement_addsEvents s
  · exact .refl s

theorem arriveA_addsEvents (l : List Byte) (s : State) : AddsEvents s (arriveA l s) := by
  have offered (f : ForwardFrame) : AddsEvents s (offerForward f s) := offerForward_eq f s ▸ .of_same rfl
  unfold arriveA
  dsimp only
  split
  · exact (offered _).trans (superviseFrame_addsEvents ..)
  · exact offered _

theorem arriveB_addsEvents (l : List Byte) (s : State) : AddsEvents s (arriveB l s) := by
  unfold arriveB offerRequest offerReverse
  split <;> split <;> exact .of_same rfl

theorem receiveFrame_addsEvents (p : Port) (f : WireFrame) (s : State) : AddsEvents s (receiveFrame p f s) := by
  unfold receiveFrame
  split
  · cases p
    · exact arriveA_addsEvents f.bytes s
    · exact arriveB_addsEvents f.bytes s
  · exact .refl s

/-! ## Requests (R174) -/

theorem serveWriteStream_addsEvents : ServesBy AddsEvents serveWriteStream := by
  intro r s
  unfold serveWriteStream
  split
  · split <;> exact .of_same rfl
  · exact .refl s

theorem serveWriteGroup_addsEvents : ServesBy AddsEvents serveWriteGroup := by
  intro r s
  unfold serveWriteGroup
  split
  · split <;> exact .of_same rfl
  · exact .refl s

theorem serveWriteLimits_addsEvents : ServesBy AddsEvents serveWriteLimits := by
  intro r s
  unfold serveWriteLimits
  split
  · exact .refl s
  · dsimp only
    split
    · exact .refl s
    · split
      · exact .refl s
      · split
        · exact .refl s
        · rw [limitReply_state]
          exact .of_same rfl

theorem serveWriteSettings_addsEvents : ServesBy AddsEvents serveWriteSettings := by
  intro r s
  unfold serveWriteSettings
  dsimp only
  split <;> exact .of_same rfl

theorem serveCommit_addsEvents (g : GroupId) (s : State) : AddsEvents s (serveCommit g s).state := by
  show AddsEvents s (commitAt g s)
  unfold commitAt
  split
  · exact .of_same rfl
  · exact actOn_addsEvents (fun c _ => takeCommit_events c none .refl) g s

theorem serveEnable_addsEvents (g : GroupId) (s : State) : AddsEvents s (serveEnable g s).state := by
  unfold serveEnable
  split
  · exact .refl s
  · split
    · exact .refl s
    · exact enableGroup_addsEvents g s

theorem serveDisable_addsEvents (g : GroupId) (s : State) : AddsEvents s (serveDisable g s).state := by
  unfold serveDisable
  split
  · exact disableGroup_addsEvents g s
  · exact .refl s

theorem serveReleaseTrip_addsEvents (g : GroupId) (s : State) : AddsEvents s (serveReleaseTrip g s).state := by
  unfold serveReleaseTrip
  split
  · exact .refl s
  · split
    · exact .refl s
    · exact actOn_addsEvents (fun c _ => releaseView_events c .refl) g s

theorem serveSnap_addsEvents (g : GroupId) (s : State) : AddsEvents s (serveSnap g s).state := by
  unfold serveSnap
  split
  · split <;> exact .of_same rfl
  · exact .refl s

theorem serveHold_addsEvents (i : CaptureIx) (s : State) : AddsEvents s (serveHold i s).state := by
  unfold serveHold
  dsimp only
  split
  · exact .refl s
  · split <;> exact .of_same rfl

theorem serveRelease_addsEvents (i : CaptureIx) (s : State) : AddsEvents s (serveRelease i s).state := by
  unfold serveRelease
  split <;> exact .of_same rfl

theorem serveStoreConfig_addsEvents : ServesBy AddsEvents serveStoreConfig := by
  intro r s
  unfold serveStoreConfig
  split <;> exact .of_same rfl

theorem serveRestart_addsEvents : ServesBy AddsEvents serveRestart := by
  intro r s
  rw [serveRestart, done_state]
  exact restartAnalysis_addsEvents s

theorem serveResetPart_addsEvents : ServesBy AddsEvents serveResetPart := by
  intro r s
  unfold serveResetPart
  split <;> exact .of_same rfl

/-- The answer that joins its queue leaves the Event Queue. -/
theorem placeAnswer_events (r : Request) (p : Reply) : (placeAnswer r p).events = p.state.events := by
  obtain h | h := placeAnswer_cases r p <;> rw [h] <;> rfl

theorem takeRequest_addsEvents (mine : Request → Bool) {serve : Request → State → Reply}
    (h : ServesBy AddsEvents serve) (s : State) : AddsEvents s (takeRequest mine serve s) := by
  obtain hnone | ⟨r, rest, _, _, _, _, htaken⟩ := takeRequest_cases mine serve s
  · rw [hnone]
    exact .refl s
  · have served : AddsEvents s (serve r (leaveQueue r rest s)).state := ⟨(h r (leaveQueue r rest s)).created⟩
    exact htaken ▸ served.trans (.of_same (placeAnswer_events ..))

end Sys2Proof.Machine
end

section
/-! The Event Queue through every step: what each command and each millisecond does to it, and the law of R149. -/

namespace Sys2Proof.Machine

/-- What an act other than READ EVENTS does to the Event Queue: it creates records in it, or, as a part reset, in an
empty one (R20). -/
inductive EventsMove (s t : State) : Prop where
  | added (h : AddsEvents s t)
  | emptied (hswitch : t.switch = .bypass) (h : AddsEvents State.reset t)

theorem EventsMove.refl (s : State) : EventsMove s s := .added (.refl s)

/-- An act that is taken under a condition only. -/
theorem AddsEvents.ite {s t : State} {b : Bool} (h : AddsEvents s t) : AddsEvents s (if b then t else s) := by
  cases b
  · exact .refl s
  · exact h

/-! ## Part reset (R20, R186) -/

theorem partReset_eventsMove (p : Power) (s u : State) : EventsMove s (partReset p u) := .emptied rfl (.of_same rfl)

theorem resetPartTimeOut_eventsMove (s : State) : EventsMove s (resetPartTimeOut s) := by
  obtain h | h := resetPartTimeOut_cases s <;> rw [h]
  · exact .refl s
  · exact partReset_eventsMove ..

theorem loseLink_eventsMove (p : Port) (s : State) : EventsMove s (loseLink p s) := by
  have freed : AddsEvents s (setPort p { link := .down, sending := none } s) := .of_same (setPort_events ..)
  have dropped (u : State) : AddsEvents u (setForwardDrop u) := .of_same rfl
  unfold loseLink abandon
  split
  · dsimp only
    split
    · split
      · exact partReset_eventsMove ..
      · split
        · exact .added (freed.trans (dropped _))
        · exact .added freed
    · exact .added freed
  · exact .refl s

theorem completeTransmission_eventsMove (p : Port) (s : State) : EventsMove s (completeTransmission p s) := by
  unfold completeTransmission
  split
  · split
    · exact partReset_eventsMove ..
    · exact .added (.of_same (setPort_events ..))
  · exact .refl s

/-- One millisecond: the limits of start-up and of a store, then a pending reset, then the clocks. -/
theorem tick_eventsMove (s : State) : EventsMove s (tick s) := by
  have before : AddsEvents s (storeTimeOut (imageReadTimeOut s)) :=
    (imageReadTimeOut_addsEvents s).trans (storeTimeOut_addsEvents _)
  unfold tick takeDue
  split
  · obtain h | h := resetPartTimeOut_cases (storeTimeOut (imageReadTimeOut s)) <;> rw [h]
    · exact .added (before.trans (clocks_addEvents _))
    · have emptied (u : State) : AddsEvents State.reset (partReset .released u) := .of_same rfl
      exact .emptied (clocks_keepBanks _).switch ((emptied _).trans (clocks_addEvents _))
  · exact .refl s

/-! ## The commands that take a request (R174) -/

section
variable {mine : Request → Bool} {n : Nat} {serve : Request → State → Reply} (s : State)

theorem takeArgs_eventsMove (h : ServesBy AddsEvents serve) : EventsMove s (takeRequest mine (withArgs n serve) s) :=
  .added (takeRequest_addsEvents mine (withArgs_servesBy AddsEvents.refl n h) s)

theorem takeTable_eventsMove (h : ServesBy AddsEvents serve) : EventsMove s (takeRequest mine (withTable n serve) s) :=
  .added (takeRequest_addsEvents mine (withTable_servesBy AddsEvents.refl n h) s)

theorem takeGroup_eventsMove {serve : GroupId → State → Reply} (h : ∀ g s, AddsEvents s (serve g s).state) :
    EventsMove s (takeRequest mine (withArgs 1 (withGroup serve)) s) :=
  takeArgs_eventsMove s (withGroup_servesBy AddsEvents.refl h)

theorem takeSlot_eventsMove {serve : CaptureIx → State → Reply} (h : ∀ i s, AddsEvents s (serve i s).state) :
    EventsMove s (takeRequest mine (withArgs 1 (withSlot serve)) s) :=
  takeArgs_eventsMove s (withSlot_servesBy AddsEvents.refl h)

end

/-- A request that leaves the state leaves the Event Queue. -/
theorem addsEvents_of_state {serve : Request → State → Reply} (h : ∀ r s, (serve r s).state = s) :
    ServesBy AddsEvents serve := servesBy_of_state AddsEvents.refl h

/-- READ EVENTS removes records from the head, and leaves the records after them as they are (R153). -/
theorem readEvents_drops (s : State) :
    ∃ n, (takeRequest (hasCode .readEvents) (withArgs 1 serveReadEvents) s).events.records =
      s.events.records.drop n := by
  obtain hnone | ⟨r, rest, _, _, _, _, htaken⟩ :=
    takeRequest_cases (hasCode .readEvents) (withArgs 1 serveReadEvents) s
  · exact ⟨0, by rw [hnone, List.drop_zero]⟩
  · rw [htaken, placeAnswer_events]
    unfold withArgs
    split
    · exact ⟨clampTo 1 16 (argOf r 0), rfl⟩
    · exact ⟨0, rfl⟩

/-! ## The step -/

/-- Every command but READ EVENTS creates records in the Event Queue or resets the part, with the lines driven after
it. -/
theorem exec_eventsMove {c : Instr} (hc : c ≠ .readEvents) (s : State) :
    ∃ t, exec c s = .next (driveLines t) ∧ EventsMove s t := by
  have applied (g : GroupId) := applyAt_addsEvents g s
  cases c with
  | powerOn => exact ⟨_, rfl, partReset_eventsMove ..⟩
  | lossOfSupply => exact ⟨_, rfl, partReset_eventsMove ..⟩
  | nresetAssertion =>
    refine ⟨_, rfl, ?_⟩
    split
    · exact .refl s
    · exact partReset_eventsMove ..
  | nresetRelease =>
    refine ⟨_, rfl, .added ?_⟩
    split <;> exact .of_same rfl
  | imageRead => exact ⟨_, rfl, .added (finishImageRead_addsEvents s)⟩
  | imageReadTimeLimit => exact ⟨_, rfl, .added (imageReadTimeOut_addsEvents s)⟩
  | linkEstablished p => exact ⟨_, rfl, .added (establishLink_addsEvents p s)⟩
  | linkLoss p => exact ⟨_, rfl, loseLink_eventsMove p s⟩
  | frameArrival p f => exact ⟨_, rfl, .added (receiveFrame_addsEvents p f s)⟩
  | portATransmissionStart => exact ⟨_, rfl, .added (startPortA_addsEvents s)⟩
  | transmitArbiterChoice => exact ⟨_, rfl, .added (arbiterChoice_addsEvents s)⟩
  | transmissionComplete p => exact ⟨_, rfl, completeTransmission_eventsMove p s⟩
  | silenceDeadline i => exact ⟨_, rfl, .added (takeDeadline_addsEvents s i)⟩
  | rateIntervalEnd => exact ⟨_, rfl, .added (takeRateCheck_addsEvents s)⟩
  | applyEntry g => exact ⟨_, rfl, .added (applied g)⟩
  | cycleTooLate g => exact ⟨_, rfl, .added (applied g).ite⟩
  | acquisitionTimeout g => exact ⟨_, rfl, .added (applied g).ite⟩
  | holdoverWindowClose g => exact ⟨_, rfl, .added (applied g).ite⟩
  | evaluationCompletion => exact ⟨_, rfl, .added (completeEvaluation_addsEvents s)⟩
  | leak => exact ⟨_, rfl, .added (completeEvaluation_addsEvents s).ite⟩
  | resetPartTimeLimit => exact ⟨_, rfl, resetPartTimeOut_eventsMove s⟩
  | storeCompletion => exact ⟨_, rfl, .added (completeStore_addsEvents s)⟩
  | storeReadBackFault => exact ⟨_, rfl, .added (faultStore_addsEvents s)⟩
  | storeTimeLimit => exact ⟨_, rfl, .added (storeTimeOut_addsEvents s)⟩
  | unsupported => exact ⟨_, rfl, .added (takeRequest_addsEvents _ (addsEvents_of_state fun _ _ => rfl) s)⟩
  | identify => exact ⟨_, rfl, takeArgs_eventsMove s (addsEvents_of_state fun _ _ => rfl)⟩
  | readStatus => exact ⟨_, rfl, takeArgs_eventsMove s (addsEvents_of_state serveReadStatus_state)⟩
  | readEntryStream => exact ⟨_, rfl, takeTable_eventsMove s (addsEvents_of_state serveReadStream_state)⟩
  | readEntryGroup => exact ⟨_, rfl, takeTable_eventsMove s (addsEvents_of_state serveReadGroup_state)⟩
  | readEntryLimitBank => exact ⟨_, rfl, takeTable_eventsMove s (addsEvents_of_state serveReadLimits_state)⟩
  | readEntryPartSettings => exact ⟨_, rfl, takeTable_eventsMove s (addsEvents_of_state fun _ _ => rfl)⟩
  | writeEntryStream => exact ⟨_, rfl, takeTable_eventsMove s serveWriteStream_addsEvents⟩
  | writeEntryGroup => exact ⟨_, rfl, takeTable_eventsMove s serveWriteGroup_addsEvents⟩
  | writeEntryLimitBank => exact ⟨_, rfl, takeTable_eventsMove s serveWriteLimits_addsEvents⟩
  | writeEntryPartSettings => exact ⟨_, rfl, takeTable_eventsMove s serveWriteSettings_addsEvents⟩
  | commitLimits => exact ⟨_, rfl, takeGroup_eventsMove s serveCommit_addsEvents⟩
  | groupEnable => exact ⟨_, rfl, takeGroup_eventsMove s serveEnable_addsEvents⟩
  | groupDisable => exact ⟨_, rfl, takeGroup_eventsMove s serveDisable_addsEvents⟩
  | readResult => exact ⟨_, rfl, takeGroup_eventsMove s fun _ s => .refl s⟩
  | readEvents => exact absurd rfl hc
  | clearFirst => exact ⟨_, rfl, takeGroup_eventsMove s fun _ _ => .of_same rfl⟩
  | releaseTrip => exact ⟨_, rfl, takeGroup_eventsMove s serveReleaseTrip_addsEvents⟩
  | snap => exact ⟨_, rfl, takeGroup_eventsMove s serveSnap_addsEvents⟩
  | holdCapture => exact ⟨_, rfl, takeSlot_eventsMove s serveHold_addsEvents⟩
  | releaseCapture => exact ⟨_, rfl, takeSlot_eventsMove s serveRelease_addsEvents⟩
  | readCapture => exact ⟨_, rfl, takeArgs_eventsMove s (addsEvents_of_state serveReadCapture_state)⟩
  | readArray => exact ⟨_, rfl, takeArgs_eventsMove s (addsEvents_of_state serveReadArray_state)⟩
  | storeConfig => exact ⟨_, rfl, takeArgs_eventsMove s serveStoreConfig_addsEvents⟩
  | restartAnalysis => exact ⟨_, rfl, takeArgs_eventsMove s serveRestart_addsEvents⟩
  | resetPart => exact ⟨_, rfl, takeArgs_eventsMove s serveResetPart_addsEvents⟩

/-- The lines that are driven and the command that leaves the queue are no part of the Event Queue. -/
theorem driveLines_eventsMove {s t : State} {l : List Instr} (h : EventsMove (withPending l s) t) :
    EventsMove s (driveLines t) := by
  cases h with
  | added h => exact .added ⟨h.created⟩
  | emptied hswitch h => exact .emptied hswitch ⟨h.created⟩

/-- What a step can do to the Event Queue: what an act does, or what READ EVENTS does. -/
theorem step_events {s t : State} (h : step s = .next t) :
    EventsMove s t ∨
      (∃ rest, s.pending = .readEvents :: rest) ∧ ∃ n, t.events.records = s.events.records.drop n := by
  obtain ⟨_, hstep⟩ | ⟨c, rest, hpending, hstep⟩ := step_cases s
  · rw [hstep] at h
    cases h
    exact .inl (driveLines_eventsMove (l := s.pending) (tick_eventsMove s))
  · rw [hstep] at h
    by_cases hc : c = .readEvents
    · subst hc
      cases h
      exact .inr ⟨⟨rest, hpending⟩, readEvents_drops (withPending rest s)⟩
    · obtain ⟨u, hexec, hmoves⟩ := exec_eventsMove hc (withPending rest s)
      rw [hexec] at h
      cases h
      exact .inl (driveLines_eventsMove hmoves)

/-- Settles O14: a step creates records at the tail, empties the queue by a part reset, or is a READ EVENTS, which takes
records from the head. -/
theorem eventRecordsKeepTheirOrder : Obligations.EventRecordsKeepTheirOrder := by
  intro s t h
  obtain (hadds | ⟨hswitch, hadds⟩) | ⟨hread, n, hdrops⟩ := step_events h
  · obtain ⟨new, hnew⟩ := hadds.created.bare
    exact ⟨0, new, hnew, .inl rfl⟩
  · obtain ⟨new, hnew⟩ := hadds.created.bare
    refine ⟨s.events.records.length, new, ?_, .inr (.inl hswitch)⟩
    rw [hnew, List.drop_eq_nil_of_le (List.length_map ..).le]
    rfl
  · exact ⟨n, [], by rw [hdrops, List.map_drop, List.append_nil], .inr (.inr hread)⟩

end Sys2Proof.Machine
end

section
/-! READ EVENTS: the bytes of its answer (R151, R201), and the records that it removes (R153). -/

namespace Sys2Proof.Machine

/-- An event record as R201 lays it out. -/
theorem eventBytes_fields (r : EventRecord) :
    eventBytes r =
      fieldOf 2 r.seq.toNat ++ fieldOf 4 r.stamp.toNat ++ fieldOf 1 (eventHead r.event).1 ++
        fieldOf 1 (subjectCode (eventHead r.event).2) ++ fieldOf 1 (eventDetail r.event).1 ++
        fieldOf 1 (eventDetail r.event).2 ++ fieldOf 2 (r.detail2.getD 0).toNat ++
        fieldOf 1 ((if r.detail2.isSome then 1 else 0) + (if r.lostAfter then 2 else 0)) ++ [0, 0, 0] := by
  simp only [eventBytes, beBytes_eq_fieldOf]
  rfl

/-- READ EVENTS as R153 says it, `n` being the number asked for brought into its range. -/
theorem serveReadEvents_eq {n : Nat} {r : Request} (hn : n = min 16 (max 1 (argOf r 0))) (s : State) :
    serveReadEvents r s =
      reply (if n = argOf r 0 then .done else .doneClamped)
        (.events (s.events.records.take n) (s.events.records.length - n)) (dropEvents n s) := by
  have hclamped : n = clampTo 1 16 (argOf r 0) := hn
  rw [serveReadEvents, ← hclamped, doneIf, List.length_drop]
  by_cases hasked : n = argOf r 0 <;> simp [hasked]

/-- Settles O58: the codes of the events kind by kind, then the answer and what is left of the queue. -/
theorem readEventsRemovesTheOldestRecords : Obligations.ReadEventsRemovesTheOldestRecords := by
  refine ⟨fun records remaining => ?_, fun s r rest h => serves_of_asks rfl h (serveReadEvents_eq rfl _)⟩
  intro group stream parts bytes
  have hparts (e : Event) :
      parts e = ((eventHead e).1, subjectCode (eventHead e).2, (eventDetail e).1, (eventDetail e).2) := by
    cases e with
    | timing g t => cases t <;> rfl
    | level g l cause => cases l <;> cases cause <;> rfl
    | windowAborted g reason => cases reason <;> rfl
    | captureMiss g reason => cases reason <;> rfl
    | _ => rfl
  have hbytes : eventBytes = bytes := by
    funext r
    simp only [eventBytes_fields, bytes, hparts]
  rw [payloadBytes, beBytes_eq_fieldOf, beBytes_eq_fieldOf, hbytes]

end Sys2Proof.Machine
end

section
/-! The law of one capture slot by its state (R156, R157), and the law of both slots under each operation of the Capture
Unit (R158, R162 to R168). -/

namespace Sys2Proof.Machine

/-! ## One slot (R156, R157) -/

/-- A slot in use has an owner and from 1 to 15 holds (R156, R157). -/
structure InUse (x : CaptureSlot) : Prop where
  owner : x.owner.isSome
  pos : 1 ≤ x.holds
  limit : x.holds ≤ 15

/-- The channel of each used slot of the map holds as many values as the count says, that of an unused slot none (R156,
R162). -/
def ChannelsFit (x : CaptureSlot) : Prop :=
  ∀ k : SlotIx, x.channels[k].length = if x.map[k] = .unused then 0 else x.count

section
variable {x : CaptureSlot}

theorem SlotLawful.inUse (h : SlotLawful x) (hused : x.state ≠ .free) : InUse x := by
  obtain ⟨hfree, hlimit, _, howner, _⟩ := h
  exact ⟨howner hused, Nat.pos_of_ne_zero (hfree.not.mp hused), hlimit⟩

theorem SlotLawful.channelsFit (h : SlotLawful x) (hfilled : x.state = .filling ∨ x.state = .held) : ChannelsFit x := by
  obtain ⟨_, _, _, _, _, hfit⟩ := h
  exact hfit hfilled

/-- A FREE slot has no owner (R157). -/
theorem SlotLawful.used_of_owner {g : GroupId} (h : SlotLawful x) (howner : x.owner = some g) : x.state ≠ .free := by
  obtain ⟨_, _, hnothing, _⟩ := h
  intro hfree
  rw [hnothing hfree] at howner
  cases howner

/-- An ARMED slot without content. -/
theorem slotLawful_armed (h : InUse x) (hx : x = rearmed x) : SlotLawful x := by
  have harmed : x.state = .armed := congrArg CaptureSlot.state hx
  refine ⟨iff_of_false ?_ (Nat.ne_of_gt h.pos), h.limit, fun hfree => ?_, fun _ => h.owner, fun _ => hx,
    fun hfilled => ?_⟩
  · rw [harmed]
    decide
  · cases harmed.symm.trans hfree
  · rw [harmed] at hfilled
    exact hfilled.elim nofun nofun

theorem slotLawful_filled (h : InUse x) (hstate : x.state = .filling ∨ x.state = .held) (hfit : ChannelsFit x) :
    SlotLawful x := by
  have hnot (t : CaptureState) (hfilling : t ≠ .filling) (hheld : t ≠ .held) : x.state ≠ t := fun ht =>
    hstate.elim (fun hs => hfilling (ht.symm.trans hs)) fun hs => hheld (ht.symm.trans hs)
  have hfree := hnot .free nofun nofun
  exact ⟨iff_of_false hfree (Nat.ne_of_gt h.pos), h.limit, fun hf => absurd hf hfree, fun _ => h.owner,
    fun ha => absurd ha (hnot .armed nofun nofun), fun _ => hfit⟩

/-- A slot in use whose holds change within their bounds, or whose auto mark changes. -/
theorem SlotLawful.marked (h : SlotLawful x) (hused : x.state ≠ .free) {n : Nat} (hpos : 1 ≤ n) (hlimit : n ≤ 15)
    (b : Bool) : SlotLawful { x with holds := n, auto := b } := by
  obtain ⟨_, _, _, howner, harmed, hfit⟩ := h
  exact ⟨iff_of_false hused (Nat.ne_of_gt hpos), hlimit, fun hf => absurd hf hused, howner,
    fun ha => congrArg (fun y : CaptureSlot => { y with holds := n, auto := b }) (harmed ha), hfit⟩

/-- A FILLING slot armed again, its content discarded (R164). -/
theorem SlotLawful.rearmed (h : SlotLawful x) (hused : x.state ≠ .free) : SlotLawful (rearmed x) := by
  obtain ⟨howner, hpos, hlimit⟩ := h.inUse hused
  exact slotLawful_armed ⟨howner, hpos, hlimit⟩ rfl

/-- A slot that begins to fill (R162). -/
theorem SlotLawful.opened (h : SlotLawful x) (hused : x.state ≠ .free) (number : BitVec 32) (startSeq : Nat)
    (kind : WindowKind) (map : Vector SlotUse 4) :
    SlotLawful { x with state := .filling, number := number, startSeq := startSeq, kind := kind, count := 0,
                        map := map, channels := Vector.replicate 4 [] } := by
  obtain ⟨howner, hpos, hlimit⟩ := h.inUse hused
  refine slotLawful_filled ⟨howner, hpos, hlimit⟩ (.inl rfl) fun k => ?_
  simp

/-- A FILLING slot that takes a sample (R162). -/
theorem SlotLawful.written (h : SlotLawful x) (hfilling : x.state = .filling) (vals : Vector Int 4) :
    SlotLawful { x with count := x.count + 1, channels := writeChannels x.map vals x.channels } := by
  have hfit := h.channelsFit (.inl hfilling)
  obtain ⟨howner, hpos, hlimit⟩ := h.inUse (hfilling ▸ nofun)
  refine slotLawful_filled ⟨howner, hpos, hlimit⟩ (.inl hfilling) fun k => ?_
  have hk := hfit k
  dsimp only
  rw [writeChannels_get]
  by_cases hunused : x.map[k] = .unused
  · simpa only [hunused, if_true] using hk
  · simp only [hunused, if_false, List.length_append, List.length_singleton] at hk ⊢
    rw [hk]

/-- A FILLING slot whose window closes (R163). -/
theorem SlotLawful.completed (h : SlotLawful x) (hfilling : x.state = .filling) :
    SlotLawful { x with state := .held } := by
  obtain ⟨howner, hpos, hlimit⟩ := h.inUse (hfilling ▸ nofun)
  exact slotLawful_filled ⟨howner, hpos, hlimit⟩ (.inr rfl) (h.channelsFit (.inl hfilling))

end

theorem armedSlot_lawful (g : GroupId) (t : Trigger) : SlotLawful (armedSlot g t) :=
  slotLawful_armed ⟨rfl, Nat.le_refl 1, Nat.le_add_left 1 14⟩ rfl

/-! ## Both slots (R158) -/

section
variable {c : Captures} {i : CaptureIx}

/-- One slot replaced by a lawful one of the same owner, or of a group that owned none. -/
theorem CapturesLawful.replace {c' : Captures} {x : CaptureSlot} (h : CapturesLawful c)
    (hc : c'.slots = upd c.slots i x) (hx : SlotLawful x)
    (howner : ∀ g, x.owner = some g → c.slots[i].owner = some g ∨ ∀ k : CaptureIx, c.slots[k].owner ≠ some g) :
    CapturesLawful c' := by
  obtain ⟨hslots, hdiffer⟩ := h
  have hsame : c'.slots[i] = x := by rw [hc, upd_get_same]
  have hother : c'.slots[other i] = c.slots[other i] := by rw [hc, upd_get_ne _ _ (other_ne i).symm]
  refine ⟨fun j => ?_, (ownersDiffer_iff c' i).mpr fun g hboth => ?_⟩
  · obtain rfl | rfl := fin_two_cases i j
    · exact hsame ▸ hx
    · exact hother ▸ hslots _
  · rw [hsame, hother] at hboth
    obtain hmine | hnone := howner g hboth.1
    · exact (ownersDiffer_iff c i).mp hdiffer g ⟨hmine, hboth.2⟩
    · exact hnone _ hboth.2

theorem CapturesLawful.setSlot {x : CaptureSlot} (h : CapturesLawful c) (hx : SlotLawful x)
    (howner : x.owner = c.slots[i].owner) : CapturesLawful (setSlot i x c) :=
  h.replace rfl hx fun _ hg => .inl (howner ▸ hg)

theorem CapturesLawful.used {g : GroupId} (h : CapturesLawful c) (howner : c.slots[i].owner = some g) :
    c.slots[i].state ≠ .free := (h.1 i).used_of_owner howner

/-! ## Claims, holds and releases (R158, R160, R165 to R168) -/

theorem freeSlot_capturesLawful (i : CaptureIx) (h : CapturesLawful c) : CapturesLawful (freeSlot i c) :=
  h.replace rfl slotLawful_free nofun

theorem claimSlot_capturesLawful {g : GroupId} {t : Trigger} {c' : Captures} {new : Bool} (h : CapturesLawful c)
    (hclaim : claimSlot g t c = .ok (i, new, c')) : CapturesLawful c' := by
  obtain ⟨howner, hroom, _, rfl⟩ | ⟨hnone, _, _, rfl⟩ := claimSlot_ok hclaim
  · exact h.setSlot ((h.1 i).marked (h.used howner) (Nat.le_add_left ..) hroom _) rfl
  · refine h.replace rfl (armedSlot_lawful g t) fun k hk => .inr ?_
    cases hk
    exact hnone

theorem addHold_capturesLawful (h : CapturesLawful c) (hused : c.slots[i].state ≠ .free)
    (hroom : c.slots[i].holds < 15) : CapturesLawful (addHold i c) := h.setSlot ((h.1 i).marked hused (Nat.le_add_left ..) hroom _) rfl

theorem releaseHold_capturesLawful (i : CaptureIx) (h : CapturesLawful c) : CapturesLawful (releaseHold i c) := by
  obtain ⟨_, hfree⟩ | ⟨hmore, hkeep⟩ := releaseHold_cases i c
  · exact hfree ▸ freeSlot_capturesLawful i h
  · obtain ⟨hfree, hlimit, _⟩ := h.1 i
    have hused : c.slots[i].state ≠ .free := hfree.not.mpr (by omega)
    exact hkeep ▸ h.setSlot ((h.1 i).marked hused (by omega) (by omega) _) rfl

/-- A slot in use whose auto mark is cleared (R167, R168). -/
theorem unmarked_capturesLawful (h : CapturesLawful c) (hused : c.slots[i].state ≠ .free) :
    CapturesLawful (setSlot i { c.slots[i] with auto := false } c) := by
  obtain ⟨_, hpos, hlimit⟩ := (h.1 i).inUse hused
  exact h.setSlot ((h.1 i).marked hused hpos hlimit false) rfl

theorem releaseTripHold_capturesLawful (g : GroupId) (h : CapturesLawful c) : CapturesLawful (releaseTripHold g c) := by
  unfold releaseTripHold
  split
  · rename_i i hi
    split
    · exact releaseHold_capturesLawful i (unmarked_capturesLawful h (h.used (ownedSlot_some hi)))
    · exact h
  · exact h

theorem endSlot_capturesLawful (i : CaptureIx) (h : CapturesLawful c) : CapturesLawful (endSlot i c) := by
  obtain ⟨_, hend⟩ | ⟨_, hend⟩ | ⟨hheld, hend⟩ := endSlot_cases i c <;> rw [hend]
  · exact h
  · exact freeSlot_capturesLawful i h
  · exact unmarked_capturesLawful h (hheld ▸ nofun)

theorem endGroupSlot_capturesLawful (g : GroupId) (h : CapturesLawful c) : CapturesLawful (endGroupSlot g c) := by
  unfold endGroupSlot
  split
  · exact endSlot_capturesLawful _ h
  · exact h

theorem endAllSlots_capturesLawful (h : CapturesLawful c) : CapturesLawful (endAllSlots c) :=
  endSlot_capturesLawful 1 (endSlot_capturesLawful 0 h)

/-! ## Filling (R162 to R164) -/

theorem captureOpen_capturesLawful (g : GroupId) (number : BitVec 32) (startSeq : Nat) (kind : WindowKind)
    (map : Vector SlotUse 4) (h : CapturesLawful c) : CapturesLawful (captureOpen g number startSeq kind map c) := by
  unfold captureOpen
  split
  · rename_i i hi
    split
    · exact h.setSlot ((h.1 i).opened (h.used (ownedSlot_some hi)) ..) rfl
    · exact h
  · exact h

theorem captureWrite_capturesLawful (g : GroupId) (vals : Vector Int 4) (h : CapturesLawful c) :
    CapturesLawful (captureWrite g vals c) := by
  unfold captureWrite
  split
  · rename_i i _
    split
    · rename_i hfilling
      exact h.setSlot ((h.1 i).written hfilling vals) rfl
    · exact h
  · exact h

theorem captureAbort_capturesLawful (g : GroupId) (h : CapturesLawful c) : CapturesLawful (captureAbort g c) := by
  unfold captureAbort
  split
  · rename_i i hi
    obtain ⟨howner, _⟩ := fillingSlot_some hi
    exact h.setSlot ((h.1 i).rearmed (h.used howner)) rfl
  · exact h

end

end Sys2Proof.Machine
end

section
/-! The law of the capture slots through the acts at one group: samples, passes, silence notices, completions, disables,
restarts and releases (R160, R162 to R164, R167, R168). -/

namespace Sys2Proof.Machine

section
variable {v : GroupView} (c : GroupContext)

/-! ## Windows (R68, R75 to R77) -/

theorem openWindow_capturesLawful (kind : WindowKind) (seq : Nat) (h : CapturesLawful v.captures) :
    CapturesLawful (openWindow c kind seq v).captures := captureOpen_capturesLawful _ _ _ _ _ h

theorem captureClose_capturesLawful (h : CapturesLawful v.captures) : CapturesLawful (captureClose c v).captures := by
  unfold captureClose
  split
  · rename_i i hi
    obtain ⟨_, hfilling⟩ := fillingSlot_some hi
    exact h.setSlot ((h.1 i).completed hfilling) rfl
  · exact h

theorem closeWindow_capturesLawful (follows : Bool) (h : CapturesLawful v.captures) :
    CapturesLawful (closeWindow c follows v).captures := by
  cases hopen : setIn .accumulating v.grp.sets with
  | none =>
    rw [closeWindow, hopen]
    exact h
  | some i =>
    rw [closeWindow_eq hopen]
    exact captureClose_capturesLawful c (v := windowClosed c i follows v) h

theorem abortWindow_capturesLawful (reason : AbortReason) (follows : Bool) (h : CapturesLawful v.captures) :
    CapturesLawful (abortWindow c reason follows v).captures := by
  unfold abortWindow
  split
  · exact captureAbort_capturesLawful _ h
  · exact h

/-! ## Samples (R54 to R59) -/

theorem bufferSample_capturesLawful (x : Sample) (h : CapturesLawful v.captures) :
    CapturesLawful (bufferSample c x v).captures := captureWrite_capturesLawful _ _ h

theorem openTracking_capturesLawful (seq : Nat) (x : Sample) (h : CapturesLawful v.captures) :
    CapturesLawful (openTracking c seq x v).captures :=
  captureWrite_capturesLawful _ _ (openWindow_capturesLawful c .tracking seq h)

theorem acquiringSample_capturesLawful (seq : Nat) (x : Sample) (w : Verdict) (h : CapturesLawful v.captures) :
    CapturesLawful (acquiringSample c seq x w v).captures := by
  dsimp only [acquiringSample]
  split
  · exact openTracking_capturesLawful c seq x h
  · split <;> exact h

theorem acceptedCycle_capturesLawful (seq : Nat) (x : Sample) (len : Nat) (h : CapturesLawful v.captures) :
    CapturesLawful (acceptedCycle c seq x len v).captures := by
  dsimp only [acceptedCycle]
  split
  · exact openTracking_capturesLawful c seq x (closeWindow_capturesLawful c true h)
  · exact bufferSample_capturesLawful c x h

theorem trackingSample_capturesLawful (seq : Nat) (x : Sample) (w : Verdict) (h : CapturesLawful v.captures) :
    CapturesLawful (trackingSample c seq x w v).captures := by
  have lost := abortWindow_capturesLawful c .timingLoss true h
  cases w with
  | none => exact bufferSample_capturesLawful c x h
  | accepted len => exact acceptedCycle_capturesLawful c seq x len h
  | early => exact lost
  | late => exact lost

theorem closeHoldover_capturesLawful (h : CapturesLawful v.captures) :
    CapturesLawful (closeHoldover c v).captures := by
  dsimp only [closeHoldover]
  split
  · exact closeWindow_capturesLawful c false h
  · exact closeWindow_capturesLawful c true h

theorem holdoverSample_capturesLawful (seq : Nat) (x : Sample) (h : CapturesLawful v.captures) :
    CapturesLawful (holdoverSample c seq x v).captures := by
  have opened :
      CapturesLawful (if v.grp.tracker.winSamples = 0 then openWindow c .holdover seq v else v).captures := by
    split
    · exact openWindow_capturesLawful c .holdover seq h
    · exact h
  dsimp only [holdoverSample]
  generalize (if v.grp.tracker.winSamples = 0 then openWindow c .holdover seq v else v) = w at opened ⊢
  have written := captureWrite_capturesLawful c.group x.vals opened
  split
  · exact closeHoldover_capturesLawful c written
  · exact written

theorem aligningSample_capturesLawful (seq : Nat) (x : Sample) (crossing : Bool) (w : Verdict)
    (h : CapturesLawful v.captures) : CapturesLawful (aligningSample c seq x crossing w v).captures := by
  unfold aligningSample
  split
  · exact openTracking_capturesLawful c seq x h
  · split
    · exact holdoverSample_capturesLawful c seq x (v := enterHoldover c v) h
    · exact h

theorem handleSample_capturesLawful (seq : Nat) (x : Sample) (h : CapturesLawful v.captures) :
    CapturesLawful (handleSample c seq x v).captures := by
  have moved : CapturesLawful (tracked c x v).captures := h
  cases htiming : v.grp.tracker.timing with
  | disabled => exact handleSample_disabled htiming ▸ moved
  | noSignal => exact handleSample_noSignal htiming ▸ moved
  | acquiring => exact handleSample_acquiring htiming ▸ acquiringSample_capturesLawful c seq x _ moved
  | tracking => exact handleSample_tracking htiming ▸ trackingSample_capturesLawful c seq x _ moved
  | holdover => exact handleSample_holdover htiming ▸ holdoverSample_capturesLawful c seq x moved
  | aligning => exact handleSample_aligning htiming ▸ aligningSample_capturesLawful c seq x _ _ moved

/-! ## Passes and silence notices (R49, R60, R63) -/

theorem largeGap_capturesLawful (h : CapturesLawful v.captures) : CapturesLawful (largeGap c v).captures := by
  cases htiming : v.grp.tracker.timing with
  | disabled => simpa only [largeGap, htiming] using h
  | noSignal => simpa only [largeGap, htiming] using h
  | acquiring => exact largeGap_acquiring htiming ▸ h
  | tracking => exact largeGap_tracking htiming ▸ abortWindow_capturesLawful c .gap false h
  | aligning => exact largeGap_aligning htiming ▸ h
  | holdover =>
    rw [largeGap_holdover htiming]
    split
    · exact abortWindow_capturesLawful c .gap true h
    · exact h

theorem signalReturned_captures (v : GroupView) : (signalReturned c v).captures = v.captures := by
  unfold signalReturned
  split <;> rfl

theorem passFinished_capturesLawful (e : QueueEntry) (h : CapturesLawful v.captures) :
    CapturesLawful (passFinished c e v).captures :=
  handleSample_capturesLawful c e.seq (realSample e v.grp)
    (v := onTracker (fun t => { t with last := lastAfter e v.grp }) v) h

theorem passEntry_capturesLawful (e : QueueEntry) (h : CapturesLawful v.captures) :
    CapturesLawful (passEntry c e v).captures := by
  have returned : CapturesLawful (signalReturned c v).captures := signalReturned_captures c v ▸ h
  obtain hlarge | hsmall := Nat.lt_or_ge v.grp.config.gapLimit (gapOf c e v.grp.tracker)
  · rw [passEntry_large hlarge]
    exact passFinished_capturesLawful c e (largeGap_capturesLawful c returned)
  · rw [passEntry_small hsmall]
    exact passFinished_capturesLawful c e
      (List.foldlRecOn (motive := fun w : GroupView => CapturesLawful w.captures) (heldSeqs c e v.grp.tracker) _
        returned fun _ hw n _ => handleSample_capturesLawful c n _ hw)

theorem silenceNotice_capturesLawful (h : CapturesLawful v.captures) :
    CapturesLawful (silenceNotice c v).captures := by
  rw [silenceNotice_eq]
  unfold noticeCaptures
  split
  · exact captureAbort_capturesLawful _ h
  · exact h

/-! ## Completions (R160) -/

theorem autoCapture_capturesLawful (n : BitVec 32) (h : CapturesLawful v.captures) :
    CapturesLawful (autoCapture c n v).captures := by
  unfold autoCapture
  split
  · rename_i hclaim
    exact claimSlot_capturesLawful h hclaim
  · exact h

theorem completeAtGroup_capturesLawful (r : ResultRecord) (i : SetIx) (h : CapturesLawful v.captures) :
    CapturesLawful (completeAtGroup r i c v).captures := by
  dsimp only [completeAtGroup, levelWindow]
  split
  · exact h
  · split
    · exact autoCapture_capturesLawful c _ (v := raiseEvent _ _ _ _) h
    · exact h

end

end Sys2Proof.Machine
end

section
/-! The law of the capture slots through every step (R156 to R158). -/

namespace Sys2Proof.Machine

/-- From `s` to `t` the capture slots stay lawful; such acts can follow one another. -/
structure KeepsCaptures (s t : State) : Prop where
  lawful : CapturesLawful s.captures → CapturesLawful t.captures

namespace KeepsCaptures

theorem refl (s : State) : KeepsCaptures s s := ⟨id⟩

theorem trans {s t u : State} (h : KeepsCaptures s t) (k : KeepsCaptures t u) : KeepsCaptures s u :=
  ⟨k.lawful ∘ h.lawful⟩

theorem foldl {α : Type} {f : State → α → State} (h : ∀ s a, KeepsCaptures s (f s a)) (l : List α) (s : State) :
    KeepsCaptures s (l.foldl f s) := List.foldlRecOn l f (refl s) fun u hu a _ => hu.trans (h u a)

/-- An act that leaves the Capture Unit as it stands. -/
theorem of_same {s t : State} (h : t.captures = s.captures) : KeepsCaptures s t := ⟨h ▸ id⟩

/-- An act that is taken under a condition only. -/
theorem ite {s t : State} {b : Bool} (h : KeepsCaptures s t) : KeepsCaptures s (if b then t else s) := by
  cases b
  · exact refl s
  · exact h

end KeepsCaptures

/-! ## Acts that leave the Capture Unit as it stands -/

theorem setPort_captures (p : Port) (x : PortState) (s : State) : (setPort p x s).captures = s.captures := by
  cases p <;> rfl

theorem establishLink_captures (p : Port) (s : State) : (establishLink p s).captures = s.captures := by
  unfold establishLink
  split
  · exact setPort_captures ..
  · rfl

theorem startPortA_captures (s : State) : (startPortA s).captures = s.captures := by
  unfold startPortA
  split
  · rfl
  · split <;> rfl

theorem chooseManagement_captures (s : State) : (chooseManagement s).captures = s.captures := by
  unfold chooseManagement
  split <;> rfl

theorem arbiterChoice_captures (s : State) : (arbiterChoice s).captures = s.captures := by
  unfold arbiterChoice
  split
  · split
    · split
      · exact chooseManagement_captures s
      · rfl
    · exact chooseManagement_captures s
  · rfl

theorem Supervises.captures {s t : State} (h : Supervises s t) : t.captures = s.captures := by
  obtain ⟨_, _, _, rfl⟩ := h
  rfl

theorem receiveFrame_captures (p : Port) (f : WireFrame) (s : State) : (receiveFrame p f s).captures = s.captures := by
  unfold receiveFrame
  split
  · cases p
    · show (arriveA f.bytes s).captures = s.captures
      rw [(arriveA_supervises f.bytes s).captures, offerForward_eq]
    · show (arriveB f.bytes s).captures = s.captures
      unfold arriveB offerRequest offerReverse
      split <;> split <;> rfl
  · rfl

theorem completeStore_captures (s : State) : (completeStore s).captures = s.captures := by
  unfold completeStore
  split <;> rfl

theorem faultStore_captures (s : State) : (faultStore s).captures = s.captures := by
  unfold faultStore
  split <;> rfl

theorem storeTimeOut_captures (s : State) : (storeTimeOut s).captures = s.captures := by
  unfold storeTimeOut
  split
  · exact faultStore_captures s
  · rfl

theorem takeRateCheck_captures (s : State) : (takeRateCheck s).captures = s.captures := by
  unfold takeRateCheck
  split
  · rw [rateCheck_eq]
  · rfl

theorem countRate_captures (s : State) : (countRate s).captures = s.captures := by
  unfold countRate
  split <;> rfl

theorem engineTake_captures (s : State) : (engineTake s).captures = s.captures := by rw [engineTake_fields]

theorem startOnImage_captures (c : ImageContents) (s : State) : (startOnImage c s).captures = s.captures := by
  have enabled (u : State) (g : GroupId) : (enableAtStart u g).captures = u.captures := by
    unfold enableAtStart
    split <;> rfl
  have loaded : (loadTables c false s).captures = s.captures := rfl
  exact (endStartUp_captures _).trans
    (List.foldlRecOn (motive := fun u : State => u.captures = s.captures) groupIxs enableAtStart loaded
      fun u hu g _ => (enabled u g).trans hu)

theorem finishImageRead_captures (s : State) : (finishImageRead s).captures = s.captures := by
  unfold finishImageRead
  split
  · split
    · exact startOnImage_captures ..
    · rfl
    · rfl
  · rfl

theorem imageReadTimeOut_captures (s : State) : (imageReadTimeOut s).captures = s.captures := by
  unfold imageReadTimeOut
  split <;> rfl

/-! ## Part reset, which frees both slots (R20) -/

theorem partReset_keepsCaptures (p : Power) (s u : State) : KeepsCaptures s (partReset p u) :=
  ⟨fun _ => reset_capturesLawful⟩

theorem resetPartTimeOut_keepsCaptures (s : State) : KeepsCaptures s (resetPartTimeOut s) := by
  obtain h | h := resetPartTimeOut_cases s <;> rw [h]
  · exact .refl s
  · exact partReset_keepsCaptures ..

theorem loseLink_keepsCaptures (p : Port) (s : State) : KeepsCaptures s (loseLink p s) := by
  have freed : KeepsCaptures s (setPort p { link := .down, sending := none } s) := .of_same (setPort_captures ..)
  have dropped (u : State) : KeepsCaptures u (setForwardDrop u) := .of_same rfl
  unfold loseLink abandon
  split
  · dsimp only
    split
    · split
      · exact partReset_keepsCaptures ..
      · split
        · exact freed.trans (dropped _)
        · exact freed
    · exact freed
  · exact .refl s

theorem completeTransmission_keepsCaptures (p : Port) (s : State) : KeepsCaptures s (completeTransmission p s) := by
  unfold completeTransmission
  split
  · split
    · exact partReset_keepsCaptures ..
    · exact .of_same (setPort_captures ..)
  · exact .refl s

/-! ## Acts at groups (R49, R60, R81, R160) -/

theorem actOn_keepsCaptures {f : GroupContext → GroupView → GroupView}
    (hf : ∀ c (v : GroupView), CapturesLawful v.captures → CapturesLawful (f c v).captures) (g : GroupId) (s : State) :
    KeepsCaptures s (actOn s g f) := ⟨hf (contextOf s g) (viewGroup s g)⟩

theorem engineTake_keepsCaptures (s : State) : KeepsCaptures s (engineTake s) := .of_same (engineTake_captures s)

theorem deliverNotice_keepsCaptures (i : StreamId) (s : State) : KeepsCaptures s (deliverNotice i s) := by
  refine .foldl (fun s g => ?_) groupIxs s
  unfold noticeGroup
  split
  · exact actOn_keepsCaptures (fun c _ => silenceNotice_capturesLawful c) g s
  · exact .refl s

theorem placeNotice_keepsCaptures (i : StreamId) (s : State) : KeepsCaptures s (placeNotice i s) := by
  unfold placeNotice
  split
  · exact .of_same rfl
  · split
    · exact .of_same rfl
    · exact deliverNotice_keepsCaptures i s

theorem takeDeadline_keepsCaptures (s : State) (i : StreamId) : KeepsCaptures s (takeDeadline s i) := by
  have raised (r : Supervision) : KeepsCaptures s (raiseAt (.streamSilent i) (setSupervision i r s)) := .of_same rfl
  unfold takeDeadline
  split
  · exact (raised _).trans (placeNotice_keepsCaptures i _)
  · exact .refl s

theorem passGroup_keepsCaptures (e : QueueEntry) (g : GroupId) (s : State) : KeepsCaptures s (passGroup e g s) := by
  have passed : KeepsCaptures s (afterPass e g s) :=
    ⟨passEntry_capturesLawful (contextOf s g) e (v := viewGroup s g)⟩
  exact passGroup_eq e g s ▸ passed.trans (engineTake_keepsCaptures _)

theorem leaveIfDone_keepsCaptures (e : QueueEntry) (s : State) : KeepsCaptures s (leaveIfDone e s) := by
  have removed (u : State) : KeepsCaptures u { u with queue := removeHead u.settings u.queue } := .of_same rfl
  unfold leaveIfDone finishEntry
  dsimp only
  split
  · exact .refl s
  · refine .trans ?_ (removed _)
    split
    · exact deliverNotice_keepsCaptures e.stream s
    · exact .refl s

theorem applyAt_keepsCaptures (g : GroupId) (s : State) : KeepsCaptures s (applyAt g s) := by
  unfold applyAt
  split
  · exact .refl s
  · refine .trans ?_ (leaveIfDone_keepsCaptures ..)
    split
    · exact passGroup_keepsCaptures _ g s
    · exact .refl s

theorem completeEvaluation_keepsCaptures (s : State) : KeepsCaptures s (completeEvaluation s) := by
  have idle : KeepsCaptures s { s with engine := none } := .of_same rfl
  have offered (g : GroupId) (r : ResultRecord) (u : State) : KeepsCaptures u (offerReport g r u) :=
    offerReport_frame (g := g) (r := r) (s := u) ▸ .of_same rfl
  unfold completeEvaluation
  split
  · exact .refl s
  · rename_i g _
    split
    · exact idle.trans (engineTake_keepsCaptures _)
    · rename_i i _
      have written := idle.trans
        (actOn_keepsCaptures (fun c _ => completeAtGroup_capturesLawful c (evaluatedRecord s g i) i) g _)
      refine .trans ?_ (engineTake_keepsCaptures _)
      split
      · exact written.trans (offered ..)
      · exact written

/-! ## Disables and restarts (R46, R168, R185) -/

theorem disableGroup_keepsCaptures (g : GroupId) (s : State) : KeepsCaptures s (disableGroup g s) := by
  have ended : KeepsCaptures s (afterDisable g s) := ⟨endGroupSlot_capturesLawful g⟩
  exact disableGroup_eq g s ▸ ended.trans (engineTake_keepsCaptures _)

theorem restartAnalysis_keepsCaptures (s : State) : KeepsCaptures s (restartAnalysis s) := by
  have restarted : Restarts s (groupIxs.foldl restartGroup s) :=
    List.foldlRecOn groupIxs restartGroup (.refl s) fun u hu g _ => hu.trans (restartGroup_restarts u g)
  unfold restartAnalysis
  dsimp only
  generalize groupIxs.foldl restartGroup s = u at restarted ⊢
  refine .trans ⟨fun hs => ?_⟩ (engineTake_keepsCaptures _)
  exact endAllSlots_capturesLawful (restarted.captures ▸ hs)

/-! ## Requests that reach the Capture Unit (R46, R131, R159, R165, R166, R185) -/

theorem serveDisable_keepsCaptures (g : GroupId) (s : State) : KeepsCaptures s (serveDisable g s).state := by
  unfold serveDisable
  split
  · exact disableGroup_keepsCaptures g s
  · exact .refl s

theorem serveReleaseTrip_keepsCaptures (g : GroupId) (s : State) : KeepsCaptures s (serveReleaseTrip g s).state := by
  unfold serveReleaseTrip
  split
  · exact .refl s
  · split
    · exact .refl s
    · exact actOn_keepsCaptures (f := releaseView) (fun c _ => releaseTripHold_capturesLawful c.group) g s

theorem serveSnap_keepsCaptures (g : GroupId) (s : State) : KeepsCaptures s (serveSnap g s).state := by
  unfold serveSnap
  split
  · split
    · rename_i hclaim
      exact ⟨fun hs => claimSlot_capturesLawful hs hclaim⟩
    · exact .refl s
  · exact .refl s

theorem serveHold_keepsCaptures (i : CaptureIx) (s : State) : KeepsCaptures s (serveHold i s).state := by
  unfold serveHold
  dsimp only
  split
  · exact .refl s
  · rename_i hused
    split
    · exact .refl s
    · rename_i hroom
      exact ⟨fun hs => addHold_capturesLawful hs hused (Nat.lt_of_not_le hroom)⟩

theorem serveRelease_keepsCaptures (i : CaptureIx) (s : State) : KeepsCaptures s (serveRelease i s).state := by
  unfold serveRelease
  split
  · exact .refl s
  · exact ⟨releaseHold_capturesLawful i⟩

theorem serveRestart_keepsCaptures : ServesBy KeepsCaptures serveRestart := by
  intro r s
  rw [serveRestart, done_state]
  exact restartAnalysis_keepsCaptures s

/-! ## Requests that leave the Capture Unit as it stands -/

theorem serveWriteStream_keepsCaptures : ServesBy KeepsCaptures serveWriteStream := by
  intro r s
  unfold serveWriteStream
  split
  · split <;> exact .of_same rfl
  · exact .refl s

theorem serveWriteGroup_keepsCaptures : ServesBy KeepsCaptures serveWriteGroup := by
  intro r s
  unfold serveWriteGroup
  split
  · split <;> exact .of_same rfl
  · exact .refl s

theorem serveWriteLimits_keepsCaptures : ServesBy KeepsCaptures serveWriteLimits := by
  intro r s
  unfold serveWriteLimits
  split
  · exact .refl s
  · dsimp only
    split
    · exact .refl s
    · split
      · exact .refl s
      · split
        · exact .refl s
        · rw [limitReply_state]
          exact .of_same rfl

theorem serveWriteSettings_keepsCaptures : ServesBy KeepsCaptures serveWriteSettings := by
  intro r s
  unfold serveWriteSettings
  dsimp only
  split <;> exact .of_same rfl

theorem serveCommit_keepsCaptures (g : GroupId) (s : State) : KeepsCaptures s (serveCommit g s).state := by
  show KeepsCaptures s (commitAt g s)
  unfold commitAt
  split <;> exact .of_same rfl

theorem serveEnable_keepsCaptures (g : GroupId) (s : State) : KeepsCaptures s (serveEnable g s).state := by
  unfold serveEnable
  split
  · exact .refl s
  · split <;> exact .of_same rfl

theorem serveStoreConfig_keepsCaptures : ServesBy KeepsCaptures serveStoreConfig := by
  intro r s
  unfold serveStoreConfig
  split <;> exact .of_same rfl

theorem serveResetPart_keepsCaptures : ServesBy KeepsCaptures serveResetPart := by
  intro r s
  unfold serveResetPart
  split <;> exact .of_same rfl

/-! ## The taking of a request (R174) -/

section
variable {mine : Request → Bool} {n : Nat} {serve : Request → State → Reply} (s : State)

/-- The answer that joins its queue leaves the Capture Unit. -/
theorem placeAnswer_captures (r : Request) (p : Reply) : (placeAnswer r p).captures = p.state.captures := by
  obtain h | h := placeAnswer_cases r p <;> rw [h] <;> rfl

theorem takeRequest_keepsCaptures (h : ServesBy KeepsCaptures serve) : KeepsCaptures s (takeRequest mine serve s) := by
  obtain hnone | ⟨r, rest, _, _, _, _, htaken⟩ := takeRequest_cases mine serve s
  · rw [hnone]
    exact .refl s
  · have left : KeepsCaptures s (leaveQueue r rest s) := .of_same rfl
    exact htaken ▸ (left.trans (h r _)).trans (.of_same (placeAnswer_captures ..))

theorem takeArgs_keepsCaptures (h : ServesBy KeepsCaptures serve) :
    KeepsCaptures s (takeRequest mine (withArgs n serve) s) :=
  takeRequest_keepsCaptures s (withArgs_servesBy KeepsCaptures.refl n h)

theorem takeTable_keepsCaptures (h : ServesBy KeepsCaptures serve) :
    KeepsCaptures s (takeRequest mine (withTable n serve) s) :=
  takeRequest_keepsCaptures s (withTable_servesBy KeepsCaptures.refl n h)

theorem takeGroup_keepsCaptures {serve : GroupId → State → Reply} (h : ∀ g s, KeepsCaptures s (serve g s).state) :
    KeepsCaptures s (takeRequest mine (withArgs 1 (withGroup serve)) s) :=
  takeArgs_keepsCaptures s (withGroup_servesBy KeepsCaptures.refl h)

theorem takeSlot_keepsCaptures {serve : CaptureIx → State → Reply} (h : ∀ i s, KeepsCaptures s (serve i s).state) :
    KeepsCaptures s (takeRequest mine (withArgs 1 (withSlot serve)) s) :=
  takeArgs_keepsCaptures s (withSlot_servesBy KeepsCaptures.refl h)

end

/-- A request that leaves the state leaves the capture slots. -/
theorem keepsCaptures_of_state {serve : Request → State → Reply} (h : ∀ r s, (serve r s).state = s) :
    ServesBy KeepsCaptures serve := servesBy_of_state KeepsCaptures.refl h

/-! ## The step -/

/-- One millisecond: the limits of start-up, of a store and of a pending reset, then the deadlines and the clocks. -/
theorem tick_keepsCaptures (s : State) : KeepsCaptures s (tick s) := by
  have stored : KeepsCaptures s (storeTimeOut (imageReadTimeOut s)) :=
    .of_same ((storeTimeOut_captures _).trans (imageReadTimeOut_captures s))
  have clocks (u : State) : KeepsCaptures u (countRate (countTimer (takeRateCheck u))) :=
    .of_same ((countRate_captures _).trans (takeRateCheck_captures u))
  unfold tick takeDue
  split
  · exact ((stored.trans (resetPartTimeOut_keepsCaptures _)).trans
      (.foldl takeDeadline_keepsCaptures streamIxs _)).trans (clocks _)
  · exact .refl s

/-- Every command keeps the capture slots lawful, with the lines driven after it. -/
theorem exec_keepsCaptures (c : Instr) (s : State) : ∃ t, exec c s = .next (driveLines t) ∧ KeepsCaptures s t := by
  have applied (g : GroupId) := applyAt_keepsCaptures g s
  cases c with
  | powerOn => exact ⟨_, rfl, partReset_keepsCaptures ..⟩
  | lossOfSupply => exact ⟨_, rfl, partReset_keepsCaptures ..⟩
  | nresetAssertion =>
    refine ⟨_, rfl, ?_⟩
    split
    · exact .refl s
    · exact partReset_keepsCaptures ..
  | nresetRelease =>
    refine ⟨_, rfl, ?_⟩
    split <;> exact .of_same rfl
  | imageRead => exact ⟨_, rfl, .of_same (finishImageRead_captures s)⟩
  | imageReadTimeLimit => exact ⟨_, rfl, .of_same (imageReadTimeOut_captures s)⟩
  | linkEstablished p => exact ⟨_, rfl, .of_same (establishLink_captures p s)⟩
  | linkLoss p => exact ⟨_, rfl, loseLink_keepsCaptures p s⟩
  | frameArrival p f => exact ⟨_, rfl, .of_same (receiveFrame_captures p f s)⟩
  | portATransmissionStart => exact ⟨_, rfl, .of_same (startPortA_captures s)⟩
  | transmitArbiterChoice => exact ⟨_, rfl, .of_same (arbiterChoice_captures s)⟩
  | transmissionComplete p => exact ⟨_, rfl, completeTransmission_keepsCaptures p s⟩
  | silenceDeadline i => exact ⟨_, rfl, takeDeadline_keepsCaptures s i⟩
  | rateIntervalEnd => exact ⟨_, rfl, .of_same (takeRateCheck_captures s)⟩
  | applyEntry g => exact ⟨_, rfl, applied g⟩
  | cycleTooLate g => exact ⟨_, rfl, (applied g).ite⟩
  | acquisitionTimeout g => exact ⟨_, rfl, (applied g).ite⟩
  | holdoverWindowClose g => exact ⟨_, rfl, (applied g).ite⟩
  | evaluationCompletion => exact ⟨_, rfl, completeEvaluation_keepsCaptures s⟩
  | leak => exact ⟨_, rfl, (completeEvaluation_keepsCaptures s).ite⟩
  | resetPartTimeLimit => exact ⟨_, rfl, resetPartTimeOut_keepsCaptures s⟩
  | storeCompletion => exact ⟨_, rfl, .of_same (completeStore_captures s)⟩
  | storeReadBackFault => exact ⟨_, rfl, .of_same (faultStore_captures s)⟩
  | storeTimeLimit => exact ⟨_, rfl, .of_same (storeTimeOut_captures s)⟩
  | unsupported => exact ⟨_, rfl, takeRequest_keepsCaptures s (keepsCaptures_of_state fun _ _ => rfl)⟩
  | identify => exact ⟨_, rfl, takeArgs_keepsCaptures s (keepsCaptures_of_state fun _ _ => rfl)⟩
  | readStatus => exact ⟨_, rfl, takeArgs_keepsCaptures s (keepsCaptures_of_state serveReadStatus_state)⟩
  | readEntryStream => exact ⟨_, rfl, takeTable_keepsCaptures s (keepsCaptures_of_state serveReadStream_state)⟩
  | readEntryGroup => exact ⟨_, rfl, takeTable_keepsCaptures s (keepsCaptures_of_state serveReadGroup_state)⟩
  | readEntryLimitBank => exact ⟨_, rfl, takeTable_keepsCaptures s (keepsCaptures_of_state serveReadLimits_state)⟩
  | readEntryPartSettings => exact ⟨_, rfl, takeTable_keepsCaptures s (keepsCaptures_of_state fun _ _ => rfl)⟩
  | writeEntryStream => exact ⟨_, rfl, takeTable_keepsCaptures s serveWriteStream_keepsCaptures⟩
  | writeEntryGroup => exact ⟨_, rfl, takeTable_keepsCaptures s serveWriteGroup_keepsCaptures⟩
  | writeEntryLimitBank => exact ⟨_, rfl, takeTable_keepsCaptures s serveWriteLimits_keepsCaptures⟩
  | writeEntryPartSettings => exact ⟨_, rfl, takeTable_keepsCaptures s serveWriteSettings_keepsCaptures⟩
  | commitLimits => exact ⟨_, rfl, takeGroup_keepsCaptures s serveCommit_keepsCaptures⟩
  | groupEnable => exact ⟨_, rfl, takeGroup_keepsCaptures s serveEnable_keepsCaptures⟩
  | groupDisable => exact ⟨_, rfl, takeGroup_keepsCaptures s serveDisable_keepsCaptures⟩
  | readResult => exact ⟨_, rfl, takeGroup_keepsCaptures s fun _ s => .refl s⟩
  | readEvents => exact ⟨_, rfl, takeArgs_keepsCaptures s fun _ _ => .of_same rfl⟩
  | clearFirst => exact ⟨_, rfl, takeGroup_keepsCaptures s fun _ _ => .of_same rfl⟩
  | releaseTrip => exact ⟨_, rfl, takeGroup_keepsCaptures s serveReleaseTrip_keepsCaptures⟩
  | snap => exact ⟨_, rfl, takeGroup_keepsCaptures s serveSnap_keepsCaptures⟩
  | holdCapture => exact ⟨_, rfl, takeSlot_keepsCaptures s serveHold_keepsCaptures⟩
  | releaseCapture => exact ⟨_, rfl, takeSlot_keepsCaptures s serveRelease_keepsCaptures⟩
  | readCapture => exact ⟨_, rfl, takeArgs_keepsCaptures s (keepsCaptures_of_state serveReadCapture_state)⟩
  | readArray => exact ⟨_, rfl, takeArgs_keepsCaptures s (keepsCaptures_of_state serveReadArray_state)⟩
  | storeConfig => exact ⟨_, rfl, takeArgs_keepsCaptures s serveStoreConfig_keepsCaptures⟩
  | restartAnalysis => exact ⟨_, rfl, takeArgs_keepsCaptures s serveRestart_keepsCaptures⟩
  | resetPart => exact ⟨_, rfl, takeArgs_keepsCaptures s serveResetPart_keepsCaptures⟩

/-- Every step keeps the capture slots lawful; the lines that it drives and the command that leaves the queue are no
part of them. -/
theorem step_keepsCaptures {s t : State} (h : step s = .next t) : KeepsCaptures s t := by
  obtain ⟨_, hstep⟩ | ⟨c, rest, _, hstep⟩ := step_cases s
  · have ticked := tick_keepsCaptures s
    rw [hstep] at h
    cases h
    exact ⟨ticked.lawful⟩
  · obtain ⟨u, hexec, kept⟩ := exec_keepsCaptures c (withPending rest s)
    rw [hstep, hexec] at h
    cases h
    exact ⟨kept.lawful⟩

/-- Settles O7: each operation of the Capture Unit keeps the law of both slots, a part reset frees them, and every step
is built of these. -/
theorem captureSlotsStayLawful : Obligations.CaptureSlotsStayLawful :=
  fun _ _ hs h => (step_keepsCaptures h).lawful hs

end Sys2Proof.Machine
end

section
/-! SNAP: the claim of a capture slot by a request, case by case (R158, R159). -/

namespace Sys2Proof.Machine

/-- A claim by SNAP on the slot that the group owns adds a hold, and leaves the auto mark (R158, case 1). -/
theorem claimSlot_snap_owned {c : Captures} {g : GroupId} {j : CaptureIx} (hone : ownedSlot c g = some j)
    (hroom : c.slots[j].holds < 15) :
    claimSlot g .snap c = .ok (j, false, addHold j c) := by
  have hauto : (c.slots[j].auto || decide (Trigger.snap = .trip)) = c.slots[j].auto := Bool.or_false _
  rw [claimSlot, hone]
  dsimp only
  rw [hauto]
  exact if_pos hroom

section
variable {s : State} {g : GroupId}

theorem serveSnap_disabled (h : s.groups[g].enabled = false) : serveSnap g s = refuse .groupInactive s :=
  if_neg (ne_true_of_eq_false h)

theorem serveSnap_failed (h : s.groups[g].enabled = true) {f : ClaimFailure}
    (hclaim : claimSlot g .snap s.captures = .error f) : serveSnap g s = refuse (claimStatus f) s := by
  rw [serveSnap, if_pos h, hclaim]

theorem serveSnap_claimed (h : s.groups[g].enabled = true) {i : CaptureIx} {new : Bool} {x : CaptureSlot}
    (hclaim : claimSlot g .snap s.captures = .ok (i, new, setSlot i x s.captures)) :
    serveSnap g s = done (.snap i x.state x.holds new) { s with captures := setSlot i x s.captures } := by
  have hslot : (setSlot i x s.captures).slots[i] = x := upd_get_same ..
  rw [serveSnap, if_pos h, hclaim]
  simp only [hslot]

end

/-- Settles O56: the group out of range and the disabled group, then the claim at the slot that the group owns, and the
claim of a group that owns none. -/
theorem snapClaimsOneSlot : Obligations.SnapClaimsOneSlot := by
  intro s r rest hlawful h
  refine ⟨fun hout => serves_of_asks rfl h (withGroup_refused hout _), fun g hg => ?_⟩
  intro c armed
  refine ⟨fun hd => serves_at_group rfl h hg (serveSnap_disabled (s := taken r rest s) hd),
    fun hen => ⟨fun i howner => ?_, fun hnone => ⟨fun hbusy => ?_, fun i hfree hmarked => ?_⟩⟩⟩
  · have hone : ownedSlot s.captures g = some i := ownedSlot_eq_some (hlawful.2 g) howner
    exact ⟨fun hfull => serves_at_group rfl h hg
        (serveSnap_failed (s := taken r rest s) hen (claimSlot_full hone hfull.ge)),
      fun hroom => serves_at_group rfl h hg
        (serveSnap_claimed (s := taken r rest s) hen (claimSlot_snap_owned hone hroom))⟩
  · exact serves_at_group rfl h hg (serveSnap_failed (s := taken r rest s) hen (claimSlot_none hnone hbusy))
  · exact serves_at_group rfl h hg (serveSnap_claimed (s := taken r rest s) hen
      (claimSlot_free hnone (slotToTake_eq_some hfree hmarked)))

end Sys2Proof.Machine
end

section
/-! HOLD CAPTURE, RELEASE CAPTURE and READ CAPTURE (R165, R166, R170), with the bytes of a captured value (R196). -/

namespace Sys2Proof.Machine

/-! ## A request of one slot at the head of the queue -/

theorem withSlot_refused {serve : CaptureIx → State → Reply} {r : Request} (h : 2 ≤ argOf r 0) (s : State) :
    withSlot serve r s = refuse .badField s := by
  rw [withSlot, twoArg_eq_none h]

/-- A request at the head whose first argument names a capture slot is served at that slot (R174). -/
theorem serves_at_slot {c : Instr} {k : RequestCode} {serve : CaptureIx → State → Reply} {s u : State} {r : Request}
    {rest : List Request} {i : CaptureIx} {st : Status} {p : Payload}
    (hexec : exec c s = act (takeRequest (hasCode k) (withArgs 1 (withSlot serve)) s)) (h : HeadAsks s r rest k 1)
    (hi : twoArg (argOf r 0) = some i) (hserve : serve i (taken r rest s) = reply st p u) : Serves c s r st p u := by
  refine serves_of_asks hexec h ?_
  rw [withSlot, hi]
  exact hserve

section
variable {s : State} {i : CaptureIx}

/-! ## Holds (R165) -/

theorem serveHold_free (h : s.captures.slots[i].state = .free) : serveHold i s = refuse .notHeld s := if_pos h

theorem serveHold_full (h : s.captures.slots[i].state ≠ .free) (hfull : 15 ≤ s.captures.slots[i].holds) :
    serveHold i s = refuse .holdLimit s := (if_neg h).trans (if_pos hfull)

theorem serveHold_added (h : s.captures.slots[i].state ≠ .free) (hroom : s.captures.slots[i].holds < 15) :
    serveHold i s =
      done (.hold i s.captures.slots[i].state s.captures.slots[i].owner (s.captures.slots[i].holds + 1))
        (setCaptures (addHold i s.captures) s) := (if_neg h).trans (if_neg (Nat.not_le.mpr hroom))

/-! ## Releases (R166) -/

theorem serveRelease_free (h : s.captures.slots[i].state = .free) : serveRelease i s = refuse .notHeld s := if_pos h

/-- A release that leaves slot `i` as `x`. -/
theorem serveRelease_released {c : Captures} {x : CaptureSlot} (h : s.captures.slots[i].state ≠ .free)
    (hc : releaseHold i s.captures = c) (hx : c.slots = upd s.captures.slots i x) :
    serveRelease i s = done (.release i x.state x.holds) (setCaptures c s) := by
  have hslot : c.slots[i] = x := by rw [hx, upd_get_same]
  rw [serveRelease, if_neg h, hc]
  simp only [hslot]

theorem releaseHold_last {c : Captures} (h : c.slots[i].holds ≤ 1) : releaseHold i c = freeSlot i c := if_pos h

theorem releaseHold_more {c : Captures} (h : 2 ≤ c.slots[i].holds) :
    releaseHold i c = setSlot i { c.slots[i] with holds := c.slots[i].holds - 1 } c := if_neg (Nat.not_le.mpr h)

end

/-! ## Reading (R170) -/

theorem serveReadCapture_refused {r : Request} (h : 2 ≤ argOf r 0 ∨ 4 ≤ argOf r 1) (s : State) :
    serveReadCapture r s = refuse .badField s := by
  unfold serveReadCapture
  split
  · next hslot hchannel =>
    obtain hout | hout := h
    · cases (twoArg_eq_none hout).symm.trans hslot
    · cases (slotArg_eq_none hout).symm.trans hchannel
  · rfl

/-- A read that names a slot and a channel, by the slot's state and the start. -/
theorem serveReadCapture_named {r : Request} {i : CaptureIx} {k : SlotIx} (hi : twoArg (argOf r 0) = some i)
    (hk : slotArg (argOf r 1) = some k) (s : State) :
    serveReadCapture r s =
      if s.captures.slots[i].state ≠ .held then refuse .notReady s
      else if s.captures.slots[i].count ≤ beNat r.body 2 2 then refuse .badField s
      else done (.capture i (descriptorOf s.captures.slots[i]) k.val (beNat r.body 2 2)
        (capturedValues s.captures.slots[i] k (beNat r.body 2 2))) s := by
  rw [serveReadCapture, hi, hk]

/-- What is left of a used slot's channel from the start on, up to 256 values; nothing of an unused slot's (R170). -/
theorem capturedValues_length {x : CaptureSlot} (hx : ChannelsFit x) (k : SlotIx) (start : Nat) :
    (capturedValues x k start).length = if x.map[k] = .unused then 0 else min 256 (x.count - start) := by
  rw [capturedValues, List.length_take, List.length_drop, hx k]
  split <;> simp

/-- A captured value is three bytes in two's complement (R196). -/
theorem signedBytes_three (v : Int) : signedBytes 3 v = fieldOf 3 (v % 16777216).toNat := beBytes_eq_fieldOf ..

/-- Settles O57: the bytes of a read, then the refusals and the answer of each of the three requests. -/
theorem captureSlotsAreHeldReleasedAndRead : Obligations.CaptureSlotsAreHeldReleasedAndRead := by
  refine ⟨fun slot d channel start values =>
    ⟨freeBytes ([0x0F, slot.val] ++ descriptorNums d ++ [channel, start]) 28, freeBytes_length .., ?_⟩,
    fun s r rest => ⟨fun h => ?_, fun h => ?_, fun h => ?_⟩⟩
  · rw [← funext signedBytes_three]
    rfl
  · refine ⟨fun hout => serves_of_asks rfl h (withSlot_refused hout _), fun i hi => ⟨fun hfree => ?_,
      fun hused hfull => ?_, fun hused hroom => ?_⟩⟩
    · exact serves_at_slot rfl h hi (serveHold_free (s := taken r rest s) hfree)
    · exact serves_at_slot rfl h hi (serveHold_full (s := taken r rest s) hused hfull)
    · exact serves_at_slot rfl h hi (serveHold_added (s := taken r rest s) hused hroom)
  · refine ⟨fun hout => serves_of_asks rfl h (withSlot_refused hout _), fun i hi => ⟨fun hfree => ?_,
      fun hused hmore => ?_, fun hused hlast => ?_⟩⟩
    · exact serves_at_slot rfl h hi (serveRelease_free (s := taken r rest s) hfree)
    · exact serves_at_slot rfl h hi (serveRelease_released (s := taken r rest s) hused (releaseHold_more hmore) rfl)
    · exact serves_at_slot rfl h hi (serveRelease_released (s := taken r rest s) hused (releaseHold_last hlast) rfl)
  · refine ⟨fun hout => serves_of_asks rfl h (serveReadCapture_refused hout _), fun i k hi hk => ?_⟩
    have hserve := serveReadCapture_named hi hk (taken r rest s)
    refine ⟨fun hunready => serves_of_asks rfl h (hserve.trans (if_pos hunready)), fun hheld hpast => ?_,
      fun hheld hwithin => ⟨?_, fun hlawful => ?_⟩⟩
    · exact serves_of_asks rfl h ((hserve.trans (if_neg (not_not.mpr hheld))).trans (if_pos hpast))
    · exact serves_of_asks rfl h
        ((hserve.trans (if_neg (not_not.mpr hheld))).trans (if_neg (Nat.not_le.mpr hwithin)))
    · exact capturedValues_length ((hlawful.1 i).channelsFit (.inr hheld)) k _

end Sys2Proof.Machine
end

section
/-! RESTART ANALYSIS (R185): what it does at each group and raises there (R47), at both capture slots (R168), and at the
Result Engine, which it leaves with nothing to evaluate (R79, R80). -/

namespace Sys2Proof.Machine

/-! ## One group (R47) -/

/-- What a restart raises at an enabled group: LIMITS COMMITTED of a commit taken, then TIMING (R47, R114, R115). -/
def restartEvents (stamp : BitVec 32) (g : GroupId) (x : Group) (q : EventQueue) : EventQueue :=
  let q1 := if x.commitPending then createEvent stamp (.limitsCommitted g (x.generation + 1)) none q else q
  if x.tracker.timing = .noSignal then q1 else createEvent stamp (.timing g .noSignal) none q1

theorem restartView_eq (c : GroupContext) (v : GroupView) :
    restartView c v =
      { grp := restartedGroup v.grp, events := restartEvents c.stamp c.group v.grp v.events, captures := v.captures,
        waitList := v.waitList.filter (fun g => decide (g ≠ c.group)) } := by
  rw [restartView, takePending_eq, restartEvents]
  dsimp only
  split <;> rfl

section
variable (s : State) (g : GroupId)

theorem restartGroup_disabled (h : s.groups[g].enabled = false) : restartGroup s g = s :=
  if_neg (ne_true_of_eq_false h)

theorem restartGroup_enabled (h : s.groups[g].enabled = true) :
    restartGroup s g =
      { s with
          groups := upd s.groups g (restartedGroup s.groups[g])
          events := restartEvents s.timer g s.groups[g] s.events
          waitList := s.waitList.filter (fun k => decide (k ≠ g))
          engine := if s.engine = some g then none else s.engine } := by
  rw [restartGroup, if_pos h, actOn, restartView_eq, endEvaluation]
  split <;> rfl

/-- The group as a restart leaves it, enabled or disabled (R47). -/
def afterRestart (x : Group) : Group := if x.enabled then restartedGroup x else x

theorem restartGroup_groups (k : GroupId) :
    (restartGroup s g).groups[k] = if g = k then afterRestart s.groups[k] else s.groups[k] := by
  cases henabled : s.groups[g].enabled
  · rw [restartGroup_disabled s g henabled]
    split
    · rename_i hg
      exact hg ▸ (if_neg (ne_true_of_eq_false henabled)).symm
    · rfl
  · rw [restartGroup_enabled s g henabled]
    refine (upd_get_fin ..).trans ?_
    split
    · rename_i hg
      exact hg ▸ (if_pos henabled).symm
    · rfl

theorem restartGroup_events :
    (restartGroup s g).events =
      if s.groups[g].enabled then restartEvents s.timer g s.groups[g] s.events else s.events := by
  cases henabled : s.groups[g].enabled
  · rw [restartGroup_disabled s g henabled]
    rfl
  · rw [restartGroup_enabled s g henabled]
    rfl

end

/-- From `s` to `t` only the groups, the Event Queue, the wait list and the engine change. -/
def RestartsOnly (s t : State) : Prop :=
  t = { s with groups := t.groups, events := t.events, waitList := t.waitList, engine := t.engine }

theorem RestartsOnly.trans {s t u : State} (h : RestartsOnly s t) (k : RestartsOnly t u) : RestartsOnly s u :=
  Eq.trans k (by rw [h])

theorem RestartsOnly.timer {s t : State} (h : RestartsOnly s t) : t.timer = s.timer := by rw [h]

theorem restartGroup_only (s : State) (g : GroupId) : RestartsOnly s (restartGroup s g) := by
  cases henabled : s.groups[g].enabled
  · rw [restartGroup_disabled s g henabled]
    rfl
  · rw [restartGroup_enabled s g henabled]
    rfl

/-! ## Every group (R47, R185) -/

theorem foldl_restartGroup_only (s : State) (l : List GroupId) : RestartsOnly s (l.foldl restartGroup s) :=
  List.foldlRecOn l restartGroup rfl fun u hu g _ => hu.trans (restartGroup_only u g)

/-- A restart of distinct groups restarts each as it stood before, and no other. -/
theorem foldl_restartGroup_groups (s : State) {l : List GroupId} (hl : l.Nodup) (k : GroupId) :
    (l.foldl restartGroup s).groups[k] = if k ∈ l then afterRestart s.groups[k] else s.groups[k] := by
  induction l generalizing s with
  | nil => simp
  | cons g l ih =>
    obtain ⟨hg, hl⟩ := List.nodup_cons.mp hl
    rw [List.foldl_cons, ih _ hl, restartGroup_groups]
    by_cases hk : g = k
    · subst hk
      simp [hg]
    · simp [hk, Ne.symm hk]

/-- The events of a restart of distinct groups, group by group in their order. -/
theorem foldl_restartGroup_events (s : State) {l : List GroupId} (hl : l.Nodup) :
    (l.foldl restartGroup s).events =
      l.foldl (fun q g => if s.groups[g].enabled then restartEvents s.timer g s.groups[g] q else q) s.events := by
  induction l using List.reverseRecOn with
  | nil => rfl
  | append_singleton l g ih =>
    obtain ⟨hl, _, hg⟩ := List.nodup_append.mp hl
    have hgroup : (l.foldl restartGroup s).groups[g] = s.groups[g] := by
      rw [foldl_restartGroup_groups s hl, if_neg fun hmem => hg g hmem g (List.mem_singleton_self g) rfl]
    have htimer : (l.foldl restartGroup s).timer = s.timer := (foldl_restartGroup_only s l).timer
    rw [List.foldl_append, List.foldl_append, List.foldl_cons, List.foldl_nil, List.foldl_cons, List.foldl_nil,
      restartGroup_events, hgroup, htimer, ih hl]

theorem afterRestart_idle {s : State} (hs : SetsAccounted s) (g : GroupId) : IdleSets (afterRestart s.groups[g]) := by
  unfold afterRestart
  split
  · exact idleSets_cleared rfl
  · rename_i hdisabled
    exact ((hs.groups g).rests (eq_false_of_ne_true hdisabled)).1

/-- Every group has both sets IDLE after a restart, so that nothing waits and the engine is idle (R79, R80). -/
theorem foldl_restartGroup_engine {s : State} (hs : SetsAccounted s) :
    (groupIxs.foldl restartGroup s).waitList = [] ∧ (groupIxs.foldl restartGroup s).engine = none := by
  have restarted : Restarts s (groupIxs.foldl restartGroup s) :=
    List.foldlRecOn groupIxs restartGroup (.refl s) fun u hu g _ => hu.trans (restartGroup_restarts u g)
  have hgroups (g : GroupId) := foldl_restartGroup_groups s groupIxs_nodup g
  generalize groupIxs.foldl restartGroup s = u at restarted hgroups ⊢
  have places (g : GroupId) : g ∉ u.waitList ∧ u.engine ≠ some g := by
    refine ((restarted.sets hs).groups g).idle_places ?_
    rw [hgroups, if_pos (mem_groupIxs g)]
    exact afterRestart_idle hs g
  exact ⟨List.eq_nil_iff_forall_not_mem.mpr fun g => (places g).1, Option.eq_none_iff_forall_ne_some.mpr fun g =>
    (places g).2⟩

/-- RESTART ANALYSIS, block by block (R185). -/
theorem restartAnalysis_eq {s : State} (hs : SetsAccounted s) :
    restartAnalysis s =
      { s with
          groups := (groupIxs.foldl restartGroup s).groups
          events := groupIxs.foldl
            (fun q g => if s.groups[g].enabled then restartEvents s.timer g s.groups[g] q else q) s.events
          captures := endAllSlots s.captures, engine := none, waitList := []
          queue := { entries := [], served := [], noticeAtLeave := false, suspended := false }
          supervision := Vector.replicate 16 Supervision.fresh, rateClock := 0, rateDue := false } := by
  obtain ⟨hwait, hengine⟩ := foldl_restartGroup_engine hs
  have hevents := foldl_restartGroup_events s groupIxs_nodup
  have honly := foldl_restartGroup_only s groupIxs
  rw [restartAnalysis, ← hevents]
  generalize groupIxs.foldl restartGroup s = u at hwait hengine honly ⊢
  rw [RestartsOnly, hwait, hengine] at honly
  rw [honly]
  exact engineTake_busy (.inr rfl)

theorem restartAnalysis_groups {s : State} (hs : SetsAccounted s) (g : GroupId) :
    (restartAnalysis s).groups[g] = afterRestart s.groups[g] := by
  have hgroups : (restartAnalysis s).groups = (groupIxs.foldl restartGroup s).groups := by rw [restartAnalysis_eq hs]
  rw [hgroups, foldl_restartGroup_groups s groupIxs_nodup, if_pos (mem_groupIxs g)]

/-! ## The capture slots (R168) -/

/-- A capture slot as a restart leaves it (R168). -/
def endedSlot (x : CaptureSlot) : CaptureSlot :=
  match x.state with
  | .free => x
  | .armed => CaptureSlot.free
  | .filling => CaptureSlot.free
  | .held => { x with auto := false }

/-- The capture slot is ARMED or FILLING, which is what a restart frees (R168). -/
def CaptureSlot.Unfinished (x : CaptureSlot) : Prop := x.state = .armed ∨ x.state = .filling

theorem endedSlot_unfinished {x : CaptureSlot} (h : x.Unfinished) : endedSlot x = CaptureSlot.free := by
  obtain h | h := h <;> rw [endedSlot, h]

theorem endedSlot_held {x : CaptureSlot} (h : x.state = .held) : endedSlot x = { x with auto := false } := by
  rw [endedSlot, h]

theorem endedSlot_free {x : CaptureSlot} (h : x.state = .free) : endedSlot x = x := by
  rw [endedSlot, h]

theorem endSlot_slots (i : CaptureIx) (c : Captures) (j : CaptureIx) :
    (endSlot i c).slots[j] = if i = j then endedSlot c.slots[j] else c.slots[j] := by
  obtain ⟨hstate, h⟩ | ⟨hstate, h⟩ | ⟨hstate, h⟩ := endSlot_cases i c <;> rw [h] <;> split
  · rename_i hij
    rw [← hij, endedSlot_free hstate]
  · rfl
  · rename_i hij
    rw [← hij, endedSlot_unfinished hstate]
    exact upd_get_same ..
  · rename_i hij
    exact upd_get_ne _ _ hij
  · rename_i hij
    rw [← hij, endedSlot_held hstate]
    exact upd_get_same ..
  · rename_i hij
    exact upd_get_ne _ _ hij

theorem endAllSlots_slots (c : Captures) (j : CaptureIx) : (endAllSlots c).slots[j] = endedSlot c.slots[j] := by
  rw [endAllSlots, endSlot_slots, endSlot_slots]
  match j with
  | 0 => rfl
  | 1 => rfl

section
variable {i : CaptureIx} {c : Captures}

theorem endSlot_marker_freed (h : c.slots[i].Unfinished) : (endSlot i c).marker = other i := by
  rw [endSlot_unfinished h]

theorem endSlot_marker_kept (h : ¬c.slots[i].Unfinished) : (endSlot i c).marker = c.marker := by
  obtain ⟨_, heq⟩ | ⟨hfreed, _⟩ | ⟨_, heq⟩ := endSlot_cases i c
  · rw [heq]
  · exact absurd hfreed h
  · rw [heq]
    rfl

end

/-- The end of slot 0 leaves slot 1 to its own. -/
theorem endSlot_zero_one (c : Captures) : (endSlot 0 c).slots[(1 : CaptureIx)] = c.slots[(1 : CaptureIx)] :=
  endSlot_slots 0 c 1

/-- The marker names the slot other than the last one freed, slot 0 before slot 1 (R168). -/
theorem endAllSlots_marker (c : Captures) :
    (c.slots[(1 : CaptureIx)].Unfinished → (endAllSlots c).marker = 0) ∧
      (c.slots[(0 : CaptureIx)].Unfinished → ¬c.slots[(1 : CaptureIx)].Unfinished → (endAllSlots c).marker = 1) ∧
      (¬c.slots[(0 : CaptureIx)].Unfinished → ¬c.slots[(1 : CaptureIx)].Unfinished →
        (endAllSlots c).marker = c.marker) := by
  rw [endAllSlots, ← endSlot_zero_one c]
  refine ⟨endSlot_marker_freed, fun hzero hone => ?_, fun hzero hone => ?_⟩
  · rw [endSlot_marker_kept hone, endSlot_marker_freed hzero]
    rfl
  · rw [endSlot_marker_kept hone, endSlot_marker_kept hzero]

/-! ## The summary (R129, R175) -/

/-- A set gathered member by member holds the members of the list that the condition holds of. -/
theorem getLsbD_gathered_members {w : Nat} (p : Fin w → Prop) [DecidablePred p] (l : List (Fin w)) (b : BitVec w)
    (n : Fin w) :
    (l.foldl (fun b k => if p k then b ||| (1#w <<< k.val) else b) b).getLsbD n.val = true ↔
      b.getLsbD n.val = true ∨ (n ∈ l ∧ p n) := by
  induction l generalizing b with
  | nil => simp
  | cons k l ih =>
    have hplace : (1#w <<< k.val).getLsbD n.val = true ↔ n = k := by
      simp only [BitVec.getLsbD_shiftLeft, BitVec.getLsbD_one, Bool.and_eq_true, decide_eq_true_eq,
        Bool.not_eq_true', decide_eq_false_iff_not, Fin.ext_iff]
      omega
    have hbit : (if p k then b ||| (1#w <<< k.val) else b).getLsbD n.val = true ↔
        b.getLsbD n.val = true ∨ (n = k ∧ p n) := by
      by_cases hp : p k
      · rw [if_pos hp, BitVec.getLsbD_or, Bool.or_eq_true, hplace]
        exact or_congr_right ⟨fun hk => ⟨hk, hk ▸ hp⟩, And.left⟩
      · rw [if_neg hp]
        exact ⟨.inl, fun hb => hb.resolve_right fun ⟨hk, hn⟩ => hp (hk ▸ hn)⟩
    rw [List.foldl_cons, ih, hbit, List.mem_cons, or_and_right, or_assoc]

/-- The set of the groups at a level holds exactly those (R129). -/
theorem levelSet_getLsbD (s : State) (l : Level) (g : GroupId) :
    (levelSet s l).getLsbD g.val = true ↔ s.groups[g].levelUnit.level = l := by
  rw [levelSet, getLsbD_gathered_members]
  simp [mem_groupIxs]

theorem levelSet_eq_zero {s : State} {l : Level} (h : ∀ g : GroupId, s.groups[g].levelUnit.level ≠ l) :
    levelSet s l = 0 := by
  refine BitVec.eq_of_getLsbD_eq fun i hi => ?_
  have hbit := (levelSet_getLsbD s l ⟨i, hi⟩).not.mpr (h ⟨i, hi⟩)
  rw [eq_false_of_ne_true hbit]
  exact BitVec.getLsbD_zero.symm

theorem afterRestart_normal {s : State} (hs : SetsAccounted s) (g : GroupId) :
    (afterRestart s.groups[g]).levelUnit.level = .normal := by
  unfold afterRestart
  split
  · rfl
  · rename_i hdisabled
    exact ((hs.groups g).rests (eq_false_of_ne_true hdisabled)).2

/-- No group is in ALARM or TRIPPED after a restart (R185). -/
theorem restartAnalysis_levelSet {s : State} (hs : SetsAccounted s) {l : Level} (hl : l ≠ .normal) :
    levelSet (restartAnalysis s) l = 0 :=
  levelSet_eq_zero fun g => by
    rw [restartAnalysis_groups hs, afterRestart_normal hs]
    exact hl.symm

/-! ## The request -/

theorem serveRestart_eq (r : Request) (s : State) : serveRestart r s = reply .done .empty (restartAnalysis s) := rfl

/-- Settles O60: each group by the restart at it, the events, the slots and the marker, and the empty sets of the
summary. -/
theorem restartReturnsTheAnalysis : Obligations.RestartReturnsTheAnalysis := by
  intro s r rest hlawful h
  have hs : SetsAccounted (taken r rest s) := (analysisLawful_iff.mp hlawful).1.of_same rfl rfl rfl
  have hserves : Serves .restartAnalysis s r .done .empty (restartAnalysis (taken r rest s)) :=
    serves_of_asks rfl h (serveRestart_eq r (taken r rest s))
  have hgroups := restartAnalysis_groups hs
  have htripped := restartAnalysis_levelSet hs (l := .tripped) nofun
  have halarmed := restartAnalysis_levelSet hs (l := .alarm) nofun
  have heq := restartAnalysis_eq hs
  generalize restartAnalysis (taken r rest s) = t at hserves hgroups htripped halarmed heq
  have hcaptures : t.captures = endAllSlots s.captures := heq ▸ rfl
  have hsupervision : t.supervision = Vector.replicate 16 Supervision.fresh := heq ▸ rfl
  refine ⟨t, hserves, fun g => ⟨fun hdisabled => ?_, fun henabled => ?_⟩, heq ▸ rfl, ?_, heq ▸ rfl, heq ▸ rfl,
    heq ▸ rfl, fun i => ?_, heq ▸ rfl, heq ▸ rfl, htripped, halarmed, by rw [heq]⟩
  · exact (hgroups g).trans (if_neg (ne_true_of_eq_false hdisabled))
  · have hgroup : t.groups[g] = restartedGroup s.groups[g] := (hgroups g).trans (if_pos henabled)
    rw [hgroup]
    exact ⟨rfl, rfl, rfl, rfl, rfl, rfl, rfl, idleSets_cleared rfl, rfl, rfl, rfl, rfl, rfl, bothCleared_get .idle _⟩
  · rw [hcaptures]
    refine ⟨fun j => ?_, endAllSlots_marker s.captures⟩
    rw [endAllSlots_slots]
    exact ⟨endedSlot_unfinished, endedSlot_held, endedSlot_free⟩
  · rw [hsupervision]
    exact Vector.getElem_replicate ..

end Sys2Proof.Machine
end

section
/-! The request path (R174, R179): the request that each command takes, when it takes none, and the checks that every
request meets before it is served. -/

namespace Sys2Proof.Machine

/-- Settles O3: every command is an act with the lines driven after it. -/
theorem everyCommandAnswersANextState : Obligations.EveryCommandAnswersANextState := fun c s =>
  let ⟨_, hexec, _⟩ := exec_lawful c s
  ⟨_, hexec⟩

/-! ## The commands that take a request (R174) -/

theorem exec_of_plain {x : Instr × RequestCode × Nat} (h : x ∈ plainRequests) :
    ∃ serve, ∀ s, exec x.1 s = act (takeRequest (hasCode x.2.1) (withArgs x.2.2 serve) s) := by
  fin_cases h <;> exact ⟨_, fun _ => rfl⟩

theorem exec_of_entry {x : Instr × RequestCode × TableSelector × Nat} (h : x ∈ entryRequests) :
    ∃ serve, ∀ s, exec x.1 s = act (takeRequest (hasTable x.2.1 x.2.2.1) (withTable x.2.2.2 serve) s) := by
  fin_cases h <;> exact ⟨_, fun _ => rfl⟩

theorem exec_of_group {x : Instr × RequestCode} (h : x ∈ groupRequests) :
    ∃ serve, ∀ s, exec x.1 s = act (takeRequest (hasCode x.2) (withArgs 1 (withGroup serve)) s) := by
  fin_cases h <;> exact ⟨_, fun _ => rfl⟩

theorem exec_unsupported (s : State) : exec .unsupported s = act (takeRequest namesNoRequest serveUnsupported s) := rfl

theorem exec_of_request {c : Instr} (h : c ∈ requestCommands) :
    ∃ mine serve, ∀ s, exec c s = act (takeRequest mine serve s) := by
  simp only [requestCommands, List.cons_append, List.mem_cons, List.mem_append, List.mem_map] at h
  obtain rfl | ⟨x, hx, rfl⟩ | ⟨x, hx, rfl⟩ := h
  · exact ⟨_, _, exec_unsupported⟩
  · obtain ⟨_, hexec⟩ := exec_of_plain hx
    exact ⟨_, _, hexec⟩
  · obtain ⟨_, hexec⟩ := exec_of_entry hx
    exact ⟨_, _, hexec⟩

/-! ## Nothing is taken (R174, R186) -/

section
variable {c : Instr} {mine : Request → Bool} {serve : Request → State → Reply} {s : State}

/-- A command that takes no request of a state leaves it as it is. -/
theorem does_nothing (hexec : exec c s = act (takeRequest mine serve s))
    (h : ∀ r rest, s.mgmt.requests = r :: rest → s.mgmt.resetTaken = none → s.mgmt.answers.length < 4 →
      mine r = false) : Does c s s := by
  obtain hnone | ⟨r, rest, hrequests, hready, hroom, hmine, _⟩ := takeRequest_cases mine serve s
  · rw [Does, hexec, hnone]
    rfl
  · exact nomatch hmine.symm.trans (h r rest hrequests hready hroom)

/-- A command leaves a head that is none of its requests. -/
theorem does_nothing_at_head {r : Request} {rest : List Request} (hexec : exec c s = act (takeRequest mine serve s))
    (hrequests : s.mgmt.requests = r :: rest) (hmine : mine r = false) : Does c s s := by
  refine does_nothing hexec fun r' rest' hrequests' _ _ => ?_
  cases hrequests.symm.trans hrequests'
  exact hmine

end

theorem hasCode_false {k : RequestCode} {r : Request} (h : requestCode r.code ≠ some k) : hasCode k r = false :=
  decide_eq_false h

theorem hasTable_false {k : RequestCode} {t u : TableSelector} {r : Request} (hu : tableOf r = some u) (h : u ≠ t) :
    hasTable k t r = false := by simp [hasTable, hu, h]

theorem hasTable_false_of_code {k : RequestCode} {t : TableSelector} {r : Request} (h : requestCode r.code ≠ some k) :
    hasTable k t r = false := by rw [hasTable, hasCode_false h, Bool.false_and]

/-- Settles O42: a state that no command takes a request of, and a head that is none of the command's. -/
theorem requestsAreTakenFromTheHeadWithRoom : Obligations.RequestsAreTakenFromTheHeadWithRoom := by
  refine ⟨fun s c hc hblocked => ?_, fun s r rest hrequests => ⟨fun hnamed => ?_, fun x hx hother => ?_,
    fun x hx => ⟨fun hother => ?_, fun t ht hother => ?_⟩⟩⟩
  · obtain ⟨_, _, hexec⟩ := exec_of_request hc
    refine does_nothing (hexec s) fun r rest hrequests hready hroom => ?_
    obtain hpending | hfull | hempty := hblocked
    · exact absurd hready hpending
    · exact absurd hroom (Nat.not_lt.mpr hfull)
    · exact nomatch hrequests.symm.trans hempty
  · exact does_nothing_at_head (exec_unsupported s) hrequests (decide_eq_false hnamed)
  · obtain ⟨_, hexec⟩ := exec_of_plain hx
    exact does_nothing_at_head (hexec s) hrequests (hasCode_false hother)
  · obtain ⟨_, hexec⟩ := exec_of_entry hx
    exact does_nothing_at_head (hexec s) hrequests (hasTable_false_of_code hother)
  · obtain ⟨_, hexec⟩ := exec_of_entry hx
    exact does_nothing_at_head (hexec s) hrequests (hasTable_false ht hother)

/-! ## Codes and arguments (R199) -/

/-- The requests by their codes, from 0x01 on (R199). -/
def namedRequests : List RequestCode :=
  [.identify, .readStatus, .readEntry, .writeEntry, .commitLimits, .groupEnable, .groupDisable, .readResult,
   .readEvents, .clearFirst, .releaseTrip, .snap, .holdCapture, .releaseCapture, .readCapture, .readArray,
   .storeConfig, .restartAnalysis, .resetPart]

theorem requestCode_eq (c : Byte) : requestCode c = if c = 0 then none else namedRequests[c.toNat - 1]? := by
  revert c
  decide

theorem tableSelector_eq : ∀ n : Nat,
    tableSelector n = ([.stream, .group, .limits, .settings] : List TableSelector)[n]?
  | 0 => rfl
  | 1 => rfl
  | 2 => rfl
  | 3 => rfl
  | _ + 4 => rfl

theorem twoArg_eq_some (n : Nat) (x : Fin 2) : twoArg n = some x ↔ x.val = n := by
  have := x.isLt
  unfold twoArg; split <;> simp [Fin.ext_iff] <;> omega

theorem selectorArg_fundamental_iff {n : Nat} : selectorArg n = some .fundamental ↔ n = 0xFF := by
  unfold selectorArg
  split
  · simp_all
  · split <;> simp_all

theorem selectorArg_position_iff {n : Nat} {p : Fin 16} : selectorArg n = some (.position p) ↔ p.val = n := by
  have := p.isLt
  unfold selectorArg
  split
  · simp; omega
  · split <;> simp [Fin.ext_iff] <;> omega

/-! ## Refusals (R174, R179) -/

/-- A request at the head that is the command's and that it refuses changes nothing but the taking and the answer
(R176). -/
theorem refuses_of_head {c : Instr} {mine : Request → Bool} {serve : Request → State → Reply} {s : State} {r : Request}
    {rest : List Request} {st : Status} (hexec : exec c s = act (takeRequest mine serve s)) (h : HeadIs s r rest)
    (hmine : mine r = true) (hserve : serve r (taken r rest s) = refuse st (taken r rest s)) :
    Refuses c s r rest st := by
  rw [Refuses, Serves, Does, hexec, takeRequest_of_head h hmine, hserve, refuse, placeAnswer_reply]
  rfl

theorem withArgs_short {n : Nat} {serve : Request → State → Reply} {r : Request} (h : covers r n = false) (s : State) :
    withArgs n serve r s = refuse .badLength s := if_neg (ne_true_of_eq_false h)

theorem withArgs_covered {n : Nat} {serve : Request → State → Reply} {r : Request} (h : covers r n = true) (s : State) :
    withArgs n serve r s = serve r s := if_pos h

section
variable {n : Nat} {serve : Request → State → Reply} {r : Request}

theorem tableOf_short (h : covers r 2 = false) : tableOf r = none := if_neg (ne_true_of_eq_false h)

theorem tableOf_covered (h : covers r 2 = true) : tableOf r = tableSelector (argOf r 0) := if_pos h

theorem covers_of_tableOf {t : TableSelector} (h : tableOf r = some t) : covers r 2 = true := by
  by_contra hshort
  exact nomatch h.symm.trans (tableOf_short (eq_false_of_ne_true hshort))

theorem withTable_short (h : covers r 2 = false) (s : State) : withTable n serve r s = refuse .badLength s :=
  withArgs_short h s

theorem withTable_unnamed (h : covers r 2 = true) (hnone : tableOf r = none) (s : State) :
    withTable n serve r s = refuse .badField s := (withArgs_covered h s).trans (if_pos hnone)

theorem withTable_named {t : TableSelector} (h : tableOf r = some t) (s : State) :
    withTable n serve r s = withArgs n serve r s := by
  have hsome : ¬tableOf r = none := by rw [h]; nofun
  exact (withArgs_covered (covers_of_tableOf h) s).trans (if_neg hsome)

end

theorem hasTable_unnamed {k : RequestCode} (t : TableSelector) {r : Request} (hcode : requestCode r.code = some k)
    (h : tableOf r = none) : hasTable k t r = true := by simp [hasTable, hasCode, hcode, h]

theorem hasTable_named {k : RequestCode} {t : TableSelector} {r : Request} (hcode : requestCode r.code = some k)
    (h : tableOf r = some t) : hasTable k t r = true := by simp [hasTable, hasCode, hcode, h]

/-- Settles O43: what codes and argument bytes name, then the refusals of each kind of command. -/
theorem requestsAreCheckedBeforeTheyAreServed : Obligations.RequestsAreCheckedBeforeTheyAreServed := by
  refine ⟨requestCode_eq, tableSelector_eq, fun r n => ⟨covers_iff, rfl⟩, fun n => ⟨groupArg_eq_some n,
    streamArg_eq_some n, slotArg_eq_some n, twoArg_eq_some n, flagArg_eq_some n, selectorArg_fundamental_iff,
    fun _ => selectorArg_position_iff⟩, fun s r rest h => ⟨fun hnone => ?_, fun x hx hcode hshort => ?_,
    fun x hx hcode => ⟨fun hshort => ?_, fun hcovers hnone => ?_, fun htable hshort => ?_⟩,
    fun x hx hcode hcovers hout => ?_⟩⟩
  · exact refuses_of_head (exec_unsupported s) h (decide_eq_true hnone) rfl
  · obtain ⟨_, hexec⟩ := exec_of_plain hx
    exact refuses_of_head (hexec s) h (decide_eq_true hcode) (withArgs_short hshort _)
  · obtain ⟨_, hexec⟩ := exec_of_entry hx
    exact refuses_of_head (hexec s) h (hasTable_unnamed _ hcode (tableOf_short hshort)) (withTable_short hshort _)
  · obtain ⟨_, hexec⟩ := exec_of_entry hx
    have hunnamed : tableOf r = none := (tableOf_covered hcovers).trans hnone
    exact refuses_of_head (hexec s) h (hasTable_unnamed _ hcode hunnamed) (withTable_unnamed hcovers hunnamed _)
  · obtain ⟨_, hexec⟩ := exec_of_entry hx
    exact refuses_of_head (hexec s) h (hasTable_named hcode htable)
      ((withTable_named htable _).trans (withArgs_short hshort _))
  · obtain ⟨_, hexec⟩ := exec_of_group hx
    exact refuses_of_head (hexec s) h (decide_eq_true hcode)
      ((withArgs_covered hcovers _).trans (withGroup_refused hout _))

end Sys2Proof.Machine
end

section
/-! The requests that concern the part: IDENTIFY (R177), READ STATUS with the summary (R172, R175, R178), the part
settings (R38, R39, R180, R181) and RESET PART (R186). -/

namespace Sys2Proof.Machine

/-! ## IDENTIFY (R177) -/

/-- Settles O44: the answer carries the identity of the part as the request is taken. -/
theorem identifyAnswersTheNamesAndAddresses : Obligations.IdentifyAnswersTheNamesAndAddresses :=
  fun _ _ _ h => serves_of_asks rfl h rfl

/-! ## A request with more than a plain answer -/

/-- A request at the head with the command's code and every fixed byte leaves what the reply to it leaves (R174). -/
theorem does_of_asks {c : Instr} {k : RequestCode} {n : Nat} {serve : Request → State → Reply} {s : State} {r : Request}
    {rest : List Request} {p : Reply} (hexec : exec c s = act (takeRequest (hasCode k) (withArgs n serve) s))
    (h : HeadAsks s r rest k n) (hserve : serve r (taken r rest s) = p) : Does c s (placeAnswer r p) := by
  obtain ⟨hhead, hcode, hcovers⟩ := h
  rw [Does, hexec, takeRequest_of_head hhead (decide_eq_true hcode), withArgs_covered hcovers, hserve]
  rfl

/-! ## READ STATUS and the summary (R172, R175, R178) -/

theorem storeState_idle {t : Store} (h : t.snapshot = none) :
    storeState t = if t.faultLatch then .fault else .idle := by
  cases hlatch : t.faultLatch <;> simp [storeState, Store.busy, h, hlatch]

theorem storeState_busy {t : Store} (h : t.snapshot ≠ none) :
    storeState t = if t.faultLatch then .faultBusy else .busy := by
  have hbusy : t.busy = true := Option.isSome_iff_ne_none.mpr h
  cases hlatch : t.faultLatch <;> simp [storeState, hbusy, hlatch]

/-- The reply to READ STATUS, with the sticky flags to be cleared or not (R178). -/
def statusReply (clear : Bool) (s : State) : Reply := { done (.status (partStatus s)) s with clearsFlags := clear }

theorem serveReadStatus_option {r : Request} {clear : Bool} (h : argOf r 0 = if clear then 1 else 0) (s : State) :
    serveReadStatus r s = statusReply clear s := by
  rw [serveReadStatus, (flagArg_eq_some _ clear).mpr h]
  rfl

theorem serveReadStatus_refused {r : Request} (h : 2 ≤ argOf r 0) (s : State) :
    serveReadStatus r s = refuse .badField s := by
  rw [serveReadStatus, flagArg_eq_none h]

/-- Settles O45: the summary field by field, then the answer with each option. -/
theorem readStatusShowsAndClearsTheStickyFlags : Obligations.ReadStatusShowsAndClearsTheStickyFlags := by
  refine ⟨fun s => ⟨fun g => ⟨levelSet_getLsbD s .tripped g, levelSet_getLsbD s .alarm g⟩, rfl, rfl, rfl, rfl,
    storeState_idle, storeState_busy⟩, fun s r rest h => ⟨fun hkeep => ?_, fun hclear => ?_, fun hneither => ?_, rfl,
    rfl⟩⟩
  · exact does_of_asks rfl h (serveReadStatus_option (clear := false) hkeep _)
  · exact does_of_asks rfl h (serveReadStatus_option (clear := true) hclear _)
  · exact serves_of_asks rfl h (serveReadStatus_refused hneither _)

/-! ## The part settings (R38, R39, R180, R181) -/

/-- A number of bytes ends with the number of the last of them. -/
theorem beNat_add (l : List Byte) (i m n : Nat) : beNat l i (m + n) = beNat l i m * 256 ^ n + beNat l (i + m) n := by
  induction n with
  | zero => simp [beNat]
  | succ n ih =>
    rw [← Nat.add_assoc, beNat, beNat, ih, Nat.add_assoc i]
    ring

/-- The group bit of an address stands in its first byte (R199). -/
theorem be48_groupBit (l : List Byte) (i : Nat) : (be48 l i).getLsbD 40 = (byteAt l i).getLsbD 0 := by
  have hfirst : beNat l i 6 = 2 ^ 40 * (byteAt l i).toNat + beNat l (i + 1) 5 := by
    rw [beNat_add l i 1 5, Nat.mul_comm]
    simp [beNat]
  have hlast : beNat l (i + 1) 5 < 2 ^ 40 := beNat_lt l (i + 1) 5
  rw [be48, BitVec.getLsbD_ofNat, hfirst, Nat.testBit_two_pow_mul_add _ hlast]
  rfl

theorem parseSettings_eq (b : List Byte) :
    parseSettings b = { high := numberAt b 8 1, low := numberAt b 9 1, starvationLimit := numberAt b 10 1 } := by
  simp only [numberAt_eq_beNat]
  rfl

/-- The suspension state alone follows an accepted write of the watermarks (R39). -/
theorem watermarksWritten_eq (p : PartSettings) (q : AnalysisQueue) :
    watermarksWritten p q =
      { q with suspended :=
          if p.high ≤ q.entries.length then true else if q.entries.length ≤ p.low then false else q.suspended } := by
  unfold watermarksWritten
  split
  · rfl
  · split <;> rfl

section
variable {r : Request} (s : State)

theorem serveWriteSettings_refused (h : (be48 r.body 2).getLsbD 40 = true) :
    serveWriteSettings r s = refuse .badField s := by
  simp [serveWriteSettings, individualAddress, h]

theorem serveWriteSettings_stored (h : (be48 r.body 2).getLsbD 40 = false) :
    let p := parseSettings r.body
    serveWriteSettings r s =
      reply (if clampSettings p = p then .done else .doneClamped) .empty
        (writeSettings (be48 r.body 2) (clampSettings p) s) := by
  have hindividual : individualAddress (be48 r.body 2) = true := by rw [individualAddress, h]; rfl
  exact (if_pos hindividual).trans (doneIf_differs ..)

end

/-- Settles O50: the fields by their bytes, the refusal by the group bit, and the write with its queue. -/
theorem partSettingsAreWrittenTogether : Obligations.PartSettingsAreWrittenTogether := by
  refine ⟨fun b => ⟨be48_toNat b 2, be48_groupBit b 2, parseSettings_eq b⟩, fun s r rest h => ?_⟩
  intro a p high stored
  refine ⟨fun hgroup => serves_of_names rfl h (serveWriteSettings_refused _ hgroup), fun hindividual => ?_⟩
  rw [← watermarksWritten_eq stored s.queue]
  exact serves_of_names rfl h (serveWriteSettings_stored _ hindividual)

/-! ## RESET PART (R186) -/

section
variable {r : Request} {s : State}

theorem serveResetPart_busy (h : s.store.snapshot ≠ none) : serveResetPart r s = refuse .storeBusy s :=
  if_pos (Option.isSome_iff_ne_none.mpr h)

theorem serveResetPart_idle (h : s.store.snapshot = none) :
    serveResetPart r s = { done .empty (pendReset s) with acceptsReset := true } := by
  have hidle : ¬s.store.busy = true := by simp [Store.busy, h]
  exact if_neg hidle

theorem resetPartTimeOut_ready (h : s.mgmt.resetTaken = none) : resetPartTimeOut s = s := by
  rw [resetPartTimeOut, h]

theorem resetPartTimeOut_pending {u : BitVec 32} (h : s.mgmt.resetTaken = some u) :
    resetPartTimeOut s = if s.timer - u = 500 then resetByRequest s else s := by
  rw [resetPartTimeOut, h]
  exact if_congr decide_eq_true_iff rfl rfl

end

theorem resetPartTimeLimit_does {s t : State} (h : resetPartTimeOut s = t) : Does .resetPartTimeLimit s t := h ▸ rfl

/-- Settles O41: the two answers of the request, then the time limit before, at and after its time. -/
theorem resetPartIsTakenAndTimesOut : Obligations.ResetPartIsTakenAndTimesOut := by
  refine fun s => ⟨fun r rest h => ⟨fun hbusy => ?_, fun hidle => ?_⟩, fun hready => ?_,
    fun u hpending => ⟨fun hearly => ?_, fun hdue => ?_⟩⟩
  · exact serves_of_asks rfl h (serveResetPart_busy (s := taken r rest s) hbusy)
  · exact does_of_asks rfl h (serveResetPart_idle (s := taken r rest s) hidle)
  · exact resetPartTimeLimit_does (resetPartTimeOut_ready hready)
  · exact resetPartTimeLimit_does ((resetPartTimeOut_pending hpending).trans (if_neg hearly))
  · refine ⟨_, resetPartTimeLimit_does (t := resetByRequest s) ?_, partReset_isReset .released s, rfl⟩
    exact (resetPartTimeOut_pending hpending).trans (if_pos hdue)

end Sys2Proof.Machine
end

section
/-! Start-up (R192 to R195): the release of the reset, the reading of the image region, the defaults, and the
contents of a good image with the start-up enables. -/

namespace Sys2Proof.Machine

/-! ## The release (R192) -/

/-- Settles O17: the command's one test. -/
theorem resetReleaseBeginsStartUp : Obligations.ResetReleaseBeginsStartUp := fun _ =>
  ⟨fun hheld => congrArg act (if_pos hheld), fun hfree => congrArg act (if_neg hfree)⟩

/-! ## The reading of the image region (R192) -/

theorem imageRead_does {s t : State} (h : finishImageRead s = t) : Does .imageRead s t := h ▸ rfl

theorem imageReadTimeLimit_does {s t : State} (h : imageReadTimeOut s = t) : Does .imageReadTimeLimit s t := h ▸ rfl

section
variable {s : State}

theorem startingUp_iff : s.startingUp = true ↔ s.power = .released ∧ s.switch = .bypass := by
  cases hswitch : s.switch <;> simp [State.startingUp, State.isInLine, hswitch]

theorem finishImageRead_idle (h : ¬s.startingUp = true) : finishImageRead s = s := if_neg h

theorem finishImageRead_good {c : ImageContents} (h : s.startingUp = true) (himage : s.store.image = sealedImage c) :
    finishImageRead s = startOnImage c s := by
  rw [finishImageRead, if_pos h, himage, imageCondition_sealed]

theorem finishImageRead_defaults (h : s.startingUp = true) (himage : ∀ c, s.store.image ≠ sealedImage c) :
    finishImageRead s = startOnDefaults s := by
  rw [finishImageRead, if_pos h]
  split
  · rename_i c hgood
    exact absurd (imageCondition_good_iff.mp hgood) (himage c)
  · rfl
  · rfl

theorem limitReached_iff (start limit : BitVec 32) : limitReached s start limit = true ↔ s.timer - start = limit :=
  decide_eq_true_iff

/-- The time of the reading is counted from 0, where the timer stands at the release (R20, R192). -/
theorem imageReadTimeOut_eq :
    imageReadTimeOut s = if s.startingUp ∧ s.timer = 200 then startOnDefaults s else s := by
  simp only [imageReadTimeOut, limitReached_iff, sub_zero]

end

/-! ## The working tables (R193, R194) -/

theorem loadTables_group (c : ImageContents) (d : Bool) (s : State) (g : GroupId) :
    (loadTables c d s).groups[g] = loadGroup c.records[g] c.nowBanks[g] s.groups[g] := ofFn_get _ g

theorem startOnDefaults_stream (s : State) (i : StreamId) : (startOnDefaults s).streams[i] = defaultStreamEntry :=
  Vector.getElem_replicate ..

theorem startOnDefaults_group (s : State) (g : GroupId) :
    (startOnDefaults s).groups[g] = loadGroup defaultGroupRecord defaultBank s.groups[g] := by
  have hrecord : (defaultContents s.ident.factory).records[g] = defaultGroupRecord := Vector.getElem_replicate ..
  have hbank : (defaultContents s.ident.factory).nowBanks[g] = defaultBank := Vector.getElem_replicate ..
  exact (loadTables_group _ true s g).trans (by rw [hrecord, hbank])

/-- The defaulted flag holds nSUPV from the end of start-up on (R137, R194). -/
theorem startOnDefaults_supv (s : State) : (lineConditions (startOnDefaults s)).supv = true := by
  simp [lineConditions, State.isInLine, startOnDefaults, endStartUp, loadTables]

/-- Settles O18: where neither command starts the part up, then the start on the defaults, to which both lead. -/
theorem startUpLoadsTheDefaults : Obligations.StartUpLoadsTheDefaults := by
  refine ⟨fun s hidle => ?_, fun s hearly => ?_, fun s c hpower hbypass hc => ?_⟩
  · have hnot : ¬s.startingUp = true := startingUp_iff.not.mpr hidle
    exact ⟨imageRead_does (finishImageRead_idle hnot),
      imageReadTimeLimit_does (imageReadTimeOut_eq.trans (if_neg fun hdue => hnot hdue.1))⟩
  · exact imageReadTimeLimit_does (imageReadTimeOut_eq.trans (if_neg fun hdue => hearly hdue.2))
  · have hstart : s.startingUp = true := startingUp_iff.mpr ⟨hpower, hbypass⟩
    have hdoes : Does c s (startOnDefaults s) := by
      obtain ⟨rfl, himage⟩ | ⟨rfl, hlate⟩ := hc
      · exact imageRead_does (finishImageRead_defaults hstart himage)
      · exact imageReadTimeLimit_does (imageReadTimeOut_eq.trans (if_pos ⟨hstart, hlate⟩))
    exact ⟨_, hdoes, rfl, rfl, startOnDefaults_supv s, rfl, rfl, rfl, startOnDefaults_stream s,
      startOnDefaults_group s, rfl, rfl, rfl⟩

/-! ## The start-up enables (R193) -/

/-- A record that start-up enables: its enable-at-start is on, and it passes validation (R44, R193). -/
def enabledByStartUp (streams : Vector StreamEntry 16) (cfg : GroupRecord) : Bool :=
  cfg.enableAtStart && decide (validate streams[cfg.stream] cfg = none)

/-- A group as the start-up enables leave it. -/
def startedGroup (streams : Vector StreamEntry 16) (x : Group) : Group :=
  if enabledByStartUp streams x.config then enabledGroup .noSignal x else x

/-- What the start-up enable of group `g` raises: GROUP ENABLED, then TIMING (R45, R151). -/
def startEvents (s : State) (g : GroupId) (q : EventQueue) : EventQueue :=
  if enabledByStartUp s.streams s.groups[g].config then
    createEvent s.timer (.timing g .noSignal) none (createEvent s.timer (.groupEnabled g) none q)
  else q

/-- The state with the start-up enables of the groups `l` done, in their order. -/
def startedState (l : List GroupId) (s : State) : State :=
  { s with
      groups := Vector.ofFn fun k : Fin 8 => if k ∈ l then startedGroup s.streams s.groups[k] else s.groups[k]
      events := l.foldl (fun q g => startEvents s g q) s.events }

section
variable {s : State}

theorem startedState_group (l : List GroupId) (k : GroupId) :
    (startedState l s).groups[k] = if k ∈ l then startedGroup s.streams s.groups[k] else s.groups[k] := ofFn_get _ k

theorem startEvents_loadTables (c : ImageContents) (d : Bool) (g : GroupId) (q : EventQueue) :
    startEvents (loadTables c d s) g q =
      if enabledByStartUp c.streams c.records[g] then
        createEvent s.timer (.timing g .noSignal) none (createEvent s.timer (.groupEnabled g) none q)
      else q := by
  rw [startEvents, loadTables_group]
  rfl

section
variable (hquiet : ∀ i : StreamId, s.supervision[i].activity ≠ .active)
include hquiet

/-- With no stream ACTIVE a start-up enable leads to NO-SIGNAL (R45, R193). -/
theorem enableAtStart_eq (g : GroupId) :
    enableAtStart s g =
      { s with groups := upd s.groups g (startedGroup s.streams s.groups[g]),
               events := startEvents s g s.events } := by
  have hstarts : enabledByStartUp s.streams s.groups[g].config = true ↔
      s.groups[g].config.enableAtStart = true ∧ validateGroup s g = none := by
    rw [enabledByStartUp, Bool.and_eq_true, decide_eq_true_eq, validateGroup]
  rw [enableAtStart, startedGroup, startEvents, if_congr hstarts rfl rfl, if_congr hstarts rfl rfl]
  split
  · rw [enableGroup_eq, if_neg (hquiet _)]
  · rw [upd_self]

/-- A start-up enable of one more group, which stands as it was loaded. -/
theorem enableAtStart_startedState {l : List GroupId} {g : GroupId} (hg : g ∉ l) :
    enableAtStart (startedState l s) g = startedState (l ++ [g]) s := by
  have hgroup : (startedState l s).groups[g] = s.groups[g] := (startedState_group l g).trans (if_neg hg)
  have hgroups : upd (startedState l s).groups g (startedGroup s.streams s.groups[g]) =
      (startedState (l ++ [g]) s).groups := by
    refine Vector.ext fun k hk => (upd_get_fin _ g ⟨k, hk⟩ _).trans (.trans ?_ (startedState_group _ ⟨k, hk⟩).symm)
    by_cases hkg : g = ⟨k, hk⟩
    · subst hkg
      simp
    · rw [if_neg hkg, startedState_group]
      simp [Ne.symm hkg]
  have hevents : startEvents s g (startedState l s).events = (startedState (l ++ [g]) s).events := by
    simp [startedState]
  have hraised (q : EventQueue) : startEvents (startedState l s) g q = startEvents s g q := by
    rw [startEvents, hgroup]
    rfl
  rw [enableAtStart_eq (s := startedState l s) hquiet, hgroup, hraised, hevents]
  exact congrArg (fun v => { startedState (l ++ [g]) s with groups := v }) hgroups

/-- The start-up enables of distinct groups, each as it was loaded. -/
theorem foldl_enableAtStart {l : List GroupId} (hl : l.Nodup) : l.foldl enableAtStart s = startedState l s := by
  induction l using List.reverseRecOn with
  | nil =>
    have hgroups : (startedState [] s).groups = s.groups := Vector.ext fun k hk => startedState_group [] ⟨k, hk⟩
    exact (congrArg (fun v => { s with groups := v }) hgroups).symm
  | append_singleton l g ih =>
    obtain ⟨hl, _, hg⟩ := List.nodup_append.mp hl
    rw [List.foldl_append, ih hl, List.foldl_cons, List.foldl_nil]
    exact enableAtStart_startedState hquiet fun hmem => hg g hmem g (List.mem_singleton_self g) rfl

/-! ## The end of start-up on a good image (R193, R195) -/

variable (c : ImageContents)

theorem startOnImage_startedState :
    startOnImage c s = endStartUp (startedState groupIxs (loadTables c false s)) := by
  rw [startOnImage, foldl_enableAtStart (s := loadTables c false s) hquiet groupIxs_nodup]

theorem startOnImage_group (g : GroupId) :
    (startOnImage c s).groups[g] = startedGroup c.streams (loadGroup c.records[g] c.nowBanks[g] s.groups[g]) := by
  have hgroups : (startOnImage c s).groups = (startedState groupIxs (loadTables c false s)).groups := by
    rw [startOnImage_startedState hquiet]
    rfl
  rw [hgroups, startedState_group, if_pos (mem_groupIxs g), loadTables_group]
  rfl

theorem startOnImage_eq :
    startOnImage c s =
      { s with
          switch := .inLine, streams := c.streams, groups := (startOnImage c s).groups, settings := c.settings
          activeAddress := c.address, pendingAddress := c.address, rateClock := 0, rateDue := false
          store := { s.store with defaulted := false }
          events := groupIxs.foldl (fun q g =>
            if enabledByStartUp c.streams c.records[g] then
              createEvent s.timer (.timing g .noSignal) none (createEvent s.timer (.groupEnabled g) none q)
            else q) s.events } := by
  simp only [← startEvents_loadTables c false]
  rw [startOnImage_startedState hquiet]
  rfl

end

end

/-- Settles O19: the part block by block as start-up on the image leaves it, then each group by whether it starts. -/
theorem startUpLoadsAGoodImage : Obligations.StartUpLoadsAGoodImage := by
  intro s x hpower hbypass himage hunseen _ starts loaded
  have hquiet (i : StreamId) : s.supervision[i].activity ≠ .active := by rw [hunseen i]; nofun
  have hgroup (g : GroupId) :
      (startOnImage x s).groups[g] = if starts g then enabledGroup .noSignal (loaded g) else loaded g :=
    startOnImage_group hquiet x g
  refine ⟨(startOnImage x s).groups, imageRead_does ?_, fun g => ⟨fun hstays => ?_, fun hstarts => ⟨?_, fun i => ?_⟩⟩⟩
  · rw [finishImageRead_good (startingUp_iff.mpr ⟨hpower, hbypass⟩) himage]
    exact startOnImage_eq hquiet x
  · exact (hgroup g).trans (if_neg (ne_true_of_eq_false hstays))
  · rw [(hgroup g).trans (if_pos hstarts)]
    rfl
  · rw [(hgroup g).trans (if_pos hstarts)]
    exact bothCleared_get .idle _ i

end Sys2Proof.Machine
end

section
/-! The Configuration Store (R187 to R190): the taking of a store by STORE CONFIG, and its end. -/

namespace Sys2Proof.Machine

theorem store_busy_iff {t : Store} : t.busy = true ↔ t.snapshot ≠ none := Option.isSome_iff_ne_none

section
variable {s : State}

/-! ## The end of a store (R190) -/

theorem completeStore_busy {x : ImageContents} (h : s.store.snapshot = some x) :
    completeStore s =
      raiseAt .storeDone
        { s with store := { s.store with snapshot := none, faultLatch := false, image := sealedImage x,
                                         defaulted := false } } := by
  rw [completeStore, h]

theorem completeStore_idle (h : s.store.snapshot = none) : completeStore s = s := by
  rw [completeStore, h]

theorem faultStore_busy (h : s.store.snapshot ≠ none) :
    faultStore s =
      raiseAt .storeFault { s with store := { s.store with snapshot := none, faultLatch := true, image := .blank } } :=
  if_pos (store_busy_iff.mpr h)

theorem faultStore_idle (h : s.store.snapshot = none) : faultStore s = s :=
  if_neg (store_busy_iff.not.mpr (not_not.mpr h))

theorem storeTimeOut_due (h : s.timer - s.store.taken = 400) : storeTimeOut s = faultStore s :=
  if_pos ((limitReached_iff ..).mpr h)

theorem storeTimeOut_early (h : s.timer - s.store.taken ≠ 400) : storeTimeOut s = s :=
  if_neg ((limitReached_iff ..).not.mpr h)

theorem storeTimeOut_idle (h : s.store.snapshot = none) : storeTimeOut s = s := by
  rw [storeTimeOut, faultStore_idle h, ite_self]

/-! ## The request (R187, R189) -/

theorem serveStoreConfig_busy {r : Request} (h : s.store.snapshot ≠ none) :
    serveStoreConfig r s = refuse .storeBusy s := if_pos (store_busy_iff.mpr h)

theorem serveStoreConfig_idle {r : Request} (h : s.store.snapshot = none) :
    serveStoreConfig r s = done .empty (beginStore s) := if_neg (store_busy_iff.not.mpr (not_not.mpr h))

theorem snapshotOf_group (g : GroupId) :
    (snapshotOf s).records[g] = s.groups[g].config ∧ (snapshotOf s).nowBanks[g] = s.groups[g].nowBank :=
  ⟨ofFn_get _ g, ofFn_get _ g⟩

end

/-- Settles O40: the store in progress by its three ends, then the states in which they are no events. -/
theorem storesEndInACompletionOrAFault : Obligations.StoresEndInACompletionOrAFault := by
  intro s faulted
  refine ⟨fun _ => rfl, fun x hx => ?_, fun hidle => ?_, fun hnot => ?_⟩
  · have hbusy : s.store.snapshot ≠ none := by rw [hx]; nofun
    exact ⟨congrArg act (completeStore_busy hx), congrArg act (faultStore_busy hbusy),
      fun hdue => congrArg act ((storeTimeOut_due hdue).trans (faultStore_busy hbusy))⟩
  · exact ⟨congrArg act (completeStore_idle hidle), congrArg act (faultStore_idle hidle)⟩
  · exact congrArg act (hnot.elim storeTimeOut_idle storeTimeOut_early)

/-- Settles O59: the two answers of the request, the second with the snapshot of the state in which it is served. -/
theorem storeConfigTakesASnapshot : Obligations.StoreConfigTakesASnapshot := by
  refine fun s r rest h => ⟨fun hbusy => ?_, fun hidle => ?_⟩
  · exact serves_of_asks rfl h (serveStoreConfig_busy (s := taken r rest s) hbusy)
  · exact ⟨snapshotOf (taken r rest s), serves_of_asks rfl h (serveStoreConfig_idle (s := taken r rest s) hidle), rfl,
      rfl, rfl, snapshotOf_group⟩

end Sys2Proof.Machine
end

section
/-! The step on a queue that is not empty: the front command, on the state with the queue's rest (assumption log 25). -/

namespace Sys2Proof.Machine

/-- The equation of the step's second case; `step_empty` is that of the first. -/
theorem step_of_pending_cons {s : State} {c : Instr} {rest : List Instr} (h : s.pending = c :: rest) :
    step s = exec c (withPending rest s) := by
  rw [step, h]

/-- Settles O1: the equation of the step on a waiting command, with the queue's replacement written out. -/
theorem stepRunsTheFrontCommand : Obligations.StepRunsTheFrontCommand :=
  fun _ _ _ => step_of_pending_cons

end Sys2Proof.Machine
end
